-- ==== Sys2Proof/Word.lean ====
section
/-! DEFINITION. The wire types of Table 00.3 and the plain byte list. Every multi-byte integer is
little-endian with bit 0 least significant (R1); the byte-order helpers stand in
Sys2Proof/Machine/Bytes.lean. -/

namespace Sys2Proof

/-- u8 of Table 00.3. -/
abbrev U8 := BitVec 8
/-- u16 of Table 00.3; an s16 is read from it by `BitVec.toInt`. -/
abbrev U16 := BitVec 16
/-- u24 of Table 00.3. -/
abbrev U24 := BitVec 24
/-- u32 of Table 00.3; an s32 is read from it by `BitVec.toInt`. -/
abbrev U32 := BitVec 32
/-- u40 of Table 00.3. -/
abbrev U40 := BitVec 40
/-- u64 of Table 00.3. -/
abbrev U64 := BitVec 64
/-- bytes[n] of Table 00.3: octets in the order given. -/
abbrev Bytes := List U8
/-- A sparse table: keys strictly rising, no entry equal to the default of its key
(`tblWf` in Sys2Proof/Machine/Tbl.lean). -/
abbrev Tbl (α : Type) := List (Nat × α)

end Sys2Proof
end

