-- ==== Sys2Proof/Types.lean ====
section
/-! DEFINITION. The data of the TU-6408: every record, counter, mode and register the spec gives the
device, one structure per unit, grouped by the work class of Table 02.3 that owns it. Field defaults
are the reset values; INVENTORY.md says for each where it comes from. Commands of the twin link carry
some of these records, which is why they stand ahead of Sys2Proof/Syntax.lean. -/

namespace Sys2Proof

/-! ### Modes, pins, findings -/

/-- The six device modes of Table 03.1. -/
inductive Mode where
  | dormant | proving | commission | service | shadow | lockout
  deriving DecidableEq, Repr

/-- Where the device stands between power and a mode (R431, R40, R414): without VAON; waiting for WAKE to
hold a level for 1 ms; waiting for the other start conditions; held in reset; or running in its mode. -/
inductive Power where
  | off | wakeFilter | startWait | inReset | on
  deriving DecidableEq, Repr

/-- The two host channels of R373. -/
inductive Chan where
  | port | link
  deriving DecidableEq, Repr

/-- The two safety islands of Table 09.1. -/
inductive Island where
  | a | b
  deriving DecidableEq, Repr

/-- A finding given to the fault manager (R285, R286). `car` is its scope: a local car, or the whole
device. `cls` is 0 no class, 1 class T, 2 class L (Table 12.3). -/
structure Finding where
  code : Nat
  sev : Nat
  cls : Nat := 0
  inst : Nat := 0xFF
  car : Option Nat := none
  payload : Bytes := []
  deriving DecidableEq, Repr

/-- Host packet header and check fields of Table 16.3: channel, `flags`, `inst` (the packet's `instance`),
`sequence`, the CRC the packet carried, and the number of payload bytes received. -/
structure Hdr where
  chan : Chan
  flags : U8
  inst : U8
  seq : U16
  crc : U32
  len : Nat
  deriving DecidableEq, Repr

/-! ### Recorder (Table 13.1) -/

/-- An event record. `payload` holds the bytes the owning chapter defines; the bytes after them read 0. -/
structure Record where
  seq : Nat
  opTime : Nat
  powerCycle : Nat
  code : Nat
  sevClass : Nat
  inst : Nat
  payload : Bytes
  suppressed : Nat
  flags : Nat
  deriving DecidableEq, Repr

/-- The token bucket of one event code (R308). `spent` is the number of tokens taken and not yet gained
back, so 0 is a full bucket at any capacity. -/
structure Bucket where
  spent : Nat := 0
  suppressed : Nat := 0
  seen : Bool := false
  deriving DecidableEq, Repr

/-- A log cursor of R310: the next sequence it will return. (log entry 85: DESIGN CHOICE) -/
structure Cursor where
  isOpen : Bool := false
  next : Nat := 0
  cleared : Bool := false
  passed : Bool := false
  afterRes : Bool := false
  lastRead : Nat := 0
  deriving DecidableEq, Repr

/-- An entry of the rate limit list of R308. -/
structure RateEntry where
  listed : Bool := false
  burst : Nat := 0
  refillMs : Nat := 0
  deriving DecidableEq, Repr

/-- A 32-byte challenge of R312 or R399 and the wrong-token count that blocks it; `aged` is its age in frames when the
frame count last started anew. -/
structure Challenge where
  bytes : Option Bytes := none
  issuedAt : Nat := 0
  aged : Nat := 0
  wrongTimes : List Nat := []
  blockedUntil : Nat := 0
  issued : Nat := 0
  deriving DecidableEq, Repr

/-- The recorder: MRAM log, SRAM buffer, ring of a full log, reserved slot, flush state, buckets,
cursors, rate list, wall-clock mark and clear challenge (chapter 13). (log entry 13: DESIGN CHOICE) -/
structure Rec where
  log : List Record := []
  buffer : List Record := []
  ring : List Record := []
  ringLost : Option Nat := none
  reserved : Option Record := none
  notKept : Nat := 0
  firstNotKept : Nat := 0
  nextSeq : Nat := 0
  flushing : Option Nat := none
  flushPfail : Bool := false
  flushAgain : Bool := false
  pfailAgain : Bool := false
  flushDue : Bool := false
  heldTrigger : Bool := false
  lastFlush : Nat := 0
  pfailUs : Nat := 0
  unwritten : Bool := false
  discarded : Nat := 0
  gapNext : Bool := false
  jumpNext : Bool := false
  warned : Bool := false
  suppressedTotal : Nat := 0
  damagedSeqs : List Nat := []
  buckets : Tbl Bucket := []
  cursors : Tbl Cursor := []
  rates : Tbl RateEntry := []
  ratesNext : Option (Tbl RateEntry) := none
  lastMark : Option (Nat × Nat) := none
  clearCh : Challenge := {}
  clearing : Option Hdr := none
  lastClear : Option Nat := none
  deriving DecidableEq, Repr

/-! ### Fault manager and memory (chapter 12) -/

/-- The fault manager's counters and reactions in progress (R285 to R289, Table 12.6). -/
structure Fm where
  maxSev : Nat := 0
  nestMax : Nat := 0
  devReaction : Option Nat := none
  carReaction : Tbl (Option Nat) := []
  countT : Tbl Nat := []
  countL : Tbl Nat := []
  lastCode : Nat := 0
  lastSev : Nat := 0
  lastTime : Nat := 0
  tTimes : Tbl (List Nat) := []
  tRaised : Tbl (Option Nat) := []
  roleL : Bool := false
  deriving DecidableEq, Repr

/-- Memory counters of Table 12.6 and live sparing (R293): stuck words per bank, spares taken, banks being copied, banks
whose copy takes over at the next epoch boundary, and banks that wait for the next PROVING. `journal` says that an
interrupted MRAM test left a word in the journal row (R44), `itemLost` that both copies of an item of R296 are lost,
`secretsLost` that the wrapped secrets are such an item. -/
structure Mem where
  sramCorrT : Nat := 0
  sramCorrL : Nat := 0
  sramUncT : Nat := 0
  sramUncL : Nat := 0
  mramCorrT : Nat := 0
  mramCorrL : Nat := 0
  mramUncT : Nat := 0
  mramUncL : Nat := 0
  scrubLast : Nat := 0
  scrubMax : Nat := 0
  stuck : Tbl Nat := []
  spared : Nat := 0
  copying : List Nat := []
  journal : Bool := false
  itemLost : Bool := false
  secretsLost : Bool := false
  takeover : List Nat := []
  pending : List Nat := []
  deriving DecidableEq, Repr

/-! ### Slack ledger (chapter 02) -/

/-- One work class of the slack ledger, slack in 0.01 % (R28, Table 02.8). `recent` is the newest-first
list of the counted slacks the mean is taken over. -/
structure SlackClass where
  min : Option Nat := none
  recent : List Nat := []
  last : Nat := 0
  below20 : Nat := 0
  missed : Nat := 0
  deriving DecidableEq, Repr

/-- The slack ledger and the shed state (R28 to R34). `lateRun` and `tbRun` are 0 after a good frame or safety cycle, 1
after one that missed or deviated, 2 once its repeat failed too (R26, R33); `deltaAtTick` and `peakAtTick` are the
timebase values as they stood at the last tick (R34). -/
structure Slack where
  classes : Tbl SlackClass := []
  windowFrames : Nat := 0
  tier1Frames : Nat := 0
  tier2Frames : Nat := 0
  shed : Nat := 0
  shedNext : Option Nat := none
  evalMin : Option Nat := none
  above15 : Nat := 0
  above25 : Nat := 0
  timebaseDelta : Int := 0
  timebasePeak : Nat := 0
  deltaAtTick : Int := 0
  peakAtTick : Nat := 0
  tbRun : Nat := 0
  lateRun : Nat := 0
  clearNext : Bool := false
  secondMin : Option Nat := none
  secondPrev : Option Nat := none
  abandonedA : Bool := false
  linksLate : Bool := false
  deriving DecidableEq, Repr

/-! ### Feedback (chapter 04) -/

/-- Accepted levels of a channel's two comparators or lines, and the equal samples of a level not yet accepted (R61). -/
structure Lines where
  a : Bool := false
  b : Bool := false
  seenA : Nat := 0
  seenB : Nat := 0
  deriving DecidableEq, Repr

/-- One encoder channel (R56 to R71). Counts are interpolated counts; `linear` wraps at 32 bits, `trip` is
the 48-bit trip position. `hist` holds the latest samples, newest first, as (instant in reference cycles,
trip position). Observer outputs are in counts/s and counts/s². -/
structure EncChan where
  lines : Lines := {}
  started : Bool := false
  quad : Int := 0
  fine : Nat := 0
  linear : U32 := 0
  trip : BitVec 48 := 0
  hist : List (Nat × Int) := []
  angle : Nat := 0
  sampleFrame : Nat := 0
  pendingBoth : Bool := false
  valid : Bool := false
  oorRun : Nat := 0
  inRun : Nat := 0
  ovRun : Nat := 0
  ampRatio : Nat := 0
  illegalCount : Nat := 0
  illegalFrames : List Nat := []
  reconCount : Nat := 0
  markErrors : Nat := 0
  markErrRun : Nat := 0
  lastMark : Option U32 := none
  referenced : Bool := false
  uncertain : Bool := false
  obsPos : Int := 0
  obsSpeed : Int := 0
  obsAcc : Int := 0
  standstill : Bool := false
  stillPos : Int := 0
  slowSamples : Nat := 0
  speedRun : Nat := 0
  speedValid : Bool := false
  direction : Nat := 0
  accClamped : Bool := false
  offset : Int := 0
  deriving DecidableEq, Repr

/-- One SSI port (R72 to R74, R192). Positions are in nm. `goods` is the newest-first list of good frames
(position, latch instant in reference cycles) since `valid` last set. `gap` says that no frame has come since a takeover
(R272). -/
structure SsiPort where
  raw : U32 := 0
  posField : Nat := 0
  pos : Int := 0
  statusBits : Nat := 0
  frameNo : Nat := 0
  valid : Bool := false
  badRun : Nat := 0
  framesBad : Nat := 0
  cyclesSinceGood : Nat := 0
  posB : Int := 0
  goods : List (Int × Nat) := []
  clockAbsent : Bool := false
  gap : Bool := false
  ever : Bool := false
  deriving DecidableEq, Repr

/-- Car position, fusion and slip (R75 to R78). Positions, `c`, `cAnchor`, `slip` and residuals are in nm.
`sampled` and `sampleFrame` are the motor-derived position and the frame of the latest hoist sample;
`slipHist` pairs slip residuals with their latch instants, newest first. -/
structure CarFb where
  sampled : Int := 0
  sampleFrame : Nat := 0
  c : Int := 0
  cAnchor : Int := 0
  anchored : Bool := false
  motorWasValid : Bool := false
  residuals : List (Int × Int) := []
  anchoredHere : Bool := false
  tripDist : Nat := 0
  lastMotor : Int := 0
  slip : Int := 0
  slipOver : Nat := 0
  slipWarned : Bool := false
  slipHist : List (Int × Nat) := []
  rateRun : Nat := 0
  deriving DecidableEq, Repr

/-- The feedback unit. `instant` is the reference cycle of the latest sampling instant. (log entry 13: DESIGN CHOICE) -/
structure Fb where
  chans : Tbl EncChan := []
  ssi : Tbl SsiPort := []
  cars : Tbl CarFb := []
  instant : Option Nat := none
  deriving DecidableEq, Repr

/-- What R80 mirrors of a channel, trip position as reported, and of a car. -/
structure ChanMirror where
  trip : Int := 0
  angle : Nat := 0
  referenced : Bool := false
  uncertain : Bool := false
  deriving DecidableEq, Repr

structure CarMirror where
  c : Int := 0
  cAnchor : Int := 0
  anchored : Bool := false
  tripDist : Nat := 0
  deriving DecidableEq, Repr

/-- The feedback part of a mirrored commit (R80). -/
structure FbMirror where
  chans : Tbl ChanMirror := []
  cars : Tbl CarMirror := []
  deriving DecidableEq, Repr

/-- The sine and cosine comparators' outputs, or lines A and B, held at one level for a number of reference cycles. -/
structure LineRun where
  cycles : Nat
  a : Bool
  b : Bool
  deriving DecidableEq, Repr

/-- A rising edge of a channel's reference mark: the quadrant and the linear position it finds (R66). -/
structure MarkEdge where
  quadrant : Fin 4
  linear : U32
  deriving DecidableEq, Repr

/-- What an island sees of one channel of a safety input: a level that its filter accepts (R197), or a raw edge at an
instant in reference cycles (R122, R209). (log entry 97: DESIGN CHOICE) -/
inductive InputEvent where
  | accepted (level : Bool)
  | rawEdge (instant : Nat)
  deriving DecidableEq, Repr

/-- What the analogue front end of one channel gives at one sampling instant (R56 to R62): raw track values in µV, and the
levels of the two comparators, or of lines A and B, over the reference cycles since the last sample, oldest first.
(log entry 33: DESIGN CHOICE) -/
structure EncSample where
  chan : Fin 16
  sin : Int
  cos : Int
  lines : List LineRun
  deriving DecidableEq, Repr

/-! ### Loop engine (chapter 05) -/

/-- One second-order section's coefficients (s16 integers and shift, "Arithmetic"). -/
structure Sec where
  b0 : Int := 0
  b1 : Int := 0
  b2 : Int := 0
  a1 : Int := 0
  a2 : Int := 0
  cshift : Nat := 0
  aw : Bool := false
  deriving DecidableEq, Repr

/-- A coefficient bank. `seq` is the `stage_seq` it was staged with. (log entry 38: DESIGN CHOICE) -/
structure Bank where
  secs : List Sec := []
  uMin : Int := -32768
  uMax : Int := 32767
  slew : Nat := 0
  ffGain : Int := 0
  seq : Nat := 0
  deriving DecidableEq, Repr

/-- Section state: Q15 states z1, z2 in 2⁻³⁰ (R87), or mantissas with the shared exponent `exp` (R88); `x`
is the input of the last sample with its exponent (R94). -/
structure SecState where
  z1 : Int := 0
  z2 : Int := 0
  out : Int := 0
  exp : Int := 0
  x : Int := 0
  xExp : Int := 0
  deriving DecidableEq, Repr

/-- One loop (R82 to R96, Table 05.14). `r` and `y` are in native units, `injSum` is the sum of its injected
signals in the last sample. On a standby `edge` is u at the last epoch boundary, `shadowDiffs` the differences of R102 with
their frames, newest first, without those that a later one of the last second exceeds. -/
structure Loop where
  active : Bank := {}
  staged : Bank := {}
  secs : List SecState := []
  aw : Bool := false
  slewing : Bool := false
  u : Int := 0
  e : Int := 0
  f : Int := 0
  v : Int := 0
  r : Int := 0
  y : Int := 0
  casc : Int := 0
  injSum : Int := 0
  delivered : Int := 0
  running : Bool := false
  srcLost : Bool := false
  satCount : Nat := 0
  awSamples : Nat := 0
  stageSeq : Nat := 0
  lastSwapEpoch : Nat := 0
  edge : Int := 0
  shadowRun : Nat := 0
  shadowDiffs : List (Nat × Nat) := []
  deriving DecidableEq, Repr

/-- A coefficient swap between its request and its reply (R93): the request (none on a device that only
mirrors it, and once answered), its mask, the loops still to swap, reset mode, the epoch of its commit, whether that
boundary has passed, and whether its event has been recorded. -/
structure Swap where
  hdr : Option Hdr
  mask : Nat
  left : Nat
  isReset : Bool
  epoch : Nat
  armed : Bool
  told : Bool := false
  deriving DecidableEq, Repr

/-- A loop-configuration record: keys 0x2100 to 0x2110 as `LOOP_CONFIG_WRITE` carries them (Table 05.6). -/
structure LoopCfg where
  role : U8
  owner : U8
  rate : U8
  phase : U8
  format : U8
  sections : U8
  awMode : U8
  refSrc : U16
  fbSrc : U16
  ffSrc : U16
  outDst : U16
  errFs : U32
  errWrap : U32
  deadband : U32
  ffFs : U32
  outFs : U32
  shadowTol : U16
  deriving DecidableEq, Repr

/-- A section entry on the wire (Table 05.7). -/
structure SecWire where
  b0 : U16
  b1 : U16
  b2 : U16
  a1 : U16
  a2 : U16
  cshift : U8
  flags : U8
  deriving DecidableEq, Repr

/-- An injection slot (R97 to R99). `n` counts injected samples; `lfsr` is the PRBS register; `maxS` is the
`inject_max_s` it started with.
(log entry 85: DESIGN CHOICE) -/
structure InjSlot where
  busy : Bool := false
  loop : Nat := 0
  signal : Nat := 0
  node : Nat := 0
  amp : Int := 0
  p1 : Nat := 0
  p2 : Nat := 0
  p3 : Nat := 0
  p4 : Nat := 0
  n : Nat := 0
  lfsr : Nat := 0
  startFrame : Nat := 0
  maxS : Nat := 0
  deriving DecidableEq, Repr

/-- The capture unit (R100). `samples` is newest first; each holds the four channels' s32 values. `skip`
counts trigger-loop samples to the next stored one; `injSeen` says that the trigger's injection has started; `took` that
a sample was stored in this frame.
(log entry 85: DESIGN CHOICE) -/
structure Capture where
  state : Nat := 0
  trigLoop : Nat := 0
  trigger : Nat := 0
  trigArg : Nat := 0
  decim : Nat := 1
  nodes : List (Nat × Nat) := []
  depth : Nat := 1
  pretrigger : Nat := 0
  level : Int := 0
  timeoutMs : Nat := 0
  armFrame : Nat := 0
  skip : Nat := 0
  samples : List (List Int) := []
  after : Nat := 0
  prev : Option Int := none
  trigIndex : Nat := 0
  injSeen : Bool := false
  took : Bool := false
  deriving DecidableEq, Repr

/-- Plausibility model of one car (R101): newest-first window of (residual, a_p) in µm/s², the anomaly of
the last sample, whether it was recorded in this trip, the window mean and the limit. -/
structure Plaus where
  window : List (Int × Int) := []
  anomaly : Bool := false
  recorded : Bool := false
  limit : Nat := 0
  mean : Int := 0
  deriving DecidableEq, Repr

/-- The loop engine. `ran` lists the loops that have had their sample in the frame, `pulled` those whose sample came early
because a loop of their chain needed it, and `late` those, with their hold, that wait for the loops they read (R86).
(log entry 13: DESIGN CHOICE) -/
structure Loops where
  loops : Tbl Loop := []
  inj : Tbl InjSlot := []
  cap : Capture := {}
  plaus : Tbl Plaus := []
  swap : Option Swap := none
  ran : List Nat := []
  pulled : List Nat := []
  late : List (Nat × Bool) := []
  deriving DecidableEq, Repr

/-! ### Hoist motion (chapter 06) -/

/-- A stretch of constant jerk: duration in s, jerk in µm/s³. -/
structure Stretch where
  dur : Rat
  jerk : Rat
  deriving DecidableEq, Repr

/-- A planned profile along the direction `dir` (1 up, -1 down): start state in µm, µm/s, µm/s² along the
direction of travel, the stretches, and the instants (s) at which S10, S12 and S13 begin. -/
structure Plan where
  x0 : Rat := 0
  v0 : Rat := 0
  a0 : Rat := 0
  dir : Int := 1
  runs : List Stretch := []
  target : Int := 0
  vPeak : Int := 0
  s10At : Rat := 0
  s12At : Rat := 0
  s13At : Rat := 0
  endAt : Rat := 0
  deriving DecidableEq, Repr

/-- Phases of the start and stop sequences of R112 and R115. -/
inductive HPhase where
  | idle | waitReady | settle | brakesLifting | running | brakesSetting | torqueHold | torqueRamp | emergency
  deriving DecidableEq, Repr

/-- What the hoist is moving for. -/
inductive HKind where
  | none | trip | jog | relevel | learn | brakeTest | rescue
  deriving DecidableEq, Repr

/-- A door-zone or switch channel during a learning run (R122): raw edges counted, position latched at the
first raw edge since the last confirmed state. -/
structure LearnChan where
  edges : Nat := 0
  latched : Option Int := none
  level : Bool := false
  deriving DecidableEq, Repr

/-- The learning run of one car (R121 to R125). `edgesA` and `edgesB` hold the confirmed door-zone edges of both
passes with `splitA` and `splitB` edges in the upward one; `pass` is 0 upward, 1 downward; `swPos` holds the confirmed edges
of channel n of switch k under 2k + n. -/
structure Learn where
  state : Nat := 0
  reason : Nat := 0
  dz : Nat := 0
  switches : List Nat := []
  pass : Nat := 0
  chans : Tbl LearnChan := []
  edgesA : List (Int × Bool) := []
  edgesB : List (Int × Bool) := []
  splitA : Nat := 0
  splitB : Nat := 0
  swPos : Tbl (List (Int × Bool)) := []
  found : List Int := []
  swFound : Tbl (Option Int) := []
  deriving DecidableEq, Repr

/-- The static brake test of one car (R120). `phase` is 0 start, 1 ramp up, 2 hold, 3 ramp down; `notify` is who waits for
its completion. -/
structure BTest where
  state : Nat := 0
  brakes : Nat := 0
  dirs : Nat := 0
  dir : Int := 0
  phase : Nat := 0
  torque : Int := 0
  peak : Int := 0
  startNm : Int := 0
  moveUp : Int := 0
  moveDown : Int := 0
  phaseFrame : Nat := 0
  notify : List (Chan × U16) := []
  deriving DecidableEq, Repr

/-- The hoist of one car (chapter 06, Table 06.5). `dem` is the control path's demand for outputs k = 0 to
3 (contactor, brake A, brake B, STO); `demEpoch` is what joins it at the next epoch boundary. `ran` says that the move has
begun to run, `jogStop` that the stop in progress is the jog's own, `jogIgnored` the direction of an ignored press. `left`
holds from a start sequence until the car next levels (R150), `stopped3` from a class 3 stop until the next start (R152). -/
structure Hoist where
  phase : HPhase := .idle
  kind : HKind := .none
  plan : Option Plan := none
  tau : Rat := 0
  refPos : Int := 0
  refSpeed : Int := 0
  refAcc : Int := 0
  targetLanding : Nat := 0xFF
  targetPos : Int := 0
  vLimit : Nat := 0
  stopClass : Option Nat := none
  stopReq : Option Nat := none
  stopBehind : Bool := false
  left : Bool := false
  stopped3 : Bool := false
  ran : Bool := false
  prevDir : Int := 0
  dwellRunning : Bool := false
  levelled : Bool := false
  levelError : Int := 0
  lastLanding : Nat := 0xFF
  relevels : Nat := 0
  relevelPending : Bool := false
  replanned : Bool := false
  slowed : Bool := false
  load : Option Int := none
  settled : Bool := false
  pretorque : Int := 0
  torque : Int := 0
  rampFrom : Int := 0
  rampFrame : Nat := 0
  ovh : List Nat := []
  admitFrame : Nat := 0
  trips : Nat := 0
  jogDir : Nat := 0
  jogHost : Bool := false
  jogLast : Nat := 0
  jogHold : Bool := false
  jogIgnored : Nat := 0
  jogStop : Bool := false
  waiting : Bool := false
  admitFlag : Bool := false
  admMotor : Nat := 0
  admRegen : Nat := 0
  rescueDone : Bool := false
  dem : BitVec 4 := 0
  demEpoch : Option (BitVec 4) := none
  limitIn : Nat := 0
  learn : Learn := {}
  bt : BTest := {}
  deriving DecidableEq, Repr

/-! ### Door engine (chapter 07) -/

/-- Door states of Table 07.6. -/
inductive DState where
  | unreferenced | referencing | closedLocked | awaitingLock | opening | opened | closing | nudging
  | reversing | stopped | faulted | absent
  deriving DecidableEq, Repr

/-- A door plan: piecewise-constant acceleration. Reuses `Stretch` with `jerk` read as the acceleration
(µm/s²). -/
structure DPlan where
  x0 : Rat := 0
  v0 : Rat := 0
  dir : Int := 1
  runs : List Stretch := []
  target : Int := 0
  vPeak : Int := 0
  d6At : Rat := 0
  endAt : Rat := 0
  capped : Bool := false
  deriving DecidableEq, Repr

/-- What a door does when a deceleration or hold of R137 ends. -/
inductive DNext where
  | none | stop | doOpen | doClose | doNudge | doReference
  deriving DecidableEq, Repr

/-- A demand to stay open: a close that would follow an opening no longer does (R149). -/
def DNext.keepOpen : DNext → DNext
  | .doClose | .doNudge => .none
  | n => n

/-- One door operator (chapter 07, Table 07.5). `frac` counts 1/64 entries. `delta`, `tracked`, `thetaPrev` and
`rotPrev` are in 1/12,288 of an electrical cycle; `force` and `adapt` in µN. `next` is what follows the
deceleration or the opening in progress; `resync` is a stall that awaits its resynchronisation. -/
structure Door where
  state : DState := .unreferenced
  plan : Option DPlan := none
  tau : Rat := 0
  pos : Int := 0
  refSpeed : Int := 0
  refAcc : Int := 0
  next : DNext := .none
  holdOpen : Bool := false
  dwell : Bool := false
  closeDemand : Bool := false
  stayOpen : Bool := false
  carStop : Bool := false
  address : Nat := 0
  frac : Nat := 0
  increment : Int := 0
  amplitude : Nat := 0
  referenced : Bool := false
  tableOk : Bool := false
  tableDown : Bool := false
  tableTries : Nat := 0
  tableCrc : U32 := 0
  tableChange : Bool := false
  nodeLost : Bool := false
  iPrev : List Int := []
  thetaPrev : Option Int := none
  rotPrev : Option Int := none
  fastSamples : Nat := 0
  speeds : List Int := []
  estValid : Bool := false
  estSpeed : Int := 0
  delta : Int := 0
  force : Int := 0
  tracked : Int := 0
  stallRun : Nat := 0
  stalled : Bool := false
  resync : Bool := false
  obstRun : Nat := 0
  obstPeak : Int := 0
  blank : Nat := 0
  lastObstForce : Int := 0
  lastObstPos : Int := 0
  lastCause : Nat := 0xFF
  reopens : Nat := 0
  openObst : Nat := 0
  openRetry : Bool := false
  lockTries : Nat := 0
  curtain : Bool := false
  cleanClose : Bool := false
  adapt : Tbl Int := []
  adaptSum : Tbl (Int × Nat) := []
  closes : Nat := 0
  obstructions : Nat := 0
  nearMisses : Nat := 0
  vLimit : Nat := 0
  openTarget : Nat := 0
  deriving DecidableEq, Repr

/-- What the node of a moving operator goes on from after the mirrored epoch (R135). -/
structure DoorBase where
  pos : Int := 0
  address : Nat := 0
  frac : Nat := 0
  increment : Int := 0
  refSpeed : Int := 0
  deriving DecidableEq, Repr

/-- A microstep table slot (R132): none stands for the default table of its phase count (Table 07.2). -/
structure DoorSlot where
  phases : Nat := 0
  entries : Option (List Int) := none
  deriving DecidableEq, Repr

/-- Hoist and doors, work class MOTION. (log entry 13: DESIGN CHOICE) -/
structure Motion where
  hoist : Tbl Hoist := []
  doors : Tbl Door := []
  slots : Tbl DoorSlot := []
  deriving DecidableEq, Repr

/-! ### Dispatching (chapter 08) -/

/-- Car regimes, codes of Table 08.6. -/
inductive Regime where
  | normal | independent | inspection | firefighter | evacuation | rescue | outOfService
  deriving DecidableEq, Repr

/-- A call (R156 to R159, Table 08.5). State 0 pending, 1 registered, 2 boarded, 3 complete, 4 cancelled, 5
held by another pair (this pair's id); `born` is
the frame of acceptance, `earliest` the frame its wait starts (R175), `shown` the car announced for it, 0xFF before its first
announcement (R171), `notify` the channel and sequence of each host request that entered it, `point` the node (port × 256 + address) of a fixture or station call. -/
structure Call where
  id : Nat
  state : Nat
  kind : Nat
  group : Nat
  origin : Nat
  dest : Nat
  destGroup : Nat
  pax : Nat
  flags : Nat
  namedCar : Nat
  level : Nat
  car : Nat
  moves : Nat
  cost : Int
  born : Nat
  notify : List (Chan × U16)
  point : Option Nat
  leg2 : Option Nat
  earliest : Nat
  shown : Nat := 0xFF
  deriving DecidableEq, Repr

/-- A planned stop (R160, Table 08.6). `calls` are the ids that use it, with true where it is the call's origin. -/
structure Stop where
  landing : Nat
  priority : Bool
  up : Bool
  down : Bool
  provisional : Bool
  calls : List (Nat × Bool)
  deriving DecidableEq, Repr

/-- One local car's dispatching state: regime in force, demands by source, itinerary, passengers aboard, and whether
it takes group calls. `serving` says that its doors have opened at its first stop, `staleOut` that a stale takeover took
it out of group service (R277), `joining` that it becomes a candidate at the next dispatch cycle (R180). `removing` are the
calls that its removal re-dispatches (R181). -/
structure DispCar where
  regime : Regime := .normal
  hostDemand : Option Regime := none
  itin : List Stop := []
  aboard : Nat := 0
  serving : Bool := false
  inService : Bool := true
  faultOut : Bool := false
  recallDone : Bool := false
  leaving : Bool := false
  removedAt : Option Nat := none
  removing : List Nat := []
  joining : Bool := false
  staleOut : Bool := false
  deriving DecidableEq, Repr

/-- A power domain (R183 to R186). `share` is where this pair's part of the motoring and of the regeneration limit begins
and ends, the parts of all pairs filling 0 to 1 in their order; none is all of both. -/
structure Domain where
  hostBudget : Option (Nat × Nat) := none
  share : Option ((Rat × Rat) × (Rat × Rat)) := none
  fallback : Bool := false
  overDraw : Bool := false
  deriving DecidableEq, Repr

/-- A car summary of R166: regime code, load and, per (landing, down), the predicted first level time in ms. The shares of
R184 need the draw that a car has admitted or waits for (motoring and regeneration, W) and its power domain as well.
(log entry 56: DESIGN CHOICE) -/
structure CarSummary where
  car : Nat
  regime : Nat
  load : Int
  times : List (Nat × Bool × Nat)
  domain : Nat
  motor : Nat
  regen : Nat
  deriving DecidableEq, Repr

/-- A candidate of R161: board-set car, origin position, cost, wait and ride. -/
structure Candidate where
  car : Nat
  opos : Nat
  dpos : Nat
  cost : Int
  wait : Nat
  ride : Nat
  deriving DecidableEq, Repr

/-- What passes between pairs for a call transfer (R173): confirmation or release of a call. -/
structure TransferItem where
  release : Bool
  call : Call
  deriving DecidableEq, Repr

/-- What another pair's port brings. `lost` says that it has gone out of reach (R174), `heard` are the cars of which it has
published a summary since the last group epoch boundary, `member` those it has in the groups (R182). -/
structure PairView where
  inReach : Bool := false
  lost : Bool := false
  member : List Nat := []
  heard : List Nat := []
  summaries : List CarSummary := []
  deriving DecidableEq, Repr

/-- Dispatching. `queue` holds local calls waiting for evaluation, `forwarded` those from other pairs, `outItems`
what the next inter-pair cycle sends (peer pair, item of Table 14.4, call, candidate), `transfers` the calls whose
transfer a peer has confirmed, `redispatch` calls with the board-set car chosen for them, `announce` the
registrations that wait for the commit of an epoch (R171), `decisions` frames and durations (µs) of decisions. `refining` is
a refinement that waits for its boundary, in the form of `redispatch`. `waiting` calls join the queue at the next dispatch
cycle (R170), `away` calls are decided or held by another pair, `joined` says that this pair has joined its groups (R182),
`demandsOn` are the demand entries of the policy that demand priority calls now (R179).
(log entry 13: DESIGN CHOICE) -/
structure Disp where
  refining : List (Nat × Nat) := []
  waiting : List Nat := []
  away : List (Nat × Nat) := []
  joined : Bool := false
  demandsOn : List Nat := []
  calls : List Call := []
  cars : Tbl DispCar := []
  queue : List Nat := []
  forwarded : List (Nat × Call × Option Candidate) := []
  outItems : List (Nat × Nat × Call × Option Candidate) := []
  transfers : List (Nat × Nat) := []
  domains : Tbl Domain := []
  pairs : Tbl PairView := []
  groupEpoch : Nat := 0
  groupNext : Option Nat := none
  timekeeper : Bool := false
  decisions : List (Nat × Nat) := []
  refineMoves : Nat := 0
  redispatch : List (Nat × Nat) := []
  announce : List (Nat × Nat) := []
  deriving DecidableEq, Repr

/-! ### Safety islands, inputs and outputs (chapters 09 and 10) -/

/-- One channel of a safety input as one island filters it (R197): its accepted level and the frames of its latest
accepted transitions (R199). -/
structure SafChan where
  level : Bool := false
  times : List Nat := []
  deriving DecidableEq, Repr

/-- One two-channel safety input: channels A and B in islands A and B (R197), consecutive disagreeing cycles and
discrepancy counts per island, hold and chatter (R198, R199), and consecutive cycles in which the islands differ on
channel A and on channel B (R195). `rawA` and `rawB` are each island's position at the first raw edge of a terminal switch
since its last transition (R209). -/
structure SafIn where
  aa : SafChan := {}
  ab : SafChan := {}
  ba : SafChan := {}
  bb : SafChan := {}
  runA : Nat := 0
  runB : Nat := 0
  discA : Nat := 0
  discB : Nat := 0
  held : Bool := false
  chatter : Bool := false
  islRunA : Nat := 0
  islRunB : Nat := 0
  rawA : Option Int := none
  rawB : Option Int := none
  deriving DecidableEq, Repr

/-- Brake supervision of one brake (R218): its output is energised, the monitor has reached the state the output calls
for since the output last changed, and the timer of that change runs. -/
structure BrakeSup where
  reached : Bool := false
  energised : Bool := false
  timed : Bool := false
  deriving DecidableEq, Repr

/-- Supervision of one car by both islands (R190 to R220). Positions in µm, speeds in µm/s, `oA` in nm. Pairs of
positions are (motor_car, p_B). `envA` and `envB` are (v_0, frame) of an envelope; `denyA` and `denyB` say that the
island itself demanded a Stop in the last cycle. -/
structure CarSaf where
  pA : Int := 0
  pB : Int := 0
  vA : Int := 0
  vB : Int := 0
  pAok : Bool := false
  pBok : Bool := false
  vAok : Bool := false
  vBok : Bool := false
  oA : Int := 0
  oAok : Bool := false
  trip : Bool := false
  causes : List (Nat × Nat) := []
  tripTime : Nat := 0
  stop : Bool := false
  denyA : Bool := false
  denyB : Bool := false
  limit : Nat := 0
  limitSrc : Nat := 0
  envA : Option (Nat × Nat) := none
  envB : Option (Nat × Nat) := none
  advBridge : Bool := false
  relBridge : Bool := false
  advReq : Bool := false
  relReq : Bool := false
  relStart : Option (Int × Int) := none
  ucm : Option (Int × Int) := none
  ucmZone : Bool := false
  ucmMove : Option (Int × Int) := none
  dirLatch : Option (Int × Int × Int) := none
  finalDir : Option (Int × Int × Int) := none
  posRun : Nat := 0
  spdRun : Nat := 0
  limRunA : Nat := 0
  limRunB : Nat := 0
  ovRunA : Nat := 0
  ovRunB : Nat := 0
  etRunA : Nat := 0
  etRunB : Nat := 0
  brakeA : BrakeSup := {}
  brakeB : BrakeSup := {}
  closedAt : Option (Int × Int) := none
  btStart : Option (Int × Int) := none
  btPassA : Nat := 0
  btPassB : Nat := 0
  btNagged : Option Nat := none
  permitA : BitVec 4 := 0
  permitB : BitVec 4 := 0
  permRun : Nat := 0
  deriving DecidableEq, Repr

/-- A dark test in progress on one output (R236 to R239). Side 0 is the high side; `judged` is the verdict of R237,
`pulsing` says that the gate is stopped, `start` is the frame of its start. -/
structure DarkTest where
  side : Nat
  isRepeat : Bool
  judged : Option Bool
  pulsing : Bool
  start : Nat
  deriving DecidableEq, Repr

/-- One safety output: demand and since when, gates, sense pins, confirmation, stuck state, the partner's mirrored
output and when it went off, since when the islands deny it (R243), the test in progress and a pending repeat (side,
earliest frame), and the report of Table 10.9 (`lastTest` in frames). (log entry 16: DESIGN CHOICE) -/
structure Out where
  want : Bool := false
  wantFrame : Nat := 0
  offFrame : Nat := 0
  waitPulse : Bool := false
  hs : Bool := false
  ls : Bool := false
  hsfb : Bool := false
  lsfb : Bool := true
  ld : Bool := false
  confirmed : Bool := false
  stuckRun : Nat := 0
  stuck : Bool := false
  vetoed : Bool := false
  partnerOn : Bool := false
  partnerOff : Nat := 0
  denied : Option Nat := none
  test : Option DarkTest := none
  repeatSide : Option (Nat × Nat) := none
  lastResult : Nat := 0
  lastSide : Nat := 0
  failL : Nat := 0
  passed : Nat := 0
  discarded : Nat := 0
  skipped : Nat := 0
  failT : Nat := 0
  lastTest : Option Nat := none
  deriving DecidableEq, Repr

/-- A parsed safety-set body (R223): its number and its entries (key, instance, value). -/
structure SafetySet where
  number : Nat
  entries : List (Nat × Nat × Int)
  digest : Bytes
  deriving DecidableEq, Repr

/-- A 60 s reset window (R246, R249). `state` is the reply's code: 0 idle to 4 void. -/
structure Window where
  state : Nat := 0
  cars : Nat := 0
  armedAt : Nat := 0
  deriving DecidableEq, Repr

/-- How an LRST operation went (R245), in ms: entry skew, hold, release skew, whether one line never
followed, and whether a line was operated again during the hold. -/
structure LrstOp where
  entryMs : Nat
  holdMs : Nat
  releaseMs : Nat
  bothEntered : Bool
  reoperated : Bool
  deriving DecidableEq, Repr

/-- Safety islands, inputs, outputs and reset windows. (log entry 13: DESIGN CHOICE) -/
structure Saf where
  cars : Tbl CarSaf := []
  inputs : Tbl SafIn := []
  outs : Tbl Out := []
  set : Option SafetySet := none
  staged : Option (SafetySet × Nat × Nat) := none
  confirmedAt : Option Nat := none
  setExpired : Bool := false
  tripWin : Window := {}
  lockWin : Window := {}
  enrolWin : Window := {}
  vetoOut : Bool := false
  lastDisagree : Option (Nat × Nat) := none
  deriving DecidableEq, Repr

/-! ### Links, nodes and points (chapters 14 and 15) -/

/-- A node address of a port (R333, R335, R347, R354, Table 15.11). `state` is 0 joined, 2 lost since its last join,
3 never joined. `lastGood` is the counted cycle of the last good reply and `missed` says that this cycle's reply is
known to be missing or bad. `rxSeq` is the last segment taken from the node; `tx…` is the message going to it, with the
segment in flight, `tblSent` the table downloads begun (R133); `entrySeq` and `entryRefused` are those of its latest
destination entry (R363); `refused` that its join was refused for budget, `fresh` that no header has named it yet. -/
structure Node where
  state : Nat := 3
  profile : Nat := 0
  rev : Nat := 0
  replyWords : Nat := 0
  recordWords : Nat := 0
  msgWords : Nat := 0
  uid : U64 := 0
  lastGood : Nat := 0
  missed : Bool := false
  badRun : Nat := 0
  discBad : Nat := 0
  onlyOne : Nat := 0
  firstOnly : Bool := false
  secondOnly : Bool := false
  reply : Bytes := []
  rxSeq : Nat := 0
  rxMsg : Bytes := []
  rxPart : Bytes := []
  txState : Nat := 0
  txMsg : Bytes := []
  txPos : Nat := 0
  txSeq : Nat := 0
  txSeg : Nat := 0
  txSends : Nat := 0
  txHost : Option (Chan × U16) := none
  tblSent : Nat := 0
  entrySeq : Nat := 0
  entryRefused : Bool := false
  refused : Bool := false
  fresh : Bool := false
  deriving DecidableEq, Repr

/-- A point-table entry with its acceptance state (Table 15.1, R350 to R353). `lastIn` is the last accepted value in
range, `stable` the value held in chatter, `changes` the counted cycles of raw changes, `entered` says that the latched
call it shows has been entered (R359). -/
structure Point where
  accepted : Bool := false
  acceptedVal : Nat := 0
  lastIn : Nat := 0
  range : Bool := false
  raw : Nat := 0
  rawRun : Nat := 0
  changes : List Nat := []
  lastChange : Nat := 0
  chatter : Bool := false
  stable : Nat := 0
  stuck : Bool := false
  entered : Bool := false
  forced : Option Nat := none
  output : Nat := 0
  deriving DecidableEq, Repr

/-- A point-map entry (Table 15.3). -/
structure MapEntry where
  point : Nat
  dir : Nat
  offset : Nat
  bit : Nat
  width : Nat
  pflags : Nat
  filter : Nat
  maxActive : Nat
  rangeMin : Int
  rangeMax : Int
  rest : Int
  deriving DecidableEq, Repr

/-- A committed or staged point map of one node address (Table 15.12). -/
structure PointMap where
  present : Bool := false
  expectProfile : Nat := 0
  landing : Nat := 0
  group : Nat := 0
  side : Nat := 0
  entries : List MapEntry := []
  deriving DecidableEq, Repr

/-- One port's running state (Table 14.7); a ring's stands at its primary. `ringState` is 0 intact, 2 broken, 4 upstream
split; `counted` numbers the counted cycles of R347; `recs` holds the records last sent, `down` the last burst, one byte
list per frame; `sent` and `again` are the inter-pair items of this cycle and those whose second copy is due (R338). -/
structure Port where
  unusable : Bool := false
  restarting : Bool := false
  map : List Nat := []
  nextPoll : Nat := 0
  polling : Option Nat := none
  ringState : Nat := 0
  secondaryHeard : Bool := true
  missRun : Nat := 0
  probePasses : Nat := 0
  probing : Bool := false
  probeDue : Bool := false
  splitQuiet : Nat := 0
  mismatchRun : Nat := 0
  counted : Nat := 0
  cycle : Nat := 0
  downCg : Nat := 0
  framesBadT : Nat := 0
  framesBadL : Nat := 0
  mismatches : Nat := 0
  breaks : Nat := 0
  msgAborted : Nat := 0
  framesUnknown : Nat := 0
  budgetRefused : Bool := false
  hostCount : Nat := 0
  formatBad : Bool := false
  sumBad : Tbl Nat := []
  seen : List (Nat × Nat) := []
  itemSeq : Nat := 0
  sums : List CarSummary := []
  sent : List (Nat × Nat) := []
  again : List (Nat × Nat) := []
  recs : List (Nat × Bytes) := []
  down : List Bytes := []
  deriving DecidableEq, Repr

/-- Links, nodes and points, work class LINKS. Nodes and maps are keyed by port × 256 + address, points
by the address of key 0x2030. (log entry 13: DESIGN CHOICE) -/
structure Links where
  ports : Tbl Port := []
  nodes : Tbl Node := []
  points : Tbl Point := []
  deriving DecidableEq, Repr

/-! ### Parameters (chapter 16) -/

/-- Committed or staged parameters: values keyed by key × 256 + instance, unlisted keys at their
defaults; point maps; learned positions of R430. -/
structure Params where
  vals : Tbl Int := []
  maps : Tbl PointMap := []
  deriving DecidableEq, Repr

/-- An entry of `PARAM_WRITE` (Table 16.8). -/
structure ParamEntry where
  key : U16
  inst : U8
  resv : U8
  value : U64
  deriving DecidableEq, Repr

/-! ### Host port (chapter 16) -/

/-- A packet waiting to leave on a channel. `notify` tells a NOTIFY from a reply; `req` is the sequence and
CRC of the request a reply answers. -/
structure OutPkt where
  notify : Bool
  opcode : Nat
  inst : Nat
  seq : Nat
  payload : Bytes
  req : Option (U16 × U32)
  deriving DecidableEq, Repr

/-- One host channel: output queue, requests outstanding, NOTIFY count and drop count (R373, R380, R381). -/
structure HostChan where
  out : List OutPkt := []
  waiting : List (U16 × U32) := []
  notifySeq : Nat := 0
  dropped : Nat := 0
  deriving DecidableEq, Repr

/-- A reply held until a commit is complete (R255) or until an epoch of effect (R386). -/
structure HeldReply where
  hdr : Hdr
  opcode : Nat
  payload : Bytes
  epoch : Nat
  deriving DecidableEq, Repr

/-! ### The pair (chapter 11) -/

/-- One croak slot as heard (Table 11.2): the fields of its latest croak; whether it has croaked in this period; its roles
in the last ten periods, newest first, 0xFF for a miss; and for how many periods in a row it has croaked active. -/
structure Croak where
  heard : Bool := false
  now : Bool := false
  role : Nat := 0
  health : Nat := 0
  arbRequest : Bool := false
  twinOk : Bool := false
  pairTag : Nat := 0
  roles : List Nat := []
  activeRun : Nat := 0
  deriving DecidableEq, Repr

/-- What a device tells its partner of itself over the twin link beside its health record: set number (R227), unit number,
image digests and mirror formats (R280, R281): of the active images, and of its policy tadpole if it holds one. -/
structure TwinId where
  set : Nat
  unit : Nat
  baseDigest : Bytes
  policyDigest : Bytes
  mirrorFormat : Nat
  tadpole : Option Nat
  deriving DecidableEq, Repr

/-- Health record of Table 03.11 (without its CRC), and the set number of R227. -/
structure Health where
  seq : Nat := 0
  opTime : Nat := 0
  mode : Nat := 0
  shed : Nat := 0
  maxSev : Nat := 0
  unitsDone : Nat := 0
  cycleElapsed : Nat := 0
  lastCycle : Nat := 0
  degraded : Nat := 0
  countT : Nat := 0
  countL : Nat := 0
  failingUnit : Nat := 0xFFFF
  divergence : Nat := 0
  epochsMissed : Nat := 0
  minSlack : Nat := 0
  tbPeak : Nat := 0
  tj : Int := 0
  vcore : Nat := 0
  deriving DecidableEq, Repr

/-- Role, croaks, arbitration, twin link and hand-over state of the device. Epochs are epoch numbers. `hand` is 0 none, 1
accepted, 2 from h1 until the release check, 3 resumed until the next boundary; `handIn` says that this device took the
role at h1 and its partner has not yet given it up. `arbWhy` is what an arbitration is for: 1 settlement, 2 silent
partner, 3 split claim, 4 broken twin link. `fellInStep` says that in-step ended by the loss of the twin link alone;
`cleanSilence` that the silence was found within 1 ms. `acks` are the commit completions of the last second. `verdictQueue` holds pairs that asked for
arbitration, with true where the request ended too late for the own next croak; `verdict` is the pair served, POS[0] of
its winner and the periods left; `split` that a split claim is being settled. `alignedIn` is the epoch whose frame a mark last corrected (R23). `yieldWhy` is the cause and code of the mode change a
tail-drop ends with, `yieldHdr` the request for LOCKOUT that waits for it (R437).
(log entries 13: DESIGN CHOICE, 85: DESIGN CHOICE) -/
structure PairSt where
  awaiting : Bool := false
  slots : Tbl Croak := []
  paired : Bool := false
  pairTag : Nat := 0
  partnerUnit : Nat := 0
  releasedState : Nat := 0
  twin : Option TwinId := none
  inStep : Bool := false
  resyncing : Bool := false
  lanes : BitVec 2 := 3
  crkGood : BitVec 2 := 3
  mute : Bool := false
  croaks : Nat := 0
  backA : Bool := false
  backB : Bool := false
  startMisses : Nat := 0
  lastFrame : BitVec 40 := 0
  lastCommit : Nat := 0
  sentEpoch : Nat := 0
  fbSent : FbMirror := {}
  doorBase : Tbl DoorBase := []
  commitsOk : Nat := 0
  commitsRetried : Nat := 0
  resyncs : Nat := 0
  retrying : Bool := false
  acks : List (Nat × Nat) := []
  hand : Nat := 0
  handState : Nat := 0
  handReason : Nat := 0
  handAction : Nat := 0
  h0 : Nat := 0
  h1 : Nat := 0
  handFrame : Nat := 0
  handUs : Nat := 0
  handHdr : Option (Chan × U16) := none
  handIn : Bool := false
  incoming : Bool := false
  yielding : Bool := false
  yieldCause : Nat := 0
  yieldSev : Nat := 0
  yieldOnset : Nat := 0
  yieldMode : Option Mode := none
  yieldWhy : Nat × Nat := (7, 0)
  yieldHdr : Option (Chan × U16) := none
  yieldSent : Bool := false
  checking : Bool := false
  claiming : Bool := false
  claimLeft : Nat := 0
  settleWait : Bool := false
  arbRequest : Bool := false
  arbWhy : Nat := 0
  arbCounted : List Nat := []
  arbVotes : List (Nat × Bool) := []
  arbTries : Nat := 0
  verdict : Option (Nat × Bool × Nat) := none
  verdictQueue : List (Nat × Bool) := []
  split : Bool := false
  takenOver : Bool := false
  yieldHeard : Option Nat := none
  won : Bool := false
  staleWin : Bool := false
  lastSign : Nat := 0
  fellInStep : Bool := false
  cleanSilence : Bool := false
  takeovers : Nat := 0
  staleTakeovers : Nat := 0
  lastKind : Nat := 0
  takeoverUs : Nat := 0
  findingsOut : List Finding := []
  partnerHealth : Option Health := none
  activeDigests : List (Nat × Bytes) := []
  setDiffers : Bool := false
  alignNext : Int := 0
  alignedIn : Option Nat := none
  resetUnmet : Nat := 0
  deriving DecidableEq, Repr

/-! ### Images, keys, secrets and identity (chapter 17) -/

/-- An image slot (Tables 17.2 and 17.3). `body` is the body loaded. -/
structure ImgSlot where
  state : Nat := 0
  data : Bytes := []
  keyId : Nat := 0
  mirrorFormat : Nat := 0
  interpair : Nat := 0
  version : Nat := 0
  floor : Nat := 0
  length : Nat := 0
  digest : Bytes := []
  deriving DecidableEq, Repr

/-- A load session (R392). -/
structure Session where
  type : Nat
  slot : Nat
  total : Nat
  received : Nat
  data : Bytes
  deriving DecidableEq, Repr

/-- Image slots by type × 2 + slot for types 1 to 3, floors, keys and the authorisation challenge. `keysLoaded` says that
the volatile secrets hold their values; while they are cleared (R402) the challenge state and the pairing state (paired,
tag, partner's unit number) stand in their MRAM copies. -/
structure Img where
  slots : Tbl ImgSlot := []
  floors : Tbl Nat := []
  session : Option Session := none
  verifying : Option (Nat × Nat × Hdr) := none
  baseRestart : Option Nat := none
  policyNext : Option Nat := none
  keys : Tbl Bytes := []
  keysLoaded : Bool := true
  enrolKey : Option (Nat × Bytes × Chan × U16) := none
  auth : Challenge := {}
  authCopy : Challenge := {}
  pairCopy : Bool × Nat × Nat := (false, 0, 0)
  tap : Nat := 15
  deriving DecidableEq, Repr

/-! ### Proving (chapter 03) -/

/-- One unit entry of Table 03.9. -/
structure UnitRes where
  result : Nat := 3
  flags : Nat := 0
  detail : Nat := 0xFFFF
  durUs : Nat := 0
  deriving DecidableEq, Repr

/-- PROVING and background proving (R43 to R51). `banksBad` lists the failed SRAM banks, one without a number as 0xFFFF. -/
structure Proving where
  units : Tbl UnitRes := []
  running : Bool := false
  outcome : Nat := 3
  nextMode : Nat := 0xFF
  totalUs : Nat := 0
  powerCycle : Nat := 0
  blocked : Bool := false
  lanesLost : Nat := 0
  portsLost : List Nat := []
  chansLost : List Nat := []
  inputsLost : List Nat := []
  noCapture : Bool := false
  banksBad : List Nat := []
  baseOk : Bool := true
  bgUnit : Option Nat := none
  bgDone : Nat := 0
  bgCycleStart : Nat := 0
  bgLast : Nat := 0
  bgOverdue : Bool := false
  bgReload : Option Nat := none
  healthSeq : Nat := 0
  countT : Nat := 0
  countL : Nat := 0
  failingUnit : Nat := 0xFFFF
  divergence : Nat := 0
  epochsMissed : Nat := 0
  shadowMaxSev : Nat := 0
  ownHealth : Health := {}
  tj : Int := 0
  vcore : Nat := 0
  tjHigh : Bool := false
  deriving DecidableEq, Repr

/-- A pending transition of R437: target mode and the frame in which its reply was queued. -/
structure Pending where
  target : Mode
  chan : Chan
  seq : U16
  deriving DecidableEq, Repr

/-! ### What one commit carries (Table 11.1) -/

/-- The mirrored state of Table 11.1, the host messages in progress by node key (R366), and h1 with its activation of
tadpoles where a hand-over is pending (R269, R281). -/
structure Mirror where
  epoch : Nat
  fb : FbMirror
  motion : Motion
  loops : Loops
  disp : Disp
  outsOn : List Nat
  saf : Saf
  params : Params
  staged : Params
  replay : List (U16 × U32 × Bytes)
  nextSeq : Nat
  unflushed : List Record
  rates : Tbl RateEntry
  opTime : Nat
  cleared : Option Nat
  h1 : Option (Nat × Bool)
  learned : Tbl Int
  digests : List (Nat × Bytes)
  messages : List (Nat × Chan × U16)
  deriving DecidableEq, Repr

end Sys2Proof
end

