-- ==== Sys2Proof/Syntax.lean ====
section
/-! DEFINITION. The commands of the TU-6408, one constructor per row of spec/opcode_table.json, in its
order. Host requests carry the header and check fields of Table 16.3 (`Hdr`), the fields of their request
layout, and `rsv`, true when a reserved field or bit that has no field of its own here is not zero (R3).
Where one opcode has several rows, its action byte is what tells them apart and is no operand. Events
carry what the part's board, its nodes, its partner or its own clocks bring. -/

namespace Sys2Proof

/-- What a read of one memory codeword finds (R290, R293, R294). (log entry 31: DEDUCED) -/
inductive MemFind where
  /-- No error. -/
  | clean
  /-- Corrected; `stuck` says that the re-read found an error again, or that a rewritten word failed its next read. -/
  | corrected (stuck : Bool)
  /-- Uncorrectable, and clean or correctable on the re-read. -/
  | transient
  /-- Uncorrectable again: the word is lost. -/
  | lost
  deriving DecidableEq, Repr

/-- The items MRAM holds in two copies (R296, R393). -/
inductive Copied where
  | lockoutLatch | carTrip (car : Fin 8) | safetySet | params | secrets | opTime | floors
  deriving DecidableEq, Repr

/-- What a memory word held: the regions of Table 12.4, then those of MRAM. `points` names the word's first point by its
number divided by 8; `both` says that the other copy is lost too. -/
inductive Region where
  | carState (car : Fin 8) | itinerary (car : Fin 8) | calls (ids : List Nat) | points (word : BitVec 17)
  | records (seqs : List Nat) | capture (cells : List (Nat × Fin 4)) | policy (reloaded : Bool) | island | other
  | copy (item : Copied) (both : Bool) | log (seq : Nat)
  deriving DecidableEq, Repr

/-- The findings a node brings when it answers discovery (R333, R347). -/
structure Discovery where
  port : Fin 64
  addr : U8
  profile : U8
  rev : U8
  replyWords : U8
  recordWords : U8
  msgWords : U8
  uid : U64
  good : Bool
  deriving DecidableEq, Repr

/-- What one reply slot of a ring or line brings (R325, R328, R331). `known` is false for a frame of a type not in Table
14.2, `good` for one that R319 or R321 makes bad; `primary` and `secondary` say which ends heard it. `data` is the reply
area with the message area of Table 14.2; `segLast` says that the message segment in it ends its message. -/
structure NodeFrame where
  port : Fin 64
  addr : U8
  known : Bool
  good : Bool
  primary : Bool
  secondary : Bool
  ackSeq : U8
  seq : U8
  msgBytes : U8
  segLast : Bool
  data : Bytes
  deriving DecidableEq, Repr

/-- The frame of an inter-pair item (R338): whether it is good (R321), its `format` and its `seq`. -/
structure IpHdr where
  good : Bool
  format : U16
  seq : U8
  deriving DecidableEq, Repr

/-- The commands. -/
inductive Instr where
  -- host requests: Host command packets, modes, health, time
  | ping (h : Hdr) (rsv : Bool)
  | identityRead (h : Hdr) (rsv : Bool) (nonce : Bytes)
  | modeRequest (h : Hdr) (rsv : Bool) (target : U8) (token : Bytes)
  | healthRead (h : Hdr) (rsv : Bool)
  | slackRead (h : Hdr) (rsv : Bool) (options : U8)
  | timeMark (h : Hdr) (rsv : Bool) (wallMs : U64) (source accuracy : U8)
  | paramRead (h : Hdr) (rsv : Bool) (key : U16) (keyInst which : U8)
  | paramWrite (h : Hdr) (rsv : Bool) (count : U8) (entries : List ParamEntry)
  | paramCommit (h : Hdr) (rsv : Bool)
  | paramCommitRead (h : Hdr) (rsv : Bool)
  | paramDiscard (h : Hdr) (rsv : Bool)
  | provingReport (h : Hdr) (rsv : Bool) (which : U8)
  -- dispatching
  | callEnter (h : Hdr) (rsv : Bool) (kind origin dest destGroup pax flags car level : U8)
  | callCancel (h : Hdr) (rsv : Bool) (callId : U16)
  | callQuery (h : Hdr) (rsv : Bool) (callId : U16)
  | itineraryRead (h : Hdr) (rsv : Bool)
  | carRegimeSet (h : Hdr) (rsv : Bool) (regime : U8)
  | carServiceRemove (h : Hdr) (rsv : Bool)
  | carServiceAdd (h : Hdr) (rsv : Bool)
  | powerBudgetOverrideSet (h : Hdr) (rsv : Bool) (motorW regenW : U32)
  | powerBudgetOverrideRelease (h : Hdr) (rsv : Bool) (motorW regenW : U32)
  | groupStatus (h : Hdr) (rsv : Bool)
  -- hoist
  | tripTarget (h : Hdr) (rsv : Bool) (kind landing : U8) (position : U32) (vLimit : U32)
  | jog (h : Hdr) (rsv : Bool) (direction : U8)
  | stop (h : Hdr) (rsv : Bool) (cls : U8)
  | motionStatus (h : Hdr) (rsv : Bool)
  | learnRunRead (h : Hdr) (rsv : Bool) (dzInput nSwitch : U8) (switches : List U8)
  | learnRunStart (h : Hdr) (rsv : Bool) (dzInput nSwitch : U8) (switches : List U8)
  | learnRunAbort (h : Hdr) (rsv : Bool) (dzInput nSwitch : U8) (switches : List U8)
  | brakeTestRead (h : Hdr) (rsv : Bool) (brakes directions : U8)
  | brakeTestStart (h : Hdr) (rsv : Bool) (brakes directions : U8)
  | positionRead (h : Hdr) (rsv : Bool) (source : U8)
  -- doors
  | doorStop (h : Hdr) (rsv : Bool) (targetPos vLimit : U32)
  | doorOpen (h : Hdr) (rsv : Bool) (targetPos vLimit : U32)
  | doorClose (h : Hdr) (rsv : Bool) (targetPos vLimit : U32)
  | doorNudgeClose (h : Hdr) (rsv : Bool) (targetPos vLimit : U32)
  | doorHoldOpen (h : Hdr) (rsv : Bool) (targetPos vLimit : U32)
  | doorReleaseHold (h : Hdr) (rsv : Bool) (targetPos vLimit : U32)
  | doorReference (h : Hdr) (rsv : Bool) (targetPos vLimit : U32)
  | doorStatus (h : Hdr) (rsv : Bool)
  | doorTableWrite (h : Hdr) (rsv : Bool) (phases : U8) (count : U16) (entries : List U16)
  | doorTableRead (h : Hdr) (rsv : Bool)
  -- loops
  | loopConfigWrite (h : Hdr) (rsv : Bool) (cfg : LoopCfg)
  | loopCoeffStage (h : Hdr) (rsv : Bool) (nSections : U8) (uMin uMax slew ffGain : U16)
      (sections : List SecWire)
  | loopCoeffSwap (h : Hdr) (rsv : Bool) (mask : U64)
  | loopCoeffSwapReset (h : Hdr) (rsv : Bool) (mask : U64)
  | injectStart (h : Hdr) (rsv : Bool) (slot signal node : U8) (amplitude : U16) (p1 p2 p3 p4 : U32)
  | injectStop (h : Hdr) (rsv : Bool) (slotMask : U8)
  | captureArm (h : Hdr) (rsv : Bool) (trigLoop trigger trigArg decimation : U8) (nodes : List U16)
      (depth pretrigger level timeoutMs : U32)
  | captureRead (h : Hdr) (rsv : Bool) (channel : U8) (first : U32) (count : U16)
  | loopStatus (h : Hdr) (rsv : Bool)
  -- safety
  | safetyStatus (h : Hdr) (rsv : Bool) (view : U8)
  | safetySetStage (h : Hdr) (rsv : Bool) (slot : U8)
  | safetySetConfirm (h : Hdr) (rsv : Bool) (setNumber : U32) (code : Bytes)
  | tripResetRead (h : Hdr) (rsv : Bool) (cars : U8)
  | tripResetArm (h : Hdr) (rsv : Bool) (cars : U8)
  | tripResetDisarm (h : Hdr) (rsv : Bool) (cars : U8)
  | lockoutResetRead (h : Hdr) (rsv : Bool) (token : Bytes)
  | lockoutResetArm (h : Hdr) (rsv : Bool) (token : Bytes)
  | outputTestReport (h : Hdr) (rsv : Bool)
  -- pair
  | pairStatus (h : Hdr) (rsv : Bool)
  | handoverRead (h : Hdr) (rsv : Bool)
  | handoverRequest (h : Hdr) (rsv : Bool)
  | handoverActivateTadpoles (h : Hdr) (rsv : Bool)
  | partnerReleaseRead (h : Hdr) (rsv : Bool) (token : Bytes)
  | partnerRelease (h : Hdr) (rsv : Bool) (token : Bytes)
  | partnerAdmitRead (h : Hdr) (rsv : Bool) (unit : U64) (token : Bytes)
  | partnerAdmit (h : Hdr) (rsv : Bool) (unit : U64) (token : Bytes)
  | mirrorStatus (h : Hdr) (rsv : Bool)
  -- links, nodes, points
  | portConfig (h : Hdr) (rsv : Bool) (use cls rate ring car phase : U8) (guardNs : U16)
      (peerPair poll : U8) (probeMs : U16)
  | portStatus (h : Hdr) (rsv : Bool)
  | nodeList (h : Hdr) (rsv : Bool) (first count : U8)
  | pointRead (h : Hdr) (rsv : Bool) (point : U32) (count : U16)
  | pointWriteOutput (h : Hdr) (rsv : Bool) (point : U32) (value : U16)
  | pointForce (h : Hdr) (rsv : Bool) (point : U32) (value : U16)
  | pointForceRelease (h : Hdr) (rsv : Bool) (point : U32) (value : U16)
  | pointMapWrite (h : Hdr) (rsv : Bool) (node expectProfile landing group side : U8) (nEntries : U16)
      (entries : List Bytes)
  | nodeMessageSend (h : Hdr) (rsv : Bool) (node : U8) (msgLen : U16) (data : Bytes)
  | nodeMessageRead (h : Hdr) (rsv : Bool) (node : U8) (msgLen : U16)
  -- recorder
  | logCursorOpen (h : Hdr) (rsv : Bool) (from_ : U8) (seq : U32)
  | logRead (h : Hdr) (rsv : Bool) (cursor maxCount : U8)
  | logCursorClose (h : Hdr) (rsv : Bool) (cursor : U8)
  | logStatus (h : Hdr) (rsv : Bool)
  | logClearChallenge (h : Hdr) (rsv : Bool)
  | logClear (h : Hdr) (rsv : Bool) (token : Bytes)
  | rateLimitRead (h : Hdr) (rsv : Bool) (burst : U8) (code : U16) (refillMs : U32)
  | rateLimitSet (h : Hdr) (rsv : Bool) (burst : U8) (code : U16) (refillMs : U32)
  | rateLimitRemove (h : Hdr) (rsv : Bool) (burst : U8) (code : U16) (refillMs : U32)
  -- images and keys
  | imageBegin (h : Hdr) (rsv : Bool) (type slot : U8) (totalLen : U32)
  | imageChunk (h : Hdr) (rsv : Bool) (offset : U32) (len : U16) (data : Bytes)
  | imageEnd (h : Hdr) (rsv : Bool)
  | imageActivate (h : Hdr) (rsv : Bool) (type slot : U8)
  | imageStatus (h : Hdr) (rsv : Bool)
  | authChallenge (h : Hdr) (rsv : Bool)
  | keyEnrolRead (h : Hdr) (rsv : Bool) (keyId : U8) (key token : Bytes)
  | keyEnrol (h : Hdr) (rsv : Bool) (keyId : U8) (key token : Bytes)
  -- packets without a request row
  | unknownOpcodePacket (h : Hdr) (opcode : U8)
  | badCrcPacket (h : Hdr) (opcode : U8)
  -- host port transactions (Table 16.1)
  | hqStatus
  | hqWrite (bytes : Bytes)
  | hqRead (clocked : Nat)
  | hqFlush
  | hqUnknownCommand (byte : U8)
  | partialPacketTimeout
  -- power, modes, proving
  | vaonEntersRange
  | wakeHigh
  | wakeLow
  | heldWakeDemandTaken
  | modeTransitionBegin
  | rstNLow
  | resetRelease
  | supplyLoss (vaon : Bool)
  | suppliesRestored
  | provingUnitComplete (unit : Fin 21) (result : Fin 3) (details : List Nat) (durUs : Nat)
  | bgSliceStart (unit : Fin 21)
  | bgSliceComplete (unit : Fin 21) (done : Bool) (result : Fin 3) (detail : Nat)
  | bgCycleOverdue
  | healthPublish (tj : Int) (vcore : Nat)
  | healthRecordReceived (rec : Health) (twin : TwinId)
  | posStrapChange (pos : BitVec 3)
  -- frames, epochs, safety cycles
  | sampleFrameTick (work : List (Nat × Nat))
  | epochBoundary
  | shedEvaluation
  | epochMarkReceived (phase : Int)
  | safetyCycle (count : Nat) (hsfb lsfb ld : U32)
  | timebaseMarkMissing
  -- feedback
  | encoderSample (samples : List EncSample)
  | referenceMark (chan : Fin 16) (edge : MarkEdge)
  | hoistSample (car : Fin 8)
  | auxObserverSample (chan : Fin 16)
  | ssiFrameReceived (port : Fin 8) (word : U40) (preHigh monoLow : Bool) (latch : Nat)
  | ssiClockAbsent (port : Fin 8)
  -- loops
  | loopSample (loop : Fin 64)
  | injectionTimeout (slot : Fin 4)
  | captureTimeout
  | persistentAnomaly (car : Fin 8)
  -- hoist
  | tripAdmission (car : Fin 8)
  | pretorqueSettleExpiry (car : Fin 8)
  | brakesOpenConfirmed (car : Fin 8)
  | startTimeout (car : Fin 8)
  | brakesClosedConfirmed (car : Fin 8)
  | torqueHoldExpiry (car : Fin 8)
  | torqueRampEnd (car : Fin 8)
  | relevelDelayExpiry (car : Fin 8)
  | reversalDwellExpiry (car : Fin 8)
  | jogKeepaliveExpiry (car : Fin 8)
  | jogReversalHoldExpiry (car : Fin 8)
  | brakeTestPhaseEnd (car : Fin 8)
  -- doors
  | doorSample (op : Fin 16)
  | doorLockConfirmed (op : Fin 16)
  | doorLockTimeout (op : Fin 16)
  | referencingTimeout (op : Fin 16)
  | openRetryExpiry (op : Fin 16)
  | nudgeTimerExpiry (op : Fin 16)
  | doorDwellExpiry (op : Fin 16)
  | tableCrcConfirm (op : Fin 16) (crc : U32)
  -- dispatching
  | callEvaluation
  | carSummaryReceived (pair : Fin 4) (hd : IpHdr) (summary : CarSummary)
  | forwardedCallReceived (pair : Fin 4) (hd : IpHdr) (call : Call) (best : Option Candidate)
  | decisionReceived (pair : Fin 4) (hd : IpHdr) (call : Call) (best : Option Candidate)
  | transferItemReceived (pair : Fin 4) (hd : IpHdr) (item : TransferItem)
  | transferLegReceived (pair : Fin 4) (hd : IpHdr) (call : Call)
  | groupEpochReceived (pair : Fin 4) (hd : IpHdr) (number : Nat)
  | groupEpochBoundary
  | pairOutOfReach (pair : Fin 4)
  | refinePeriod
  | regimeChange (car : Fin 8)
  -- safety inputs, outputs, resets
  | safetyInputChange (island : Island) (input : Fin 96) (channel : Fin 2) (seen : InputEvent)
  | safetyInputChatterEnd (input : Fin 96)
  | brakeOpenTimeout (car : Fin 8) (brake : Fin 2)
  | brakeCloseTimeout (car : Fin 8) (brake : Fin 2)
  | brakeTestOverdue (car : Fin 8)
  | confirmWindowExpiry
  | lrstOperationEnd (op : LrstOp)
  | tripResetWindowExpiry
  | lockoutResetWindowExpiry
  | enrolWindowExpiry
  | outputConfirmTimeout (out : Fin 32)
  | darkTestStart (out : Fin 32) (side : Fin 2)
  | darkTestJudge (out : Fin 32) (hsfb lsfb : Bool)
  | darkTestPulseEnd (out : Fin 32)
  | darkTestSettleEnd (out : Fin 32) (closed : Bool)
  | darkTestRepeat (out : Fin 32)
  | releaseCheckStart
  | releaseCheckEnd (held : Bool)
  | vetoReceived
  | vetoAssert (out : Fin 32)
  -- pair
  | twinLaneLost (lane : Fin 2)
  | commitReceived (good : Bool) (m : Mirror)
  | commitAckReceived (epoch : Nat) (ackUs : Nat)
  | commitMissing
  | resyncComplete (partnerSeq : Nat)
  | partnerFindingReceived (f : Finding)
  | croakSlot
  | croakReceived (line : Fin 2) (slot : Fin 9) (frame : BitVec 40)
  | croakLineFault (line : Fin 2)
  | ownCroakNotReadBack
  | partnerSilent
  | claimPeriodsElapsed
  | soloWaitExpiry
  | arbitrationDeadline
  | yieldReceived (lastEpoch : Nat)
  | yieldTakeover
  | silentPartnerTakeover
  -- memory and recorder
  | scrubRead (mram : Bool) (bank : Fin 26) (found : MemFind) (held : Region)
  | scrubPassComplete (ms : Nat)
  | bankCopyComplete (bank : Fin 26)
  | operatingTimeSave
  | flushStart
  | flushTimer
  | flushComplete (us : Nat)
  | pfailFall
  | pfailRise
  | rateTokenRefill (code : U16)
  | cursorIdleClose (cursor : Fin 8)
  -- links
  | portCycleStart (port : Fin 64) (mismatch : Bool) (heard : List (BitVec 20 × U16))
  | nodeReply (f : NodeFrame)
  | discoveryReply (d : Discovery)
  | ringHeaderCheck (port : Fin 64) (heard : Bool)
  | ringProbe (port : Fin 64)
  | hostChannelFrame (port : Fin 64) (bytes : Bytes)
  | hostChannelDown (port : Fin 64)
  | nodeLost (port : Fin 64) (addr : U8)
  | pointStuck (point : BitVec 20)
  -- images, TAP, temperature
  | imageVerifyComplete
  | imageSessionIdle
  | baseImageRestart
  | tapInstructionUpdate (code : BitVec 4)
  | secretReload
  | temperatureExcursion (tj : Int)
  | overtemperatureLockout (tj : Int)
  | twinLaneRestored (lane : Fin 2)
  | dormantOrderReceived
  deriving DecidableEq, Repr

end Sys2Proof
end

