-- ==== Sys2Proof/Decode.lean ====
section
/-! DEFINITION. Decoding. No row of spec/opcode_table.json gives bits, so no word spells a command by that
table. -/

namespace Sys2Proof

/-- The command a word spells by the bits of spec/opcode_table.json: none, for no row gives any.
(log entry 1: PRESUMED) -/
def decodeTableWord (_nbits _w : Nat) : Option Instr := none

end Sys2Proof
end

