-- ==== Sys2Proof/Config.lean ====
section
/-! DEFINITION. What one device is made with, and the free values: constants without a body, so that
nothing can be proved of the value they take. Each is named in the assumption log. -/

namespace Sys2Proof.Config

/-- The 64-bit unit number of this device (Table 17.8). (log entry 11: DESIGN CHOICE) -/
opaque unitNumber : U64
/-- Bytes 0 to 15 of the identity record of Table 17.8: lot, wafer, die, silicon revision, test date.
(log entry 11: DESIGN CHOICE) -/
opaque identityHead : Bytes
/-- The private key generated on the die (R405). (log entry 11: DESIGN CHOICE) -/
opaque devicePrivate : Nat
/-- The maker's signature over the identity record and the device public key (R405). (log entry 11: DESIGN CHOICE) -/
opaque certSig : Bytes
/-- The public base key fused at manufacture (Table 17.6), x then y. (log entry 11: DESIGN CHOICE) -/
opaque baseKey : Bytes
/-- The random nonces the device draws, by draw number (R312, R399). (log entry 10: DESIGN CHOICE) -/
opaque nonce : Nat → Bytes
/-- One sample of the tracking observer of R67, whose gains and rounding the spec does not state: bandwidth
in Hz, observer rate in Hz, and the position, speed and acceleration states with the measured position;
answers the new states (counts, counts/s, counts/s²). (log entry 8: DESIGN CHOICE) -/
opaque observer : Nat → Nat → Int → Int → Int → Int → Int × Int × Int
/-- Whether a sample of a stepped sine or chirp of R98 takes the Q15 value above the signal or the one below it, which
the spec does not state: (signal, amplitude, p1, p2, p3, p4), loop rate in Hz, sample number.
(log entry 9: DESIGN CHOICE) -/
opaque roundsUp : Nat × Int × Nat × Nat × Nat × Nat → Nat → Nat → Bool
/-- A free 32-bit value, by draw number. (log entry 12: DESIGN CHOICE) -/
opaque freeValue : Nat → BitVec 32

end Sys2Proof.Config
end

