-- ==== Sys2Proof/Machine/Bytes.lean ====
section
/-! DEFINITION. Byte order (R1), integer helpers, CRC-32C (R320, R371) and CRC-6 (Table 11.2). -/

namespace Sys2Proof.Machine

/-- The `n` bytes of `v`, least significant first (R1); higher bits are dropped. -/
def le : Nat → Nat → Bytes
  | 0, _ => []
  | n + 1, v => BitVec.ofNat 8 v :: le n (v / 256)

/-- The `n` bytes of a signed value in two's complement. -/
def leI (n : Nat) (v : Int) : Bytes := le n (v % (2 ^ (8 * n) : Nat)).toNat

/-- A little-endian unsigned integer. -/
def ofLe : Bytes → Nat
  | [] => 0
  | b :: bs => b.toNat + 256 * ofLe bs

/-- The unsigned integer of the `n` bytes at offset `o`; bytes beyond the end read 0. -/
def rd (bs : Bytes) (o n : Nat) : Nat := ofLe ((bs.drop o).take n)

/-- A value read as an n-bit two's complement number. -/
def toSigned (n v : Nat) : Int := if v < 2 ^ (n - 1) then v else (v : Int) - (2 ^ n : Nat)

/-- `n` zero bytes. -/
def zeros (n : Nat) : Bytes := List.replicate n 0

/-- Bytes cut or zero-filled to `n`. -/
def fit (n : Nat) (bs : Bytes) : Bytes := (bs ++ zeros n).take n

/-- `x` limited to `lo`..`hi`. -/
def clampI (lo hi x : Int) : Int := if x < lo then lo else if hi < x then hi else x

/-- Saturation of a count at the top of an n-bit field. -/
def satN (n v : Nat) : Nat := if v < 2 ^ n then v else 2 ^ n - 1

/-- Bit `i` of a number. -/
def bitAt (v i : Nat) : Bool := v / 2 ^ i % 2 == 1

/-- A mask from a predicate over 0 to n − 1. -/
def maskOf (n : Nat) (p : Nat → Bool) : Nat :=
  (List.range n).foldl (fun m i => if p i then m + 2 ^ i else m) 0

/-- 1 or 0. -/
def b2n (b : Bool) : Nat := if b then 1 else 0

/-- One bit of the reflected CRC-32C (polynomial 0x1EDC6F41, reflected 0x82F63B78). -/
def crcBit (c : BitVec 32) : BitVec 32 := if c.getLsbD 0 then (c >>> 1) ^^^ 0x82F63B78#32 else c >>> 1

/-- One byte into the CRC. -/
def crcByte (c : BitVec 32) (b : U8) : BitVec 32 :=
  crcBit (crcBit (crcBit (crcBit (crcBit (crcBit (crcBit (crcBit (c ^^^ b.setWidth 32))))))))

/-- CRC-32C of R320: initial value and final XOR 0xFFFFFFFF. -/
def crc32c (bs : Bytes) : U32 := ~~~ (bs.foldl crcByte 0xFFFFFFFF#32)

/-- One bit, most significant first, into the CRC-6 of Table 11.2 (x⁶ + x + 1). -/
def crc6Bit (c : Nat) (b : Bool) : Nat :=
  let top := c / 32 % 2
  let c' := c * 2 % 64
  if top + b2n b == 1 then Nat.xor c' 3 else c'

/-- CRC-6 over bits 38 down to 7 of a croak frame, initial value 0. -/
def crc6 (frame : BitVec 40) : Nat :=
  (List.range 32).foldl (fun c i => crc6Bit c (frame.getLsbD (38 - i))) 0

/-- Floor division of integers and of rationals to an integer. -/
def fdiv (a b : Int) : Int := Int.fdiv a b

/-- Integer square root by bit trial: the largest r below 2^n with r² ≤ v. -/
def isqrtBits : Nat → Nat → Nat → Nat
  | 0, _, r => r
  | n + 1, v, r => let r' := r + 2 ^ n; if r' * r' ≤ v then isqrtBits n v r' else isqrtBits n v r

/-- Integer square root, for values below 2^128. -/
def isqrt (v : Nat) : Nat := isqrtBits 64 v 0

end Sys2Proof.Machine
end

