-- ==== Sys2Proof/Machine/Tbl.lean ====
section
/-! DEFINITION. Sparse tables in one canonical form. `d` gives what a key that is not listed reads as. -/

namespace Sys2Proof.Machine

/-- The value of key `k`. -/
def tget {α : Type} (d : Nat → α) : Tbl α → Nat → α
  | [], k => d k
  | (j, v) :: t, k => if j = k then v else tget d t k

/-- `t` with key `k` at `v`: the entry goes when `v` is what `k` reads as unlisted. -/
def tset {α : Type} [DecidableEq α] (d : Nat → α) : Tbl α → Nat → α → Tbl α
  | [], k, v => if v = d k then [] else [(k, v)]
  | (j, w) :: t, k, v =>
    if k < j then (if v = d k then (j, w) :: t else (k, v) :: (j, w) :: t)
    else if j = k then (if v = d k then t else (k, v) :: t)
    else (j, w) :: tset d t k v

/-- Every key of `t` lies above `n`, the keys rise strictly, and no entry is its key's default. -/
def tblAbove {α : Type} [DecidableEq α] (d : Nat → α) : Nat → Tbl α → Bool
  | _, [] => true
  | n, (j, w) :: t => decide (n < j) && decide (w ≠ d j) && tblAbove d j t

/-- The canonical form. -/
def tblWf {α : Type} [DecidableEq α] (d : Nat → α) : Tbl α → Bool
  | [] => true
  | (j, w) :: t => decide (w ≠ d j) && tblAbove d j t

/-- The default of a table whose entries have field defaults. -/
def dft {α : Type} (a : α) : Nat → α := fun _ => a

/-- Apply `f` to entry `k`. -/
def tmod {α : Type} [DecidableEq α] (d : Nat → α) (t : Tbl α) (k : Nat) (f : α → α) : Tbl α :=
  tset d t k (f (tget d t k))

/-- A table with `f` applied to every listed entry. -/
def tmap {α : Type} [DecidableEq α] (d : Nat → α) (t : Tbl α) (f : α → α) : Tbl α :=
  t.foldl (fun acc e => tset d acc e.1 (f e.2)) []

end Sys2Proof.Machine
end

