-- ==== Sys2Proof/Machine/Keys.lean ====
section
/-! DEFINITION. The parameter keys of every chapter (Tables 03.12, 04.8, 05.15, 06.6, 07.8, 08.9, 09.7,
10.10, 11.14, 12.7, 13.9, 14.8, 15.13, 16.11, 17.12). -/

namespace Sys2Proof.Machine

/-- When a committed key acts ("Takes effect"). -/
inductive KeyEffect where
  | commit | standstill | held | atRest | nextTrip | nextMove | restart | confirmation | nextProving
  | nextLearn | nextBrakeTest | nextBg | groupEpoch | nextSession | nextPass | nextInject | readOnly
  deriving DecidableEq, Repr

/-- What values a key takes besides lo..hi and alt: `source` and `dest` are the codes of Tables 05.1 and
05.2, `node` has bits 5 to 0 zero, `learned` follows R430. -/
inductive KeyForm where
  | range | source | dest | node | learned
  deriving DecidableEq, Repr

/-- One key row: keys `key` to `last`, the type code of Table 16.7, range, other values, default, number
of instances, effect, form, read-only. -/
structure KeySpec where
  key : Nat
  last : Nat
  type : Nat
  lo : Int
  hi : Int
  alt : List Int
  dflt : Int
  insts : Nat
  effect : KeyEffect
  form : KeyForm
  ro : Bool
  deriving DecidableEq, Repr

/-- Key rows of block 0x1. -/
def keyRows1 : List KeySpec :=
  [⟨0x1001, 0x1001, 0, 0, 2, [], 0, 16, .standstill, .range, false⟩, -- enc_mode
   ⟨0x1002, 0x1002, 3, 4096, 2147483648, [], 8388608, 16, .standstill, .range, false⟩, -- enc_counts_per_rev
   ⟨0x1003, 0x1003, 0, 0, 1, [], 0, 16, .standstill, .range, false⟩, -- enc_invert
   ⟨0x1004, 0x1004, 5, -32768, 32767, [], 0, 16, .commit, .range, false⟩, -- enc_sin_offset
   ⟨0x1005, 0x1005, 5, -32768, 32767, [], 0, 16, .commit, .range, false⟩, -- enc_cos_offset
   ⟨0x1006, 0x1006, 1, 12288, 20480, [], 16384, 16, .commit, .range, false⟩, -- enc_gain_ratio
   ⟨0x1007, 0x1007, 1, 500, 1500, [], 1000, 16, .commit, .range, false⟩, -- enc_nominal_amp
   ⟨0x1008, 0x1008, 0, 1, 8, [], 2, 16, .standstill, .range, false⟩, -- enc_dig_filter
   ⟨0x1009, 0x1009, 0, 0, 2, [], 1, 16, .commit, .range, false⟩, -- enc_mark_mode
   ⟨0x100A, 0x100A, 0, 0, 3, [], 0, 16, .commit, .range, false⟩, -- enc_mark_quadrant
   ⟨0x100B, 0x100B, 1, 16, 1024, [], 256, 16, .commit, .range, false⟩, -- enc_mark_tol
   ⟨0x100C, 0x100C, 1, 50, 4000, [], 300, 16, .standstill, .range, false⟩, -- enc_obs_bw
   ⟨0x100D, 0x100D, 3, 1000, 10000000, [], 50000, 16, .commit, .range, false⟩, -- aux_standstill_speed
   ⟨0x100E, 0x100E, 3, 100, 1000000, [], 20000, 16, .commit, .range, false⟩, -- aux_dir_hyst
   ⟨0x100F, 0x100F, 3, 1000, 2000000000, [], 100000000, 16, .commit, .range, false⟩, -- aux_acc_max
   ⟨0x1100, 0x1100, 0, 0, 15, [255], 255, 8, .standstill, .range, false⟩, -- car_motor_chan
   ⟨0x1101, 0x1101, 0, 0, 7, [255], 255, 8, .standstill, .range, false⟩, -- car_ssi_port
   ⟨0x1102, 0x1102, 3, 1000000, 4000000000, [], 1000000000, 8, .standstill, .range, false⟩, -- car_travel_per_rev
   ⟨0x1103, 0x1103, 6, -2000000000, 2000000000, [], 0, 8, .standstill, .range, false⟩, -- car_shaft_offset
   ⟨0x1104, 0x1104, 3, 500, 20000, [], 3000, 8, .commit, .range, false⟩, -- car_standstill_speed
   ⟨0x1105, 0x1105, 1, 20, 2000, [], 200, 8, .commit, .range, false⟩, -- car_fusion_tau
   ⟨0x1106, 0x1106, 3, 1000, 200000, [], 20000, 8, .commit, .range, false⟩, -- car_slip_base
   ⟨0x1107, 0x1107, 1, 0, 5000, [], 200, 8, .commit, .range, false⟩, -- car_slip_per_m
   ⟨0x1108, 0x1108, 0, 10, 90, [], 50, 8, .commit, .range, false⟩, -- car_slip_warn_pct
   ⟨0x1109, 0x1109, 3, 20000, 1000000, [], 150000, 8, .commit, .range, false⟩, -- car_slip_rate_trip
   ⟨0x1200, 0x1200, 1, 100, 4000, [], 1000, 8, .standstill, .range, false⟩, -- ssi_clock_khz
   ⟨0x1201, 0x1201, 0, 12, 32, [], 25, 8, .standstill, .range, false⟩, -- ssi_bits
   ⟨0x1202, 0x1202, 0, 12, 32, [], 24, 8, .standstill, .range, false⟩, -- ssi_pos_bits
   ⟨0x1203, 0x1203, 0, 0, 1, [], 1, 8, .standstill, .range, false⟩, -- ssi_code
   ⟨0x1204, 0x1204, 0, 0, 255, [], 1, 8, .standstill, .range, false⟩, -- ssi_status_mask
   ⟨0x1205, 0x1205, 0, 0, 2, [], 0, 8, .standstill, .range, false⟩, -- ssi_parity
   ⟨0x1206, 0x1206, 3, 1000, 1000000, [], 100000, 8, .standstill, .range, false⟩] -- ssi_lsb_nm

/-- Key rows of block 0x1. -/
def keyRows11 : List KeySpec :=
  [⟨0x1207, 0x1207, 1, 10, 100, [], 25, 8, .standstill, .range, false⟩, -- ssi_monoflop_us
   ⟨0x1208, 0x1208, 0, 0, 1, [], 0, 8, .standstill, .range, false⟩] -- ssi_invert

/-- Key rows of block 0x2. -/
def keyRows2 : List KeySpec :=
  [⟨0x2001, 0x2001, 0, 0, 3, [], 1, 8, .held, .range, false⟩, -- car_hoist_rate
   ⟨0x2002, 0x2002, 0, 1, 64, [], 8, 1, .commit, .range, false⟩, -- shadow_epochs
   ⟨0x2003, 0x2003, 1, 1, 3600, [], 60, 1, .nextInject, .range, false⟩, -- inject_max_s
   ⟨0x2020, 0x2020, 0, 0, 1, [], 0, 8, .nextTrip, .range, false⟩, -- plaus_enable
   ⟨0x2021, 0x2021, 3, 1000, 1000000, [], 20000, 8, .nextTrip, .range, false⟩, -- plaus_force_rated
   ⟨0x2022, 0x2022, 3, 100, 200000, [], 5000, 8, .nextTrip, .range, false⟩, -- plaus_mass
   ⟨0x2023, 0x2023, 3, 100, 20000, [], 1000, 8, .nextTrip, .range, false⟩, -- plaus_rated_load
   ⟨0x2024, 0x2024, 0, 0, 100, [], 45, 8, .nextTrip, .range, false⟩, -- plaus_balance
   ⟨0x2025, 0x2025, 3, 0, 50000, [], 0, 8, .nextTrip, .range, false⟩, -- plaus_friction
   ⟨0x2026, 0x2026, 3, 10000, 2000000, [], 100000, 8, .commit, .range, false⟩, -- plaus_tol_abs
   ⟨0x2027, 0x2027, 0, 0, 50, [], 10, 8, .commit, .range, false⟩, -- plaus_tol_pct
   ⟨0x2028, 0x2028, 1, 10, 1000, [], 50, 8, .commit, .range, false⟩, -- plaus_window
   ⟨0x2029, 0x2029, 1, 50, 10000, [], 500, 8, .commit, .range, false⟩, -- plaus_persist
   ⟨0x2030, 0x2030, 3, 0, 1048575, [4294967295], 4294967295, 64, .commit, .range, false⟩, -- aux_in_point
   ⟨0x2031, 0x2031, 3, 0, 1048575, [4294967295], 4294967295, 64, .commit, .range, false⟩, -- aux_out_point
   ⟨0x2100, 0x2100, 0, 0, 3, [], 0, 64, .held, .range, false⟩, -- loop_role
   ⟨0x2101, 0x2101, 0, 0, 15, [255], 255, 64, .held, .range, false⟩, -- loop_owner
   ⟨0x2102, 0x2102, 0, 0, 3, [], 1, 64, .held, .range, false⟩, -- loop_rate
   ⟨0x2103, 0x2103, 0, 0, 7, [255], 255, 64, .held, .range, false⟩, -- loop_phase
   ⟨0x2104, 0x2104, 0, 0, 1, [], 0, 64, .held, .range, false⟩, -- loop_format
   ⟨0x2105, 0x2105, 0, 1, 16, [], 1, 64, .held, .range, false⟩, -- loop_sections
   ⟨0x2106, 0x2106, 0, 0, 1, [], 1, 64, .commit, .range, false⟩, -- loop_aw_mode
   ⟨0x2107, 0x2107, 1, 0, 65535, [], 0, 64, .held, .source, false⟩, -- loop_ref_src
   ⟨0x2108, 0x2108, 1, 0, 65535, [], 0, 64, .held, .source, false⟩, -- loop_fb_src
   ⟨0x2109, 0x2109, 1, 0, 65535, [], 0, 64, .held, .source, false⟩, -- loop_ff_src
   ⟨0x210A, 0x210A, 1, 0, 65535, [], 0, 64, .held, .dest, false⟩, -- loop_out_dst
   ⟨0x210B, 0x210B, 3, 1, 2000000000, [], 1000000, 64, .held, .range, false⟩, -- loop_err_fullscale
   ⟨0x210C, 0x210C, 3, 2, 4294967295, [0], 0, 64, .held, .range, false⟩, -- loop_err_wrap
   ⟨0x210D, 0x210D, 3, 0, 2000000000, [], 0, 64, .commit, .range, false⟩, -- loop_deadband
   ⟨0x210E, 0x210E, 3, 1, 2000000000, [], 32768, 64, .held, .range, false⟩, -- loop_ff_fullscale
   ⟨0x210F, 0x210F, 3, 1, 2000000000, [], 32768, 64, .held, .range, false⟩, -- loop_out_fullscale
   ⟨0x2110, 0x2110, 1, 1, 32767, [], 328, 64, .commit, .range, false⟩] -- loop_shadow_tol

/-- Key rows of block 0x3. -/
def keyRows3 : List KeySpec :=
  [⟨0x3001, 0x3001, 3, 100000, 20000000, [], 1000000, 8, .standstill, .range, false⟩, -- car_rated_speed
   ⟨0x3002, 0x3002, 3, 0, 50000, [], 10000, 8, .nextTrip, .range, false⟩, -- prof_v_start
   ⟨0x3003, 0x3003, 3, 5000, 100000, [], 50000, 8, .nextTrip, .range, false⟩, -- prof_v_stop
   ⟨0x3004, 0x3004, 3, 0, 20000000, [], 2500000, 8, .nextTrip, .range, false⟩, -- prof_vb
   ⟨0x3005, 0x3005, 3, 100000, 2000000, [], 1000000, 8, .nextTrip, .range, false⟩, -- prof_a1
   ⟨0x3006, 0x3006, 3, 100000, 2000000, [], 800000, 8, .nextTrip, .range, false⟩, -- prof_a2
   ⟨0x3007, 0x3007, 3, 100000, 2000000, [], 1000000, 8, .nextTrip, .range, false⟩, -- prof_d1
   ⟨0x3008, 0x3008, 3, 100000, 2000000, [], 800000, 8, .nextTrip, .range, false⟩, -- prof_d2
   ⟨0x3009, 0x3009, 3, 100000, 5000000, [], 1000000, 8, .nextTrip, .range, false⟩, -- prof_jerk
   ⟨0x300A, 0x300A, 3, 0, 200000, [], 25000, 8, .nextTrip, .range, false⟩, -- prof_creep_dist
   ⟨0x300B, 0x300B, 3, 500000, 20000000, [], 5000000, 8, .nextTrip, .range, false⟩, -- prof_lev_jerk
   ⟨0x300C, 0x300C, 1, 500, 20000, [], 3000, 8, .commit, .range, false⟩, -- level_tol
   ⟨0x300D, 0x300D, 1, 2000, 50000, [], 10000, 8, .commit, .range, false⟩, -- relevel_start
   ⟨0x300E, 0x300E, 1, 50, 2000, [], 200, 8, .commit, .range, false⟩, -- relevel_delay_ms
   ⟨0x300F, 0x300F, 3, 10000, 300000, [], 100000, 8, .nextTrip, .range, false⟩, -- relevel_speed
   ⟨0x3010, 0x3010, 0, 1, 10, [], 3, 8, .commit, .range, false⟩, -- relevel_max
   ⟨0x3011, 0x3011, 1, 0, 5000, [], 500, 8, .commit, .range, false⟩, -- rev_dwell_ms
   ⟨0x3012, 0x3012, 3, 500000, 4000000, [], 2000000, 8, .commit, .range, false⟩, -- quick_dec
   ⟨0x3013, 0x3013, 3, 500000, 10000000, [], 4000000, 8, .commit, .range, false⟩, -- quick_jerk
   ⟨0x3020, 0x3020, 1, 500, 10000, [], 2000, 8, .nextTrip, .range, false⟩, -- start_timeout_ms
   ⟨0x3021, 0x3021, 1, 0, 200, [], 1, 8, .nextTrip, .range, false⟩, -- pt_settle_ms
   ⟨0x3022, 0x3022, 3, 0, 1048575, [4294967295], 4294967295, 8, .standstill, .range, false⟩, -- load_point
   ⟨0x3023, 0x3023, 3, 0, 20000, [], 450, 8, .nextTrip, .range, false⟩, -- pt_balance_kg
   ⟨0x3024, 0x3024, 3, 1000, 1000000, [], 20000, 8, .nextTrip, .range, false⟩, -- pt_force_rated
   ⟨0x3025, 0x3025, 0, 50, 150, [], 100, 8, .nextTrip, .range, false⟩, -- pt_trim_pct
   ⟨0x3026, 0x3026, 1, 0, 2000, [], 100, 8, .commit, .range, false⟩, -- stop_torque_hold_ms
   ⟨0x3027, 0x3027, 1, 0, 1000, [], 50, 8, .commit, .range, false⟩, -- torque_ramp_ms
   ⟨0x3028, 0x3028, 3, 100, 200000, [], 5000, 8, .commit, .range, false⟩, -- car_moving_mass
   ⟨0x3029, 0x3029, 1, 0, 10000, [], 300, 8, .nextProving, .range, false⟩, -- ovh_seed_ms
   ⟨0x3030, 0x3030, 3, 10000, 1000000, [], 300000, 8, .commit, .range, false⟩, -- jog_speed
   ⟨0x3031, 0x3031, 3, 100000, 1000000, [], 300000, 8, .commit, .range, false⟩, -- jog_acc
   ⟨0x3032, 0x3032, 1, 50, 1000, [], 200, 8, .commit, .range, false⟩] -- jog_keepalive_ms

/-- Key rows of block 0x3. -/
def keyRows31 : List KeySpec :=
  [⟨0x3033, 0x3033, 3, 0, 500000, [], 50000, 8, .commit, .range, false⟩, -- jog_overrun
   ⟨0x3034, 0x3034, 0, 0, 1, [], 0, 8, .commit, .range, false⟩, -- jog_host
   ⟨0x3040, 0x3040, 3, 50000, 1000000, [], 300000, 8, .nextLearn, .range, false⟩, -- learn_speed
   ⟨0x3041, 0x3041, 1, 2, 256, [], 2, 8, .nextLearn, .range, false⟩, -- learn_expected
   ⟨0x3042, 0x3042, 1, 1000, 50000, [], 10000, 8, .nextLearn, .range, false⟩, -- learn_chan_tol
   ⟨0x3043, 0x3043, 0, 0, 1, [], 1, 8, .nextLearn, .range, false⟩, -- learn_bidir
   ⟨0x3044, 0x3044, 3, 50000, 1000000, [], 100000, 8, .nextLearn, .range, false⟩, -- learn_margin
   ⟨0x3050, 0x3050, 1, 100, 300, [], 125, 8, .nextBrakeTest, .range, false⟩, -- bt_multiple_pct
   ⟨0x3051, 0x3051, 5, 0, 32767, [], 0, 8, .nextBrakeTest, .range, false⟩, -- bt_rl_torque
   ⟨0x3052, 0x3052, 1, 100, 5000, [], 500, 8, .nextBrakeTest, .range, false⟩, -- bt_ramp_ms
   ⟨0x3053, 0x3053, 1, 1000, 30000, [], 3000, 8, .nextBrakeTest, .range, false⟩, -- bt_hold_ms
   ⟨0x3054, 0x3054, 3, 500, 20000, [], 2000, 8, .nextBrakeTest, .range, false⟩, -- bt_move_limit
   ⟨0x3060, 0x3067, 6, -2147483648, 2147483647, [], 2147483647, 8, .standstill, .learned, false⟩, -- switch_pos[k]
   ⟨0x3300, 0x33FF, 6, -2147483648, 2147483647, [], 2147483647, 8, .standstill, .learned, false⟩] -- landing_pos[n]

/-- Key rows of block 0x4. -/
def keyRows4 : List KeySpec :=
  [⟨0x4001, 0x4001, 0, 0, 1, [], 0, 16, .atRest, .range, false⟩, -- door_present
   ⟨0x4002, 0x4002, 3, 0, 1048575, [4294967295], 4294967295, 16, .atRest, .node, false⟩, -- door_node
   ⟨0x4003, 0x4003, 0, 2, 3, [], 2, 16, .atRest, .range, false⟩, -- door_phases
   ⟨0x4004, 0x4004, 0, 0, 3, [], 0, 16, .atRest, .range, false⟩, -- door_table
   ⟨0x4005, 0x4005, 3, 100, 100000, [], 2000, 16, .atRest, .range, false⟩, -- door_um_per_cycle
   ⟨0x4006, 0x4006, 3, 100000, 2000000, [], 500000, 16, .atRest, .range, false⟩, -- door_open_pos
   ⟨0x4007, 0x4007, 1, 5, 1000, [], 100, 16, .atRest, .range, false⟩, -- door_mass
   ⟨0x4008, 0x4008, 3, 1000, 1000000, [], 30000, 16, .atRest, .range, false⟩, -- door_force_per_amp
   ⟨0x4009, 0x4009, 3, 100, 10000000, [], 50000, 16, .atRest, .range, false⟩, -- door_ke
   ⟨0x400A, 0x400A, 3, 10, 100000, [], 1000, 16, .atRest, .range, false⟩, -- door_res
   ⟨0x400B, 0x400B, 3, 10, 1000000, [], 2000, 16, .atRest, .range, false⟩, -- door_ind
   ⟨0x400C, 0x400C, 1, 100, 20000, [], 2000, 16, .nextMove, .range, false⟩, -- door_i_run
   ⟨0x400D, 0x400D, 1, 0, 20000, [], 500, 16, .commit, .range, false⟩, -- door_i_hold
   ⟨0x400E, 0x400E, 1, 100, 20000, [], 1500, 16, .nextMove, .range, false⟩, -- door_i_lock
   ⟨0x4010, 0x4010, 3, 0, 100000, [], 20000, 16, .nextMove, .range, false⟩, -- open_v_start
   ⟨0x4011, 0x4011, 3, 5000, 100000, [], 30000, 16, .nextMove, .range, false⟩, -- open_v_stop
   ⟨0x4012, 0x4012, 3, 0, 2000000, [], 200000, 16, .nextMove, .range, false⟩, -- open_vb
   ⟨0x4013, 0x4013, 3, 100000, 3000000, [], 800000, 16, .nextMove, .range, false⟩, -- open_a1
   ⟨0x4014, 0x4014, 3, 100000, 3000000, [], 500000, 16, .nextMove, .range, false⟩, -- open_a2
   ⟨0x4015, 0x4015, 3, 100000, 3000000, [], 800000, 16, .nextMove, .range, false⟩, -- open_d1
   ⟨0x4016, 0x4016, 3, 100000, 3000000, [], 500000, 16, .nextMove, .range, false⟩, -- open_d2
   ⟨0x4017, 0x4017, 3, 50000, 2000000, [], 500000, 16, .nextMove, .range, false⟩, -- open_v_max
   ⟨0x4018, 0x4018, 3, 0, 100000, [], 10000, 16, .nextMove, .range, false⟩, -- open_creep_dist
   ⟨0x4020, 0x4020, 3, 0, 100000, [], 20000, 16, .nextMove, .range, false⟩, -- close_v_start
   ⟨0x4021, 0x4021, 3, 5000, 100000, [], 30000, 16, .nextMove, .range, false⟩, -- close_v_stop
   ⟨0x4022, 0x4022, 3, 0, 2000000, [], 200000, 16, .nextMove, .range, false⟩, -- close_vb
   ⟨0x4023, 0x4023, 3, 100000, 3000000, [], 800000, 16, .nextMove, .range, false⟩, -- close_a1
   ⟨0x4024, 0x4024, 3, 100000, 3000000, [], 500000, 16, .nextMove, .range, false⟩, -- close_a2
   ⟨0x4025, 0x4025, 3, 100000, 3000000, [], 800000, 16, .nextMove, .range, false⟩, -- close_d1
   ⟨0x4026, 0x4026, 3, 100000, 3000000, [], 500000, 16, .nextMove, .range, false⟩, -- close_d2
   ⟨0x4027, 0x4027, 3, 50000, 2000000, [], 500000, 16, .nextMove, .range, false⟩, -- close_v_max
   ⟨0x4030, 0x4030, 3, 500000, 10000000, [], 2000000, 16, .commit, .range, false⟩] -- door_rev_dec

/-- Key rows of block 0x4. -/
def keyRows41 : List KeySpec :=
  [⟨0x4031, 0x4031, 3, 2000, 50000, [], 15000, 16, .nextMove, .range, false⟩, -- door_lock_zone
   ⟨0x4032, 0x4032, 1, 100, 5000, [], 1000, 16, .commit, .range, false⟩, -- door_lock_timeout_ms
   ⟨0x4033, 0x4033, 0, 0, 5, [], 2, 16, .commit, .range, false⟩, -- door_lock_retries
   ⟨0x4034, 0x4034, 3, 10000, 100000, [], 30000, 16, .commit, .range, false⟩, -- door_ref_speed
   ⟨0x4040, 0x4040, 1, 20, 149, [], 60, 16, .commit, .range, false⟩, -- door_obst_force
   ⟨0x4041, 0x4041, 0, 2, 40, [], 8, 16, .commit, .range, false⟩, -- door_obst_samples
   ⟨0x4042, 0x4042, 1, 0, 500, [], 100, 16, .commit, .range, false⟩, -- door_obst_blank_ms
   ⟨0x4043, 0x4043, 1, 50, 150, [], 150, 16, .nextMove, .range, false⟩, -- door_force_limit
   ⟨0x4044, 0x4044, 1, 1000, 10000, [], 10000, 16, .nextMove, .range, false⟩, -- door_ke_limit
   ⟨0x4045, 0x4045, 1, 500, 4000, [], 4000, 16, .nextMove, .range, false⟩, -- door_ke_nudge
   ⟨0x4046, 0x4046, 1, 0, 500, [], 30, 16, .commit, .range, false⟩, -- door_friction
   ⟨0x4047, 0x4047, 1, 0, 100, [], 40, 16, .commit, .range, false⟩, -- door_fric_adapt_max
   ⟨0x4048, 0x4048, 3, 20000, 200000, [], 50000, 16, .commit, .range, false⟩, -- door_est_min_speed
   ⟨0x4049, 0x4049, 1, 900, 1500, [], 1000, 16, .commit, .range, false⟩, -- door_stall_angle
   ⟨0x404A, 0x404A, 0, 1, 20, [], 5, 16, .commit, .range, false⟩, -- door_reopen_max
   ⟨0x404B, 0x404B, 1, 100, 10000, [], 1000, 16, .commit, .range, false⟩, -- door_open_retry_ms
   ⟨0x4050, 0x4050, 3, 0, 1048575, [4294967295], 4294967295, 16, .commit, .range, false⟩, -- door_curtain_point
   ⟨0x4051, 0x4051, 1, 0, 300, [], 20, 16, .commit, .range, false⟩, -- door_nudge_after_s
   ⟨0x4052, 0x4052, 3, 20000, 300000, [], 150000, 16, .nextMove, .range, false⟩, -- door_nudge_speed
   ⟨0x4053, 0x4053, 3, 0, 1048575, [4294967295], 4294967295, 16, .commit, .range, false⟩] -- door_nudge_point

/-- Key rows of block 0x5. -/
def keyRows5 : List KeySpec :=
  [⟨0x5001, 0x5001, 0, 0, 3, [255], 255, 8, .groupEpoch, .range, false⟩, -- car_group
   ⟨0x5002, 0x5002, 0, 0, 3, [], 0, 8, .nextTrip, .range, false⟩, -- car_power_domain
   ⟨0x5003, 0x5003, 0, 1, 80, [], 13, 8, .commit, .range, false⟩, -- car_capacity_pax
   ⟨0x5004, 0x5004, 0, 0, 1, [], 1, 8, .commit, .range, false⟩, -- car_accessible
   ⟨0x5005, 0x5005, 1, 10, 500, [], 40, 8, .commit, .range, false⟩, -- car_occupied_kg
   ⟨0x5006, 0x5006, 1, 0, 500, [], 50, 8, .commit, .range, false⟩, -- rescue_band_kg
   ⟨0x5010, 0x5010, 1, 40, 150, [], 80, 1, .commit, .range, false⟩, -- disp_pax_kg
   ⟨0x5011, 0x5011, 0, 50, 100, [], 85, 8, .commit, .range, false⟩, -- disp_motor_eff_pct
   ⟨0x5012, 0x5012, 0, 0, 100, [], 60, 8, .commit, .range, false⟩, -- disp_regen_eff_pct
   ⟨0x5013, 0x5013, 3, 0, 50000, [], 1500, 8, .commit, .range, false⟩, -- disp_standing_w
   ⟨0x5020, 0x5020, 3, 0, 1048575, [4294967295], 4294967295, 4, .commit, .range, false⟩, -- pg_ups_motor_point
   ⟨0x5021, 0x5021, 3, 0, 1048575, [4294967295], 4294967295, 4, .commit, .range, false⟩, -- pg_ups_regen_point
   ⟨0x5022, 0x5022, 3, 0, 1048575, [4294967295], 4294967295, 4, .commit, .range, false⟩, -- pg_ups_state_point
   ⟨0x5023, 0x5023, 1, 1, 1000, [], 100, 4, .commit, .range, false⟩, -- pg_point_scale_w
   ⟨0x5024, 0x5024, 3, 0, 2000000, [], 0, 4, .commit, .range, false⟩, -- pg_fallback_motor_w
   ⟨0x5025, 0x5025, 3, 0, 2000000, [], 0, 4, .commit, .range, false⟩, -- pg_fallback_regen_w
   ⟨0x5026, 0x5026, 0, 0, 100, [], 25, 4, .groupEpoch, .range, false⟩, -- pg_share_min_pct
   ⟨0x5040, 0x5040, 1, 10, 10000, [], 100, 1, .commit, .range, false⟩, -- refine_period_ms
   ⟨0x5041, 0x5041, 0, 1, 50, [], 5, 1, .commit, .range, false⟩] -- refine_min_gain_pct

/-- Key rows of block 0x6. -/
def keyRows6 : List KeySpec :=
  [⟨0x6001, 0x6001, 0, 0, 1, [], 0, 8, .confirmation, .range, false⟩, -- sf_car_enable
   ⟨0x6002, 0x6002, 0, 1, 3, [], 1, 8, .confirmation, .range, false⟩, -- sf_sides
   ⟨0x6003, 0x6003, 3, 100000, 20000000, [], 1000000, 8, .confirmation, .range, false⟩, -- sf_v_rated
   ⟨0x6004, 0x6004, 0, 102, 114, [], 110, 8, .confirmation, .range, false⟩, -- sf_overspeed_pct
   ⟨0x6005, 0x6005, 3, 50000, 630000, [], 630000, 8, .confirmation, .range, false⟩, -- sf_v_insp
   ⟨0x6006, 0x6006, 3, 50000, 300000, [], 300000, 8, .confirmation, .range, false⟩, -- sf_v_rescue
   ⟨0x6007, 0x6007, 3, 50000, 800000, [], 800000, 8, .confirmation, .range, false⟩, -- sf_v_level
   ⟨0x6008, 0x6008, 3, 10000, 300000, [], 300000, 8, .confirmation, .range, false⟩, -- sf_v_relevel
   ⟨0x6009, 0x6009, 3, 10000, 200000, [], 50000, 8, .confirmation, .range, false⟩, -- sf_sls_margin
   ⟨0x600A, 0x600A, 1, 0, 5000, [], 1000, 8, .confirmation, .range, false⟩, -- sf_env_delay_ms
   ⟨0x600B, 0x600B, 3, 100000, 2000000, [], 500000, 8, .confirmation, .range, false⟩, -- sf_env_dec
   ⟨0x600C, 0x600C, 3, 50000, 1000000, [], 150000, 8, .confirmation, .range, false⟩, -- sf_speed_xtol
   ⟨0x600D, 0x600D, 0, 0, 20, [], 3, 8, .confirmation, .range, false⟩, -- sf_speed_xtol_pct
   ⟨0x600E, 0x600E, 3, 10000, 500000, [], 100000, 8, .confirmation, .range, false⟩, -- sf_pos_xtol
   ⟨0x600F, 0x600F, 1, 0, 5000, [], 1000, 8, .confirmation, .range, false⟩, -- sf_pos_xtol_per_m
   ⟨0x6010, 0x6010, 0, 2, 64, [], 8, 8, .confirmation, .range, false⟩, -- sf_xtol_cycles
   ⟨0x6011, 0x6011, 6, -2147483648, 2147483647, [], 2147483647, 8, .confirmation, .range, false⟩, -- sf_final_up
   ⟨0x6012, 0x6012, 6, -2147483648, 2147483647, [], 2147483647, 8, .confirmation, .range, false⟩, -- sf_final_down
   ⟨0x6013, 0x6013, 0, 0, 1, [], 0, 8, .confirmation, .range, false⟩, -- sf_etsl_enable
   ⟨0x6014, 0x6014, 3, 100000, 20000000, [], 1000000, 8, .confirmation, .range, false⟩, -- sf_etsl_buffer_speed
   ⟨0x6015, 0x6015, 3, 200000, 2000000, [], 800000, 8, .confirmation, .range, false⟩, -- sf_etsl_dec
   ⟨0x6016, 0x6016, 3, 2000, 100000, [], 20000, 8, .confirmation, .range, false⟩, -- sf_switch_tol
   ⟨0x6018, 0x601F, 6, -2147483648, 2147483647, [], 2147483647, 8, .confirmation, .range, false⟩, -- sf_switch_pos[k]
   ⟨0x6020, 0x6020, 3, 20000, 200000, [], 100000, 8, .confirmation, .range, false⟩, -- sf_ucm_dist
   ⟨0x6021, 0x6021, 3, 100000, 1200000, [], 1000000, 8, .confirmation, .range, false⟩, -- sf_ucm_stop_limit
   ⟨0x6022, 0x6022, 3, 5000, 100000, [], 20000, 8, .confirmation, .range, false⟩, -- sf_dir_tol
   ⟨0x6023, 0x6023, 3, 5000, 100000, [], 50000, 8, .confirmation, .range, false⟩, -- sf_relevel_travel
   ⟨0x6024, 0x6024, 0, 0, 1, [], 0, 8, .confirmation, .range, false⟩, -- sf_adv_open
   ⟨0x6030, 0x6030, 1, 50, 2000, [], 500, 8, .confirmation, .range, false⟩, -- sf_brake_open_ms
   ⟨0x6031, 0x6031, 1, 50, 2000, [], 500, 8, .confirmation, .range, false⟩, -- sf_brake_close_ms
   ⟨0x6032, 0x6032, 3, 1000, 50000, [], 10000, 8, .confirmation, .range, false⟩, -- sf_brake_slip_dist
   ⟨0x6033, 0x6033, 3, 1000, 50000, [], 5000, 8, .confirmation, .range, false⟩] -- sf_bt_move_limit

/-- Key rows of block 0x6. -/
def keyRows61 : List KeySpec :=
  [⟨0x6034, 0x6034, 1, 24, 8760, [0], 720, 8, .confirmation, .range, false⟩, -- sf_bt_interval_h
   ⟨0x6040, 0x6040, 1, 1024, 32767, [], 16384, 8, .confirmation, .range, false⟩, -- sf_torque_max
   ⟨0x6041, 0x6041, 3, 50000, 2000000, [], 1000000, 8, .confirmation, .range, false⟩, -- sf_door_v_max
   ⟨0x6042, 0x6042, 1, 50, 150, [], 150, 8, .confirmation, .range, false⟩, -- sf_door_force_max
   ⟨0x6043, 0x6043, 1, 1000, 10000, [], 10000, 8, .confirmation, .range, false⟩, -- sf_door_ke_max
   ⟨0x6100, 0x6100, 0, 0, 12, [], 0, 96, .confirmation, .range, false⟩, -- si_function
   ⟨0x6101, 0x6101, 0, 0, 7, [255], 255, 96, .confirmation, .range, false⟩, -- si_car
   ⟨0x6102, 0x6102, 0, 0, 7, [], 0, 96, .confirmation, .range, false⟩, -- si_index
   ⟨0x6103, 0x6103, 0, 0, 1, [], 0, 96, .confirmation, .range, false⟩, -- si_wiring
   ⟨0x6104, 0x6104, 0, 2, 80, [], 4, 96, .confirmation, .range, false⟩, -- si_filter
   ⟨0x6105, 0x6105, 1, 2, 500, [], 20, 96, .confirmation, .range, false⟩, -- si_td
   ⟨0x6106, 0x6106, 0, 0, 1, [], 0, 96, .confirmation, .range, false⟩, -- si_reaction
   ⟨0x6200, 0x6200, 3, 0, 4294967295, [], 0, 1, .confirmation, .range, true⟩, -- sf_set_number
   ⟨0x6201, 0x6201, 0, 0, 255, [], 0, 1, .confirmation, .range, true⟩] -- sf_set_state

/-- Key rows of block 0x7. -/
def keyRows7 : List KeySpec :=
  [⟨0x7001, 0x7001, 0, 0, 1, [], 1, 1, .nextProving, .range, false⟩, -- pair_enable
   ⟨0x7002, 0x7002, 1, 0, 60000, [], 3000, 1, .commit, .range, false⟩, -- pair_solo_wait_ms
   ⟨0x7003, 0x7003, 0, 0, 1, [], 0, 1, .commit, .range, false⟩, -- pair_referee
   ⟨0x7004, 0x7004, 0, 0, 255, [], 255, 1, .commit, .range, false⟩] -- pair_arbiter_mask

/-- Key rows of block 0x8. -/
def keyRows8 : List KeySpec :=
  [⟨0x8001, 0x8001, 0, 0, 3, [], 0, 64, .restart, .range, false⟩, -- port_use
   ⟨0x8002, 0x8002, 0, 0, 2, [], 1, 64, .restart, .range, false⟩, -- port_class
   ⟨0x8003, 0x8003, 0, 0, 3, [], 3, 64, .restart, .range, false⟩, -- port_rate
   ⟨0x8004, 0x8004, 0, 0, 63, [255], 255, 64, .restart, .range, false⟩, -- port_ring
   ⟨0x8005, 0x8005, 0, 0, 7, [255], 255, 64, .restart, .range, false⟩, -- port_car
   ⟨0x8006, 0x8006, 0, 0, 255, [], 0, 64, .commit, .range, false⟩, -- port_phase
   ⟨0x8007, 0x8007, 1, 200, 5000, [], 1000, 64, .commit, .range, false⟩, -- port_guard_ns
   ⟨0x8008, 0x8008, 0, 0, 3, [255], 255, 64, .restart, .range, false⟩, -- port_peer_pair
   ⟨0x8009, 0x8009, 1, 100, 10000, [], 1000, 64, .commit, .range, false⟩, -- ring_probe_ms
   ⟨0x800A, 0x800A, 0, 0, 1, [], 1, 64, .commit, .range, false⟩, -- port_poll
   ⟨0x8100, 0x8100, 0, 0, 1, [], 0, 64, .commit, .range, false⟩, -- node_join_policy
   ⟨0x8101, 0x8101, 0, 1, 64, [], 2, 64, .commit, .range, false⟩, -- pt_filter_default
   ⟨0x8102, 0x8102, 1, 1, 3600, [], 60, 64, .commit, .range, false⟩] -- pt_max_active_s

/-- Key rows of block 0x9. -/
def keyRows9 : List KeySpec :=
  [⟨0x9001, 0x9001, 0, 0, 255, [], 10, 1, .commit, .range, false⟩, -- log_default_burst
   ⟨0x9002, 0x9002, 3, 100, 3600000, [], 1000, 1, .commit, .range, false⟩, -- log_default_refill_ms
   ⟨0x9003, 0x9003, 1, 10, 3600, [], 300, 1, .commit, .range, false⟩, -- log_cursor_idle_s
   ⟨0x9004, 0x9004, 0, 50, 99, [], 90, 1, .commit, .range, false⟩] -- log_warn_pct

/-- Key rows of block 0xA. -/
def keyRowsA : List KeySpec :=
  [⟨0xA001, 0xA001, 0, 0, 1, [], 0, 1, .nextProving, .range, false⟩, -- commission_on_boot
   ⟨0xA002, 0xA002, 0, 4, 24, [], 24, 1, .nextBg, .range, false⟩, -- bg_period
   ⟨0xA003, 0xA003, 1, 100, 10000, [], 1000, 1, .commit, .range, false⟩, -- health_period
   ⟨0xA010, 0xA010, 4, 0, 1099511627775, [], 0, 1, .readOnly, .range, true⟩, -- operating_time
   ⟨0xA011, 0xA011, 2, 0, 16777215, [], 0, 1, .readOnly, .range, true⟩, -- power_cycle_count
   ⟨0xA020, 0xA020, 1, 1, 10000, [], 100, 1, .commit, .range, false⟩, -- fault_t_limit
   ⟨0xA021, 0xA021, 0, 1, 64, [], 8, 1, .commit, .range, false⟩, -- mem_stuck_max
   ⟨0xA022, 0xA022, 1, 500, 4000, [], 1000, 1, .nextPass, .range, false⟩, -- scrub_target_ms
   ⟨0xA040, 0xA040, 1, 100, 60000, [], 1000, 8, .commit, .range, false⟩, -- so_test_period_ms
   ⟨0xA041, 0xA041, 1, 10, 1000, [], 100, 32, .commit, .range, false⟩, -- so_confirm_ms
   ⟨0xA060, 0xA060, 1, 1, 1000, [], 10, 1, .commit, .range, false⟩] -- hq_partial_ms

/-- Key rows of block 0xB. -/
def keyRowsB : List KeySpec :=
  [⟨0xB001, 0xB001, 1, 10, 600, [], 60, 1, .nextSession, .range, false⟩, -- img_session_idle_s
   ⟨0xB010, 0xB012, 3, 0, 4294967295, [], 0, 1, .readOnly, .range, true⟩] -- img_floor[t]

/-- All rows, in ascending order of key. -/
def keyRows : List KeySpec :=
  keyRows1 ++ keyRows11 ++ keyRows2 ++ keyRows3 ++ keyRows31 ++ keyRows4 ++ keyRows41 ++ keyRows5 ++ keyRows6 ++ keyRows61 ++ keyRows7 ++ keyRows8 ++ keyRows9 ++ keyRowsA ++ keyRowsB

/-- The row that defines a key. -/
def findKey (k : Nat) : Option KeySpec := keyRows.find? (fun r => r.key ≤ k && k ≤ r.last)

/-- A key's default. -/
def keyDefault (k : Nat) : Int := match findKey k with | some r => r.dflt | none => 0

/-- The number of bits of a type code of Table 16.7, and whether it is signed. -/
def typeBits (t : Nat) : Nat × Bool :=
  match t with
  | 0 => (8, false) | 1 => (16, false) | 2 => (24, false) | 3 => (32, false) | 4 => (40, false)
  | 5 => (16, true) | _ => (32, true)

/-- Key and instance as one table key. -/
def kix (key inst : Nat) : Nat := key * 256 + inst

/-- Default of a parameter table: unlisted keys read their defaults. -/
def paramDflt : Nat → Int := fun n => keyDefault (n / 256)

/-- Source codes of Table 05.1. -/
def sourceOk (v : Int) : Bool :=
  let n := v.toNat; let lo := n % 256; let hi := n / 256
  n == 0 || (1 ≤ hi && hi ≤ 7 && lo < 8) || ((hi == 8 || hi == 9 || hi == 10) && lo < 16)
    || ((hi == 11 || hi == 12) && lo < 64)

/-- Destination codes of Table 05.2. -/
def destOk (v : Int) : Bool :=
  let n := v.toNat; let lo := n % 256; let hi := n / 256
  n == 0 || (hi == 1 && lo < 8) || (hi == 2 && lo < 16) || (hi == 3 && lo < 64)

/-- The key's own range (R385), `learned` being the learned value of R430. -/
def keyRangeOk (r : KeySpec) (learned v : Int) : Bool :=
  match r.form with
  | .range => (r.lo ≤ v && v ≤ r.hi) || r.alt.contains v
  | .source => sourceOk v
  | .dest => destOk v
  | .node => (0 ≤ v && v ≤ r.hi && v % 64 == 0) || r.alt.contains v
  | .learned => v == 0x7FFFFFFF
      || (learned != 0x7FFFFFFF && learned - 50000 ≤ v && v ≤ learned + 50000)

end Sys2Proof.Machine
end

