-- ==== Sys2Proof/Machine/State.lean ====
section
/-! DEFINITION. The state of one TU-6408 as plain data, grouped by unit, and the state after reset. -/

namespace Sys2Proof.Machine

/-- Why the block stops. -/
inductive Fault where
  /-- Raised by a meaning whose operands cannot occur on the hardware (`Instr.wellFormed` is false: a list
  whose length contradicts its count, a token of another length than its field). Safe: no packet or event
  of the device spells such a command. (log entry 3: DESIGN CHOICE) -/
  | illFormed
  deriving DecidableEq, Repr

/-- Why the model gives a command no meaning. -/
inductive Refusal where
  /-- Raised by an arm of `exec` without a meaning. Safe: nothing can be proved of the command. -/
  | notModelled (mnemonic : String)
  deriving DecidableEq, Repr

/-- The groups of state that protected work classes own, as they stood at the last tick (R25).
(log entry 20: DEDUCED) -/
structure Groups where
  fb : Fb := {}
  loops : Loops := {}
  motion : Motion := {}
  disp : Disp := {}
  saf : Saf := {}
  links : Links := {}
  pair : PairSt := {}
  deriving DecidableEq, Repr

/-- A completed request that waits its turn (R374): one to execute, one of a defined opcode with an undefined action, or a
reply that only waits for those before it. -/
inductive Waiting where
  | cmd (i : Instr) (h : Hdr) (op len : Nat)
  | action (h : Hdr) (op insts len : Nat) (lenOk : Bool)
  | ready (r : HeldReply)
  deriving DecidableEq, Repr

/-- The packet assembler and transaction state of the host port (R368 to R371).
(log entries 13: DESIGN CHOICE, 85: DESIGN CHOICE) -/
structure HostPort where
  /-- What the device drove on HQ_IO in the latest transaction, after the dummy clocks. -/
  sent : Bytes := []
  /-- Bytes of the packet being assembled, from its sync byte. -/
  asm : Bytes := []
  /-- `errors` of Table 16.2. -/
  errors : BitVec 8 := 0
  port : HostChan := {}
  link : HostChan := {}
  /-- Requests completed and not yet answered (R374), oldest first. -/
  waiting : List Waiting := []
  /-- Replies held under R255, R386 or R93, oldest first. -/
  held : List HeldReply := []
  /-- NOTIFYs held until the commit of an epoch, which carries their change (R255). -/
  heldNotes : List (Nat × Chan × OutPkt) := []
  /-- The replay record of R255 and R378, newest last, at most 64. -/
  replay : List (U16 × U32 × Bytes) := []
  /-- The link of the host channel is up (R336). -/
  linkUp : Bool := false
  deriving DecidableEq, Repr

/-- A validated `PARAM_COMMIT`: the epoch of validation, keys changed, the LIMITED key, and the request (R386, R387). -/
structure Committing where
  epoch : Nat
  count : Nat
  limited : Option (Nat × Nat)
  hdr : Hdr
  deriving DecidableEq, Repr

/-- Parameters: committed (MRAM), in force, staged, learned (R384 to R388, R430). -/
structure ParamSt where
  committed : Params := {}
  /-- Values in force; a committed value joins them as its "Takes effect" entry states. -/
  force : Tbl Int := []
  staged : Params := {}
  /-- Learned landing and switch positions by `kix key car`. -/
  learned : Tbl Int := []
  /-- The lane of each loop, as the latest commit, configuration load or loss of a lane allocated it (R90, R297). -/
  lanes : List (Nat × Nat) := []
  /-- A commit between validation and its epoch of effect. -/
  commit : Option Committing := none
  commits : Nat := 0
  deriving DecidableEq, Repr

/-- The lockout latch of R38 with its cause and operating time. -/
structure Latch where
  isSet : Bool := false
  cause : Nat := 0
  time : Nat := 0
  deriving DecidableEq, Repr

/-- Pins and supplies as the device reads them. (log entries 15: DESIGN CHOICE, 85: DESIGN CHOICE) -/
structure Pins where
  /-- WAKE through its 1 ms filter. -/
  wake : Bool := true
  /-- WAKE has read low since DORMANT was entered. -/
  wakeWasLow : Bool := false
  /-- A WAKE demand is held under R432. -/
  wakeHeld : Bool := false
  vaon : Bool := true
  supplies : Bool := true
  rstN : Bool := true
  pfailN : Bool := true
  vetoIn : Bool := false
  /-- POS[2:0] as read at PROVING and as last seen, and whether a change was recorded (R427). -/
  pos : BitVec 3 := 0
  posNow : BitVec 3 := 0
  posChanged : Bool := false
  deriving DecidableEq, Repr

/-- The whole device. -/
structure State where
  power : Power := .on
  mode : Mode := .proving
  pins : Pins := {}
  latch : Latch := {}
  /-- Frames since the frame origin (48 bits). -/
  frame : Nat := 0
  /-- Operating time, 1/16 s (40 bits, R302), and the value last written to MRAM. -/
  opTime : Nat := 0
  opSaved : Nat := 0
  /-- Power-cycle count (24 bits). -/
  powerCycle : Nat := 0
  /-- A transition of R437 whose reply has not left. -/
  transition : Option Pending := none
  /-- For event 0xA100 of the next start: the mode left and the cause (Table 03.13). -/
  resetFrom : Nat × Nat := (0xFF, 0)
  /-- Mode changes that wait for the recorder of PROVING (R436): old mode, new mode, cause.
  (log entry 23: DEDUCED) -/
  entryRecs : List (Nat × Nat × Nat) := []
  slack : Slack := {}
  fb : Fb := {}
  loops : Loops := {}
  motion : Motion := {}
  disp : Disp := {}
  saf : Saf := {}
  links : Links := {}
  frozen : Groups := {}
  pair : PairSt := {}
  proving : Proving := {}
  log : Rec := {}
  fm : Fm := {}
  mem : Mem := {}
  params : ParamSt := {}
  host : HostPort := {}
  img : Img := {}
  /-- The model's own counter of free values taken. (log entries 10 and 12: DESIGN CHOICE) -/
  free : Nat := 0
  /-- Commands waiting, first in first out. (log entry 1: PRESUMED) -/
  pending : List Instr := []
  deriving DecidableEq, Repr

/-- The device right after reset: PROVING is starting with unit 0x00 (R40, R431).
(log entries 13: DESIGN CHOICE, 14: DESIGN CHOICE, 15: DESIGN CHOICE) -/
def State.reset : State := { proving := { running := true }, entryRecs := [(0xFF, 1, 0)] }

end Sys2Proof.Machine
end

