-- ==== Sys2Proof/Machine/Ops.lean ====
section
/-! DEFINITION. Named access to the state: tables, parameters, time, roles, who drives. -/

namespace Sys2Proof.Machine

variable (s : State)

/-! ### Tables -/

def State.enc (n : Nat) : EncChan := tget (dft {}) s.fb.chans n
def State.modEnc (n : Nat) (f : EncChan → EncChan) : State :=
  { s with fb := { s.fb with chans := tmod (dft {}) s.fb.chans n f } }
def State.ssi (n : Nat) : SsiPort := tget (dft {}) s.fb.ssi n
def State.modSsi (n : Nat) (f : SsiPort → SsiPort) : State :=
  { s with fb := { s.fb with ssi := tmod (dft {}) s.fb.ssi n f } }
def State.carFb (c : Nat) : CarFb := tget (dft {}) s.fb.cars c
def State.modCarFb (c : Nat) (f : CarFb → CarFb) : State :=
  { s with fb := { s.fb with cars := tmod (dft {}) s.fb.cars c f } }
def State.loop (l : Nat) : Loop := tget (dft {}) s.loops.loops l
def State.modLoop (l : Nat) (f : Loop → Loop) : State :=
  { s with loops := { s.loops with loops := tmod (dft {}) s.loops.loops l f } }
def State.inj (n : Nat) : InjSlot := tget (dft {}) s.loops.inj n
def State.modInj (n : Nat) (f : InjSlot → InjSlot) : State :=
  { s with loops := { s.loops with inj := tmod (dft {}) s.loops.inj n f } }
def State.cap : Capture := s.loops.cap
def State.modCap (f : Capture → Capture) : State := { s with loops := { s.loops with cap := f s.loops.cap } }
def State.plaus (c : Nat) : Plaus := tget (dft {}) s.loops.plaus c
def State.modPlaus (c : Nat) (f : Plaus → Plaus) : State :=
  { s with loops := { s.loops with plaus := tmod (dft {}) s.loops.plaus c f } }
def State.hoist (c : Nat) : Hoist := tget (dft {}) s.motion.hoist c
def State.modHoist (c : Nat) (f : Hoist → Hoist) : State :=
  { s with motion := { s.motion with hoist := tmod (dft {}) s.motion.hoist c f } }
def State.door (d : Nat) : Door := tget (dft {}) s.motion.doors d
def State.modDoor (d : Nat) (f : Door → Door) : State :=
  { s with motion := { s.motion with doors := tmod (dft {}) s.motion.doors d f } }
def State.doorSlot (n : Nat) : DoorSlot := tget (dft {}) s.motion.slots n
def State.modDoorSlot (n : Nat) (f : DoorSlot → DoorSlot) : State :=
  { s with motion := { s.motion with slots := tmod (dft {}) s.motion.slots n f } }
def State.dcar (c : Nat) : DispCar := tget (dft {}) s.disp.cars c
def State.modDcar (c : Nat) (f : DispCar → DispCar) : State :=
  { s with disp := { s.disp with cars := tmod (dft {}) s.disp.cars c f } }
def State.domain (n : Nat) : Domain := tget (dft {}) s.disp.domains n
def State.modDomain (n : Nat) (f : Domain → Domain) : State :=
  { s with disp := { s.disp with domains := tmod (dft {}) s.disp.domains n f } }
def State.pairView (p : Nat) : PairView := tget (dft {}) s.disp.pairs p
def State.modPairView (p : Nat) (f : PairView → PairView) : State :=
  { s with disp := { s.disp with pairs := tmod (dft {}) s.disp.pairs p f } }
def State.carSaf (c : Nat) : CarSaf := tget (dft {}) s.saf.cars c
def State.modCarSaf (c : Nat) (f : CarSaf → CarSaf) : State :=
  { s with saf := { s.saf with cars := tmod (dft {}) s.saf.cars c f } }
def State.safIn (i : Nat) : SafIn := tget (dft {}) s.saf.inputs i
def State.modSafIn (i : Nat) (f : SafIn → SafIn) : State :=
  { s with saf := { s.saf with inputs := tmod (dft {}) s.saf.inputs i f } }
def State.out (o : Nat) : Out := tget (dft {}) s.saf.outs o
def State.modOut (o : Nat) (f : Out → Out) : State :=
  { s with saf := { s.saf with outs := tmod (dft {}) s.saf.outs o f } }
def State.lport (p : Nat) : Port := tget (dft {}) s.links.ports p
def State.modPort (p : Nat) (f : Port → Port) : State :=
  { s with links := { s.links with ports := tmod (dft {}) s.links.ports p f } }
/-- The key of a node: port × 256 + address. -/
def nodeKey (p a : Nat) : Nat := p * 256 + a
def State.node (p a : Nat) : Node := tget (dft {}) s.links.nodes (nodeKey p a)
def State.modNode (p a : Nat) (f : Node → Node) : State :=
  { s with links := { s.links with nodes := tmod (dft {}) s.links.nodes (nodeKey p a) f } }
/-- Point addresses of key 0x2030: port, node, point. -/
def pointKey (p a n : Nat) : Nat := p * 16384 + a * 64 + n
def State.point (k : Nat) : Point := tget (dft {}) s.links.points k
def State.modPoint (k : Nat) (f : Point → Point) : State :=
  { s with links := { s.links with points := tmod (dft {}) s.links.points k f } }
def State.croak (n : Nat) : Croak := tget (dft {}) s.pair.slots n
def State.modCroak (n : Nat) (f : Croak → Croak) : State :=
  { s with pair := { s.pair with slots := tmod (dft {}) s.pair.slots n f } }
def State.unit (u : Nat) : UnitRes := tget (dft {}) s.proving.units u
def State.modUnit (u : Nat) (f : UnitRes → UnitRes) : State :=
  { s with proving := { s.proving with units := tmod (dft {}) s.proving.units u f } }
def State.slackC (n : Nat) : SlackClass := tget (dft {}) s.slack.classes n
def State.modSlackC (n : Nat) (f : SlackClass → SlackClass) : State :=
  { s with slack := { s.slack with classes := tmod (dft {}) s.slack.classes n f } }
def State.cursor (n : Nat) : Cursor := tget (dft {}) s.log.cursors n
def State.modCursor (n : Nat) (f : Cursor → Cursor) : State :=
  { s with log := { s.log with cursors := tmod (dft {}) s.log.cursors n f } }
def State.imgSlot (n : Nat) : ImgSlot := tget (dft {}) s.img.slots n
def State.modImgSlot (n : Nat) (f : ImgSlot → ImgSlot) : State :=
  { s with img := { s.img with slots := tmod (dft {}) s.img.slots n f } }

/-- Apply `f` to the state for each element, in order. -/
def forEach {α : Type} (l : List α) (f : State → α → State) (s : State) : State := l.foldl f s

def cars8 : List Nat := List.range 8
def outs32 : List Nat := List.range 32

/-! ### Parameters -/

/-- The value in force of a key. (log entry 5: DEDUCED) -/
def State.par (key inst : Nat) : Int := tget paramDflt s.params.force (kix key inst)
/-- The value in force of an unsigned key. -/
def State.parN (key inst : Nat) : Nat := (s.par key inst).toNat
/-- The committed value of a key. (log entry 5: DEDUCED) -/
def State.com (key inst : Nat) : Int := tget paramDflt s.params.committed.vals (kix key inst)
/-- The staged value of a key. -/
def State.stg (key inst : Nat) : Int := tget paramDflt s.params.staged.vals (kix key inst)
/-- The learned value of a landing or switch position (R430). -/
def State.learnedPos (key inst : Nat) : Int := tget (dft 0x7FFFFFFF) s.params.learned (kix key inst)

/-- A key of a safety set: keys absent from it take their defaults (R223). -/
def setVal (q : SafetySet) (key inst : Nat) : Int :=
  match q.entries.find? (fun e => e.1 == key && e.2.1 == inst) with
  | some e => e.2.2
  | none => keyDefault key

/-- A safety key as the confirmed set has it; its default where there is no set. -/
def State.sf (key inst : Nat) : Int :=
  match s.saf.set with
  | some q => setVal q key inst
  | none => keyDefault key
def State.sfN (key inst : Nat) : Nat := (s.sf key inst).toNat

/-- A car whose feedback geometry names a motor channel. -/
def State.configured (c : Nat) : Bool := s.com 0x1100 c != 0xFF
/-- A car the confirmed set enables. -/
def State.safEnabled (c : Nat) : Bool := s.sf 0x6001 c == 1

/-- Copy the committed values of every key with effect `e` into force, for one instance or for all
(`none`). -/
def latchKeys (e : KeyEffect) (inst : Option Nat) (p : ParamSt) : ParamSt :=
  let rows := keyRows.filter (fun r => r.effect == e)
  let keep := fun k : Nat => rows.any (fun r => r.key ≤ k / 256 && k / 256 ≤ r.last)
    && (match inst with | none => true | some i => k % 256 == i)
  let stale := p.force.filter (fun kv => keep kv.1)
  let f1 := stale.foldl (fun f kv => tset paramDflt f kv.1 (paramDflt kv.1)) p.force
  let fresh := p.committed.vals.filter (fun kv => keep kv.1)
  let f2 := fresh.foldl (fun f kv => tset paramDflt f kv.1 kv.2) f1
  { p with force := f2 }

/-- Log entry 5: DEDUCED. -/
def State.latch' (e : KeyEffect) (inst : Option Nat) : State :=
  { s with params := latchKeys e inst s.params }

/-! ### Time -/

/-- Frames in `ms` milliseconds (32 frames of 31.25 µs). (log entry 18: DESIGN CHOICE) -/
def msFrames (ms : Nat) : Nat := ms * 32
/-- Whole milliseconds since frame `f`. -/
def State.msSince (f : Nat) : Nat := (s.frame - f) / 32
/-- Log entry 18: DESIGN CHOICE. -/
def State.usSince (f : Nat) : Nat := (s.frame - f) * 3125 / 100
/-- Epoch number (frame count divided by 4). -/
def State.epoch : Nat := s.frame / 4
/-- Milliseconds left of a window of `total` ms opened in frame `f`. -/
def State.msLeft (total f : Nat) : Nat := total - s.msSince f

/-! ### Modes, roles and who drives -/

def modeCode : Mode → Nat
  | .dormant => 0 | .proving => 1 | .commission => 2 | .service => 3 | .shadow => 4 | .lockout => 5

def modeOf (n : Nat) : Option Mode :=
  match n with
  | 0 => some .dormant | 1 => some .proving | 2 => some .commission | 3 => some .service
  | 4 => some .shadow | 5 => some .lockout | _ => none

/-- The device runs: powered, out of reset and not DORMANT. -/
def State.running : Bool := s.power == .on && s.mode != .dormant

/-- Own pair number and position within it (R6). -/
def State.pairNo : Nat := s.pins.pos.toNat / 2
def State.partnerSlot : Nat := if s.pins.pos.toNat % 2 == 0 then s.pins.pos.toNat + 1 else s.pins.pos.toNat - 1
/-- The partner's slot as last heard, and its role. -/
def State.partner : Croak := s.croak s.partnerSlot
def State.partnerRole : Nat := if s.partner.heard then s.partner.role else 0xFF
def State.twinLost : Bool := s.pair.lanes == 0

/-- R35: a COMMISSION device whose partner croaks active or commission. -/
def State.passive : Bool := s.mode == .commission && (s.partnerRole == 1 || s.partnerRole == 2)
/-- An active COMMISSION device. -/
def State.activeCom : Bool := s.mode == .commission && !s.passive
/-- The device whose commands move the cars: SERVICE, or an active COMMISSION device. -/
def State.incharge : Bool := s.mode == .service || s.activeCom
/-- R252: the device drives ports, SSI clocks and outputs. A yielding device stops driving its ports at
the boundary at which it sends yield; a handing-over device at h1. -/
def State.driving : Bool :=
  s.power == .on && s.incharge && !s.pair.yieldSent && s.pair.hand < 2
/-- The active with its standby in step (R255). -/
def State.inStepActive : Bool := s.incharge && s.pair.inStep
/-- A standby that keeps its state advanced: in step, or since the loss of the twin link alone (R257, R264).
(log entry 41: DEDUCED) -/
def State.follows : Bool := s.mode == .shadow && (s.pair.inStep || s.pair.fellInStep)
/-- A standby in step, whose findings go to the active (R303). -/
def State.inStepStandby : Bool := s.mode == .shadow && s.pair.inStep

/-- The car stands still (R68); a car without motor channel does. -/
def State.standstill (c : Nat) : Bool :=
  match s.com 0x1100 c with
  | 0xFF => true
  | n => (s.enc n.toNat).standstill

/-- Supervision reports both brakes of a car closed (R218). A car that no confirmed set enables has no monitors: its brakes
count as closed once they are not energised. (log entry 96: DESIGN CHOICE) -/
def State.brakesClosed (c : Nat) : Bool :=
  let k := s.carSaf c
  !k.brakeA.energised && !k.brakeB.energised && (!s.safEnabled c || (k.brakeA.reached && k.brakeB.reached))

/-- At standstill with brakes applied. -/
def State.atRest (c : Nat) : Bool := s.standstill c && s.brakesClosed c

/-- A loop's lane as it was allocated (R90), 0xFF if off. -/
def State.laneOf (l : Nat) : Nat := if s.parN 0x2100 l == 0 then 0xFF else tget (dft 0xFF) s.params.lanes l

/-- The loop stands on a lane that has been lost. -/
def State.laneLost (l : Nat) : Bool := s.laneOf l < 4 && bitAt s.proving.lanesLost (s.laneOf l)

/-- A slice in progress is abandoned; its block is reloaded from the next commit (R50). -/
def abandonSlice : State :=
  match s.proving.bgUnit with
  | some u => { s with proving := { s.proving with bgUnit := none, bgReload := some u } }
  | none => s

/-- The shadow computation of the block that unit `u` tests is suspended while a slice of it runs (R49). -/
def State.suspended (u : Nat) : Bool := s.mode == .shadow && s.proving.bgUnit == some u

/-- The mirror comparison of that block is skipped until it has been reloaded (R49). -/
def State.unitSkipped (u : Nat) : Bool := s.suspended u || (s.mode == .shadow && s.proving.bgReload == some u)

/-- Output 4c + k. -/
def outOf (c k : Nat) : Nat := 4 * c + k
/-- An output counts as energised while a gate pin of it toggles. -/
def State.outOn (o : Nat) : Bool := (s.out o).hs || (s.out o).ls
def State.anyOutOn : Bool := outs32.any s.outOn
def State.carOutOn (c : Nat) : Bool := (List.range 4).any (fun k => s.outOn (outOf c k))

end Sys2Proof.Machine
end

