-- ==== Sys2Proof/Machine/Points.lean ====
section
/-! DEFINITION. Points as consumers read them: the maps of a node's areas (R348, R349), quality and value (R345 to
R347), and when a node counts as missing. -/

namespace Sys2Proof.Machine

/-! ### Nodes -/

/-- A node's misses are the counted cycles since its last good reply, those known to have passed (R347).
(log entry 68: DEDUCED) -/
def nodeMisses (q : Port) (n : Node) : Nat :=
  if q.counted ≤ n.lastGood then 0 else q.counted - n.lastGood - (if n.missed then 0 else 1)

/-- `state` of Table 15.11. -/
def State.nodeState (s : State) (p a : Nat) : Nat :=
  let n := s.node p a
  if n.state == 0 && nodeMisses (s.lport p) n != 0 then 1 else n.state

/-! ### Maps -/

/-- A map entry of a default map: an input of `width` bits at byte `offset`, bit `bit`. -/
def inEntry (point offset bit width : Nat) (signed : Bool) : MapEntry :=
  { point := point, dir := 1, offset := offset, bit := bit, width := width, pflags := b2n signed, filter := 0, maxActive := 0
    rangeMin := if signed then -32768 else 0, rangeMax := if signed then 32767 else 65535, rest := 0 }

/-- A latched-call point of a default map. -/
def latchEntry (point offset bit : Nat) : MapEntry :=
  { inEntry point offset bit 1 false with pflags := 2, filter := 1, maxActive := 0xFFFF }

/-- The default map of a profile (R349, R364, Tables 15.6 to 15.10). -/
def defaultMap (profile replyWords : Nat) : List MapEntry :=
  match profile with
  | 1 => [latchEntry 0 0 0, latchEntry 1 0 1] ++ (List.range 8).map (fun i => inEntry (2 + i) 1 i 1 false)
      ++ [latchEntry 10 5 7]
  | 2 => (List.range 48).map (fun i => latchEntry i (i / 8) (i % 8))
      ++ (List.range 6).map (fun i => inEntry (48 + i) 6 i 1 false)
      ++ (List.range 3).map (fun i => inEntry (54 + i) 7 i 1 false) ++ [inEntry 57 8 0 16 false]
  | 3 => (List.range 5).map (fun i => inEntry i 6 i 1 false)
      ++ [inEntry 5 20 0 16 false, inEntry 6 22 0 16 true]
  | 4 => [inEntry 0 0 0 1 false, inEntry 1 0 1 1 false, inEntry 2 0 2 1 false, inEntry 3 0 4 1 false,
      inEntry 4 0 5 1 false, inEntry 5 2 0 16 true, inEntry 6 4 0 16 false, inEntry 7 6 0 16 false,
      inEntry 8 12 0 16 false, inEntry 9 14 0 16 true]
  | 6 => [inEntry 0 0 0 16 false, inEntry 1 2 0 16 false, inEntry 2 4 0 1 false, inEntry 3 6 0 8 false]
  | 5 | 7 | 8 => (List.range (min 64 (2 * replyWords))).map (fun i => inEntry i (2 * i) 0 16 false)
  | _ => []

/-- The committed map of a node address. -/
def State.nodeMap (s : State) (p a : Nat) : PointMap := tget (dft {}) s.params.committed.maps (nodeKey p a)

/-- The entries in force: the committed map, else the default of the node's profile. -/
def State.mapEntries (s : State) (p a : Nat) : List MapEntry :=
  let m := s.nodeMap p a
  if m.present then m.entries else defaultMap (s.node p a).profile (s.node p a).replyWords

/-- The entry of a point address in a direction (1 input, 2 output). -/
def State.pointEntry (s : State) (k dir : Nat) : Option MapEntry :=
  (s.mapEntries (k / 16384) (k / 64 % 256)).find? (fun e => e.point == k % 64 && e.dir == dir)

/-- A field of an area: `width` bits from bit `bit` of byte `offset`, upward across bytes, extended to 16 bits (R348). -/
def fieldOf (area : Bytes) (e : MapEntry) : Nat :=
  let v := rd area e.offset 3 / 2 ^ e.bit % 2 ^ e.width
  if bitAt e.pflags 0 && bitAt v (e.width - 1) then v + (65536 - 2 ^ e.width) else v

/-- The area with the low bits of `v` in a field. -/
def putField (area : Bytes) (e : MapEntry) (v : Nat) : Bytes :=
  let old := rd area e.offset 3
  let low := old % 2 ^ e.bit
  let high := old / 2 ^ (e.bit + e.width)
  let new_ := low + 2 ^ e.bit * (v % 2 ^ e.width) + 2 ^ (e.bit + e.width) * high
  fit area.length (area.take e.offset ++ le 3 new_ ++ area.drop (e.offset + 3))

/-- `rest` as the raw 16 bits. -/
def restOf (e : MapEntry) : Nat := (e.rest % 65536).toNat

/-- `filter` and `max_active` (100 ms units, 0 none) with their defaults (Table 15.13). -/
def State.filterOf (s : State) (p : Nat) (e : MapEntry) : Nat := if e.filter == 0 then (s.com 0x8101 p).toNat else e.filter
def State.maxActiveOf (s : State) (p : Nat) (e : MapEntry) : Nat :=
  if e.maxActive == 0xFFFF then (s.com 0x8102 p).toNat * 10 else e.maxActive

/-! ### Quality and value -/

/-- A point in chatter whose raw value has changed within 16 × `filter` counted cycles (R353). -/
def State.inChatter (s : State) (k : Nat) : Bool :=
  let p := s.point k
  match s.pointEntry k 1 with
  | some e => p.chatter && decide ((s.lport (k / 16384)).counted - p.lastChange < 16 * s.filterOf (k / 16384) e)
  | none => false

/-- The quality code of a point (Table 15.2), in the order of R346. An address with no node reads lost (R365).
(log entry 68: DEDUCED) -/
def State.pointQuality (s : State) (k : Nat) : Nat :=
  let p := s.point k
  let st := s.nodeState (k / 16384) (k / 64 % 256)
  if p.forced.isSome then 4 else if st == 2 || st == 3 then 3 else if p.stuck then 5 else if s.inChatter k then 6
  else if p.range then 2 else if st == 1 || !p.accepted then 1 else 0

/-- Good quality as consumers need it: forced meets the requirement (R346). -/
def State.pointGood (s : State) (k : Nat) : Bool := s.pointQuality k == 0 || s.pointQuality k == 4

/-- The 16-bit value a point shows (Table 15.2). -/
def State.pointVal (s : State) (k : Nat) : Nat :=
  let p := s.point k
  match s.pointQuality k with
  | 4 => p.forced.getD 0
  | 5 => match s.pointEntry k 1 with | some e => restOf e | none => 0
  | 6 => p.stable
  | 2 => p.lastIn
  | 3 => if (s.node (k / 16384) (k / 64 % 256)).state == 3 then 0 else p.acceptedVal
  | _ => p.acceptedVal

/-- `age`: counted cycles since a good reply confirmed the value, saturating. (log entry 68: DEDUCED) -/
def State.pointAge (s : State) (k : Nat) : Nat :=
  let p := k / 16384
  let a := k / 64 % 256
  if (s.node p a).state == 3 then 4095 else min 4095 (nodeMisses (s.lport p) (s.node p a))

/-- The entry of Table 15.1. -/
def State.pointWord (s : State) (k : Nat) : Nat := s.pointAge k * 2 ^ 20 + s.pointQuality k * 2 ^ 16 + s.pointVal k

/-- The value of the good point a key names, if it names one (0xFFFFFFFF none). -/
def State.goodPoint (s : State) (addr : Int) : Option Nat :=
  if addr == 0xFFFFFFFF then none
  else if s.pointGood addr.toNat then some (s.pointVal addr.toNat) else none

end Sys2Proof.Machine
end

