-- ==== Sys2Proof/Machine/Gates.lean ====
section
/-! DEFINITION. De-energising outputs (R231, R232, R239). Energising stands in Outputs.lean. -/

namespace Sys2Proof.Machine

/-- A test in progress on an output that is de-energised: discarded unless its leg has been judged; a
discarded repeat is replaced by a new one at least 10 ms later (R238, Table 10.3). -/
def dropTest (frame : Nat) (o : Out) : Out :=
  match o.test with
  | none => o
  | some t =>
    if t.judged.isSome then { o with test := none }
    else
      { o with
        test := none
        discarded := satN 16 (o.discarded + 1)
        lastResult := 4
        lastSide := t.side
        repeatSide := if t.isRepeat then some (t.side, frame + msFrames 10) else o.repeatSide }

/-- Both gates of an output stop and its demand ends. -/
def outStop (frame : Nat) (o : Out) : Out :=
  let o := dropTest frame o
  { o with
    want := false, waitPulse := false, hs := false, ls := false, confirmed := false
    offFrame := if o.hs || o.ls || o.want then frame else o.offFrame }

/-- De-energise output `o`. -/
def State.outOff (s : State) (o : Nat) : State := s.modOut o (outStop s.frame)

/-- De-energise the four outputs of a car. -/
def State.carOff (s : State) (c : Nat) : State :=
  forEach (List.range 4) (fun s k => s.outOff (outOf c k)) s

/-- Every gate static (R232). -/
def State.allOff (s : State) : State := forEach outs32 (fun s o => s.outOff o) s

/-- Stop gates without ending the demand: island B's low-side gates (R33). -/
def State.lowSideOpen (s : State) : State :=
  forEach outs32 (fun s o => s.modOut o (fun x => { x with ls := false })) s

end Sys2Proof.Machine
end

