-- ==== Sys2Proof/Machine/Faults.lean ====
section
/-! DEFINITION. Event records (R300 to R308), findings and their reactions (R285 to R289), entry to a mode
(R36, R433) and to LOCKOUT (R38, R248). -/

namespace Sys2Proof.Machine

/-! ### Admission of records -/

/-- The recorder buffers: in every mode but DORMANT, and in PROVING from unit 0x01 (R436). -/
def State.recording (s : State) : Bool :=
  s.power == .on && s.mode != .dormant && (s.mode != .proving || (s.unit 0).result != 3 || !s.proving.running)

/-- Reactions in progress in a finding's scope, saturating at 7 (R289): that of the device, and those of the car or, for
the whole device, of every car. (log entry 7: DEDUCED) -/
def State.nest (s : State) (car : Option Nat) : Nat :=
  let cars := match car with | some c => [c] | none => cars8
  min 7 (b2n s.fm.devReaction.isSome + (cars.filter (fun c => (tget (dft none) s.fm.carReaction c).isSome)).length)

/-- Severity-and-class byte of Table 12.3. -/
def sevByte (cls nest sev : Nat) : Nat := cls * 64 + nest * 8 + sev

/-- Burst and refill time of a code (R308). -/
def State.burstOf (s : State) (code : Nat) : Nat :=
  let e := tget (dft {}) s.log.rates code
  if e.listed then e.burst else s.parN 0x9001 0

/-- The record before the next one in this log, its ring or its buffer. -/
def recPrevious (l : Rec) : Option Record :=
  match l.buffer.getLast?, l.ring.getLast? with
  | some r, _ => some r
  | none, some r => some r
  | none, none => l.log.getLast?

/-- The next record's `seq_jump` (Table 13.2): asked for by R301, or the sequence skips numbers after the previous record. -/
def recJumps (l : Rec) : Bool :=
  l.jumpNext || match recPrevious l with
    | some r => (r.seq + 1) % 2 ^ 32 != l.nextSeq
    | none => false

/-- The ring of a full log takes `rs` and keeps the latest 1,024 (R307); the last one replaced is noted for R311. -/
def intoRing (l : Rec) (rs : List Record) : Rec :=
  let all := l.ring ++ rs
  { l with
    ring := all.drop (all.length - 1024)
    ringLost := match (all.take (all.length - 1024)).getLast? with | some r => some r.seq | none => l.ringLost }

/-- A record enters the buffer, and the ring of a full log (R304, R307). -/
def enterRec (l : Rec) (r : Record) : Rec :=
  let full := decide (l.log.length ≥ 32767)
  let k := intoRing l [r]
  { l with
    ring := if full then k.ring else []
    ringLost := if full then k.ringLost else l.ringLost
    buffer := l.buffer ++ [r]
    flushDue := l.flushDue || r.sevClass % 8 ≥ 2 || l.buffer.length + 1 ≥ 768 }

/-- Put a record of `f` into the buffer (R300, R301, Table 13.2). `extra` holds `time_back` and `partner`,
`mode` the recording device's mode code. (log entry 78: DEDUCED) -/
def pushRec (s : State) (f : Finding) (nest extra mode suppressed : Nat) (first : Bool) : State :=
  let l := s.log
  let own := !(s.pair.inStep)
  let flags := extra + mode * 256 + b2n own * 64 + b2n (recJumps l) * 32
    + b2n (suppressed == 0xFFFF) * 16 + b2n first * 2 + b2n l.gapNext
  let r : Record :=
    { seq := l.nextSeq, opTime := s.opTime, powerCycle := s.powerCycle, code := f.code
      sevClass := sevByte f.cls nest f.sev, inst := f.inst, payload := fit 40 f.payload
      suppressed := suppressed, flags := flags }
  { s with log := { enterRec l r with
      nextSeq := (l.nextSeq + 1) % 2 ^ 32
      gapNext := false
      jumpNext := false } }

/-- Admit `f` with what its code's bucket says: it takes a token if one is there and its code is rate-limited, and carries
the suppressed count (R308). -/
def admitNow (s : State) (f : Finding) (extra mode : Nat) : State :=
  let b := tget (dft {}) s.log.buckets f.code
  let takes := f.code != 0x9130 && f.code != 0x9140 && decide (b.spent < s.burstOf f.code)
  let b' := { b with seen := true, suppressed := 0, spent := b.spent + b2n takes }
  pushRec { s with log := { s.log with buckets := tset (dft {}) s.log.buckets f.code b' } }
    f (s.nest f.car) extra mode b.suppressed (!b.seen)

/-- Counters of Table 12.6. -/
def countFinding (s : State) (f : Finding) : State :=
  let n := s.nest f.car
  let cls := f.code / 4096 - 1
  let m := s.fm
  let p := s.proving
  let faulty := f.sev ≥ 1
  let shadow := s.mode == .shadow
  { s with
    fm := { m with
      maxSev := max m.maxSev f.sev
      nestMax := max m.nestMax n
      countT := if f.cls == 1 then tset (dft 0) m.countT cls (satN 16 (tget (dft 0) m.countT cls + 1)) else m.countT
      countL := if f.cls == 2 then tset (dft 0) m.countL cls (satN 16 (tget (dft 0) m.countL cls + 1)) else m.countL
      lastCode := if faulty then f.code else m.lastCode
      lastSev := if faulty then sevByte f.cls n f.sev else m.lastSev
      lastTime := if faulty then s.opTime else m.lastTime
      roleL := m.roleL || f.cls == 2 }
    proving := { p with
      shadowMaxSev := if shadow then max p.shadowMaxSev f.sev else p.shadowMaxSev
      countT := if shadow then satN 16 (p.countT + b2n (f.cls == 1)) else p.countT
      countL := if shadow then satN 16 (p.countL + b2n (f.cls == 2)) else p.countL } }

/-- Event 0x9130 ahead of the first record admitted after an overflow (R306). (log entry 78: DEDUCED) -/
def pushOverflow (s : State) : State :=
  if s.log.discarded == 0 then s
  else
    let f : Finding := { code := 0x9130, sev := 1, payload := le 4 s.log.discarded }
    admitNow (countFinding { s with log := { s.log with discarded := 0, gapNext := true } } f) f 0 (modeCode s.mode)

/-- A record that finds 1,024 unflushed ones is counted as discarded (R306). -/
def discardRec (s : State) : State := { s with log := { s.log with discarded := s.log.discarded + 1 } }

/-- Admit an occurrence under R306 and R308; event 0x9130 ahead of it may itself take the last space. -/
def admitRec (s : State) (f : Finding) (extra mode : Nat) : State :=
  if !s.recording then s
  else
    let b := tget (dft {}) s.log.buckets f.code
    let exempt := f.code == 0x9130 || f.code == 0x9140
    let token := decide (b.spent < s.burstOf f.code)
    if !(exempt || token || !b.seen || f.sev ≥ 2) then
      { s with log := { s.log with
          suppressedTotal := satN 32 (s.log.suppressedTotal + 1)
          buckets := tset (dft {}) s.log.buckets f.code { b with suppressed := satN 16 (b.suppressed + 1) } } }
    else if s.log.buffer.length ≥ 1024 then discardRec s
    else
      let s := pushOverflow s
      if s.log.buffer.length ≥ 1024 then discardRec s else admitNow s f extra mode

/-- The in-step state ends on a standby: findings that have not left for the active enter the own log (R303).
(log entry 93: DEDUCED) -/
def ownFindings (s : State) : State :=
  let fs := s.pair.findingsOut
  forEach fs (fun s f => admitRec s f 0 (modeCode s.mode)) { s with pair := { s.pair with inStep := false, findingsOut := [] } }

/-- An event or finding is recorded: by the standby over the twin link (R303), otherwise in the own log. -/
def record (s : State) (f : Finding) : State :=
  let s := countFinding s f
  if s.inStepStandby then { s with pair := { s.pair with findingsOut := s.pair.findingsOut ++ [f] } }
  else admitRec s f 0 (modeCode s.mode)

/-- A plain event of severity 0. (log entry 73: DEDUCED) -/
def event (s : State) (code : Nat) (payload : Bytes := []) (inst : Nat := 0xFF) : State :=
  record s { code := code, sev := 0, inst := inst, payload := payload }

/-! ### Injections end (R99) -/

/-- The car that owns loop `l`: its owner, or its door operator's car. -/
def State.loopCar (s : State) (l : Nat) : Option Nat :=
  match s.com 0x2100 l with
  | 1 => some (s.com 0x2101 l).toNat
  | 2 => some ((s.com 0x2101 l).toNat / 2)
  | _ => none

/-- The injection in `slot` ends for `reason`, with event 0x2121. -/
def endInj (s : State) (slot reason : Nat) : State :=
  let k := s.inj slot
  if k.busy then
    event (s.modInj slot (fun _ => {})) 0x2121 (le 1 reason ++ le 1 slot) k.loop
  else s

/-- Every injection on a loop that `p` holds of ends. -/
def endInjOn (s : State) (reason : Nat) (p : Nat → Bool) : State :=
  forEach (List.range 4) (fun s k => if (s.inj k).busy && p (s.inj k).loop then endInj s k reason else s) s

/-! ### Modes -/

/-- The slack window opens (R28): the minimum, the frames below 20 % and the missed deadlines start anew; the mean over
the latest 32,768 counted frames and the last value go on across windows. (log entry 89: DESIGN CHOICE) -/
def openSlackWindow (k : Slack) : Slack :=
  { k with
    classes := (List.range 10).foldl (fun t c => tmod (dft {}) t c (fun r => { r with min := none, below20 := 0, missed := 0 }))
      k.classes
    windowFrames := 0, tier1Frames := 0, tier2Frames := 0, timebasePeak := 0, peakAtTick := 0, clearNext := false }

/-- An injection on loop `l` that R97 does not refuse by the mode or the regime. -/
def State.injAllowed (s : State) (l : Nat) : Bool :=
  s.activeCom || (s.mode == .service &&
    match s.loopCar l with
    | some c => (s.dcar c).regime == .outOfService
    | none => s.parN 0x2100 l == 3 && s.parN 0x210A l == 0)

/-- A reset window that a mode change ends unused (R246, R249). -/
def expireWindow (w : Window) : Window := if w.state == 1 then { w with state := 3 } else w

/-- The end of PROVING: every bucket is full and no code has occurred; what a code had suppressed stays (R308). -/
def fullBuckets (s : State) : State :=
  { s with log := { s.log with buckets := tmap (dft {}) s.log.buckets (fun b => { suppressed := b.suppressed }) } }

/-- The change to mode `m` with event 0xA100 (R36, R433): what every change does. The record is admitted before the
mode changes. -/
def changeMode (s : State) (m : Mode) (cause causeCode : Nat) : State :=
  let old : Mode := s.mode
  let s := if old == .shadow then ownFindings s else s
  let s := event s 0xA100 (le 1 (modeCode old) ++ le 1 (modeCode m) ++ le 1 cause ++ le 1 0 ++ le 2 causeCode)
  let s := { s with mode := m, transition := none }
  let s := if old == .proving then fullBuckets s else s
  let s := if m == .service || m == .commission then s else s.allOff
  let s := endInjOn s 5 (fun l => !s.injAllowed l)
  let s := { s with saf := { s.saf with
      tripWin := if old == Mode.service || old == Mode.commission then expireWindow s.saf.tripWin else s.saf.tripWin
      lockWin := if old == Mode.lockout then expireWindow s.saf.lockWin else s.saf.lockWin } }
  { s with fm := { s.fm with roleL := false } }

/-- Entry to a mode whose frames the slack ledger counts: its window opens. -/
def openMode (s : State) (m : Mode) (cause causeCode : Nat) : State :=
  let s := changeMode s m cause causeCode
  { s with slack := openSlackWindow s.slack }

/-- Entry to `m`: COMMISSION clears `commission_on_boot` (key 0xA001), SHADOW starts its report afresh. -/
def enterMode (s : State) (m : Mode) (cause causeCode : Nat) : State :=
  if m == .service || m == .shadow || m == .commission then
    let s := openMode s m cause causeCode
    let s := if m == .shadow then s.latch' .nextBg none else s
    if m == .commission then
      { s with params := { s.params with
          committed := { s.params.committed with
            vals := tset paramDflt s.params.committed.vals (kix 0xA001 0) 0 }
          staged := { s.params.staged with
            vals := tset paramDflt s.params.staged.vals (kix 0xA001 0) 0 }
          force := tset paramDflt s.params.force (kix 0xA001 0) 0 } }
    else if m == .shadow then
      { s with proving := { s.proving with
          shadowMaxSev := 0, countT := 0, countL := 0, failingUnit := 0xFFFF, divergence := 0
          epochsMissed := 0, bgUnit := none, bgDone := 0, bgCycleStart := s.opTime, bgOverdue := false } }
    else s
  else changeMode s m cause causeCode

/-- The causes that stop the gates at once on entry to LOCKOUT (R248): a finding of a safety island, a
veto, the timebase, a disagreement, the TAP, a supply loss. -/
def lockoutAtOnce (code : Nat) : Bool :=
  (0x6000 ≤ code && code < 0x7000) || code == 0xA220 || code == 0xB130

/-- R434: PROVING cut short. -/
def cutShort (p : Proving) (next : Nat) : Proving :=
  { p with
    running := false
    outcome := if p.blocked then 2 else 4
    nextMode := next }

/-- LOCKOUT under R38 and R248 by the finding or request `code`: the latch is set first; an active with its
partner croaking standby leaves by tail-drop unless the cause stops the gates at once.
(log entries 7: DEDUCED, 82: DEDUCED) -/
def lockoutBy (s : State) (code modeCause : Nat) (atOnce : Bool) : State :=
  if !s.running then s
  else
    let entering := s.mode == .lockout || (s.pair.yielding && s.pair.yieldMode == some .lockout)
    let s := if entering && s.latch.isSet then s
      else { s with latch := { isSet := true, cause := code, time := s.opTime } }
    let s := { s with fm := { s.fm with devReaction := some 4 } }
    if s.mode == .lockout then s
    else if s.mode == .service && s.partnerRole == 0 && !atOnce then
      { s with pair := { s.pair with
          yielding := true
          yieldCause := if s.pair.yielding then s.pair.yieldCause else code
          yieldSev := 4
          yieldOnset := if s.pair.yielding then s.pair.yieldOnset else s.epoch
          yieldWhy := if entering then s.pair.yieldWhy else (modeCause, code)
          yieldMode := some .lockout } }
    else
      let s := if s.mode == .proving then { s with proving := cutShort s.proving 5 } else s
      let s := s.allOff
      let s := changeMode s .lockout modeCause code
      { s with pair := { s.pair with yielding := false, yieldSent := false, hand := 0, inStep := false, yieldMode := none } }

/-! ### Reactions -/

/-- Both door operators of a car stop and end a hold (R149, R152); the stop is carried out by their next door
sample. -/
def State.stopDoors (s : State) (c : Nat) : State :=
  forEach [2 * c, 2 * c + 1] (fun s d => s.modDoor d (fun x => { x with carStop := true, holdOpen := false })) s

/-- A stop request of a class for the hoist of a car; the stronger class prevails (R117). Class 3 stops the
doors. -/
def State.requestStop (s : State) (c cls : Nat) : State :=
  let s := (endInjOn s 4 (fun l => s.loopCar l == some c)).modHoist c (fun h =>
    { h with stopReq := some (match h.stopReq with | some k => max k cls | none => cls) })
  if cls == 3 then s.stopDoors c else s

/-- Fault removal from group service (R181): the car leaves, its calls are re-dispatched by the next
dispatching step. -/
def State.faultRemove (s : State) (c : Nat) : State :=
  s.modDcar c (fun d => { d with faultOut := true, leaving := true })

/-- A car trip (R220, R244): latched with its cause, all four outputs off, class 3 stop, fault removal.
(log entry 62: DEDUCED) -/
def carTrip (s : State) (c code elem : Nat) : State :=
  let s := s.modCarSaf c (fun k =>
    { k with
      trip := true
      tripTime := if k.trip then k.tripTime else s.opTime
      causes := if k.causes.contains (code, elem) then k.causes else k.causes ++ [(code, elem)] })
  ((s.carOff c).requestStop c 3).faultRemove c

/-- Event 0xA330 (R289). -/
def escalate (s : State) (old new_ : Nat) (car : Option Nat) : State :=
  record s { code := 0xA330, sev := new_, car := car, inst := car.getD 0xFF, payload := le 1 old ++ le 1 new_ }

/-- The highest severity in progress in car `c`'s scope, the device's included. -/
def State.carReaction (s : State) (c : Nat) : Option Nat :=
  match s.fm.devReaction, tget (dft none) s.fm.carReaction c with
  | some a, some b => some (max a b)
  | some a, none => some a
  | none, o => o

/-- Put severity `sev` into progress on car `c`: event 0xA330 where it replaces a lower one in the car's scope (R289).
(log entry 7: DEDUCED) -/
def carReact (s : State) (c sev : Nat) : State :=
  let s := match s.carReaction c with
    | some old => if old < sev then escalate s old sev (some c) else s
    | none => s
  match tget (dft none) s.fm.carReaction c with
  | some old => if old < sev then
      { s with fm := { s.fm with carReaction := tset (dft none) s.fm.carReaction c (some sev) } } else s
  | none => { s with fm := { s.fm with carReaction := tset (dft none) s.fm.carReaction c (some sev) } }

/-- The cars of a finding's scope. -/
def scopeCars (f : Finding) : List Nat := match f.car with | some c => [c] | none => cars8

/-- The highest severity in progress on the device or on any car. -/
def State.topReaction (s : State) : Option Nat :=
  cars8.foldl (fun m c => match m, s.carReaction c with
    | some a, some b => some (max a b)
    | none, o => o
    | m, none => m) none

/-- A severity 2 finding on a car: merged where a reaction of its severity or more is in progress (R289). -/
def stopReact (s : State) (c : Nat) : State :=
  if (s.carReaction c).getD 0 ≥ 2 then s else ((carReact s c 2).requestStop c 0).faultRemove c

/-- The reaction of Table 12.1. (log entry 7: DEDUCED) -/
def react (s : State) (f : Finding) : State :=
  if f.sev == 2 then forEach (scopeCars f) stopReact s
  else if f.sev == 3 then
    forEach (scopeCars f) (fun s c => carTrip (carReact s c 3) c f.code f.inst) s
  else if f.sev == 4 then
    let s := match s.topReaction with
      | some old => if old < 4 then escalate s old 4 none else s
      | none => s
    lockoutBy s f.code 6 (lockoutAtOnce f.code)
  else s

/-- R288: more than `fault_t_limit` class T findings of one code and instance within an hour. -/
def repeatedTransient (s : State) (f : Finding) : State :=
  if f.cls != 1 then s
  else
    let k := kix f.code f.inst
    let hour := 57600
    let times := (tget (dft []) s.fm.tTimes k ++ [s.opTime]).filter (fun t => s.opTime < t + hour)
    let s := { s with fm := { s.fm with tTimes := tset (dft []) s.fm.tTimes k times } }
    let recent := match tget (dft none) s.fm.tRaised k with | some t => decide (s.opTime < t + hour) | none => false
    if times.length > s.parN 0xA020 0 && !recent then
      let s := { s with fm := { s.fm with tRaised := tset (dft none) s.fm.tRaised k (some s.opTime) } }
      record s { code := 0xA320, sev := 1, inst := f.inst, car := f.car
                 payload := le 2 f.code ++ le 2 (satN 16 times.length) }
    else s

/-- A finding is given to the fault manager (R285): recorded, then reacted to. (log entries 7: DEDUCED, 73: DEDUCED) -/
def raise (s : State) (f : Finding) : State :=
  repeatedTransient (react (record s f) f) f

/-- R285, Table 12.1: a severity 2 reaction ends when the car is at standstill with both brakes confirmed
closed. -/
def endReactions (s : State) : State :=
  forEach cars8 (fun s c =>
    if tget (dft none) s.fm.carReaction c == some 2 && s.atRest c then
      { s with fm := { s.fm with carReaction := tset (dft none) s.fm.carReaction c none } }
    else s) s

end Sys2Proof.Machine
end

