-- ==== Sys2Proof/WellFormed.lean ====
section
/-! DEFINITION. Which commands a packet or an event can spell: list operands agree with their counts, tokens
and keys have their field's length, sampled channels differ. A request whose length does not fit its layout
(refused by check 5 of R376) is well formed whatever its fields. -/

namespace Sys2Proof

/-- `n` bytes. -/
def bytesLen (n : Nat) (b : Bytes) : Bool := b.length == n

/-- The command can occur. (log entry 3: DESIGN CHOICE) -/
def Instr.wellFormed : Instr → Bool
  | .identityRead h _ n => h.len != 16 || bytesLen 16 n
  | .modeRequest h _ _ t => h.len != 36 || bytesLen 32 t
  | .paramWrite h _ c es => h.len != 4 + 12 * c.toNat || es.length == c.toNat
  | .learnRunRead h _ _ _ sw => h.len != 12 || sw.length == 8
  | .learnRunStart h _ _ _ sw => h.len != 12 || sw.length == 8
  | .learnRunAbort h _ _ _ sw => h.len != 12 || sw.length == 8
  | .doorTableWrite h _ _ c es => h.len != 4 + 2 * c.toNat || es.length == c.toNat
  | .loopCoeffStage h _ _ _ _ _ _ secs => h.len != 204 || secs.length == 16
  | .captureArm h _ _ _ _ _ ns _ _ _ _ => h.len != 28 || ns.length == 4
  | .safetySetConfirm h _ _ c => h.len != 12 || bytesLen 6 c
  | .lockoutResetRead h _ t => h.len != 36 || bytesLen 32 t
  | .lockoutResetArm h _ t => h.len != 36 || bytesLen 32 t
  | .partnerReleaseRead h _ t => h.len != 36 || bytesLen 32 t
  | .partnerRelease h _ t => h.len != 36 || bytesLen 32 t
  | .partnerAdmitRead h _ _ t => h.len != 44 || bytesLen 32 t
  | .partnerAdmit h _ _ t => h.len != 44 || bytesLen 32 t
  | .pointMapWrite h _ _ _ _ _ _ n es =>
      h.len != 8 + 16 * n.toNat || (es.length == n.toNat && es.all (bytesLen 16))
  | .nodeMessageSend h _ _ n d => h.len != 4 + n.toNat || bytesLen n.toNat d
  | .logClear h _ t => h.len != 32 || bytesLen 32 t
  | .imageChunk h _ _ n d => h.len != 8 + n.toNat || bytesLen n.toNat d
  | .keyEnrolRead h _ _ k t => h.len != 100 || (bytesLen 64 k && bytesLen 32 t)
  | .keyEnrol h _ _ k t => h.len != 100 || (bytesLen 64 k && bytesLen 32 t)
  | .hqWrite bs => 1 ≤ bs.length && bs.length ≤ 4096
  | .encoderSample ss => decide (ss.map (·.chan)).Nodup && ss.all (fun x => (x.lines.map (·.cycles)).sum ≤ 392)
  | .sampleFrameTick w => w.all (fun e => e.1 < 10) && decide (w.map (·.1)).Nodup
  | _ => true

end Sys2Proof
end

