-- ==== Sys2Proof/Machine/Operands.lean ====
section
/-! DEFINITION. What every host request passes through: the window, duplicates and the replay record (R373,
R376, R378), the common checks and modes (R376, R382, R383), replies and NOTIFYs (R255, R377, R380, R381). -/

namespace Sys2Proof.Machine

/-! ### Status codes (Table 16.4) -/

def stOk : Nat := 0x00
def stPending : Nat := 0x01
def stBadLength : Nat := 0x10
def stBadCrc : Nat := 0x11
def stBadOpcode : Nat := 0x12
def stBadParam : Nat := 0x13
def stRange : Nat := 0x14
def stWrongMode : Nat := 0x20
def stBusy : Nat := 0x21
def stNotActive : Nat := 0x22
def stAuthRequired : Nat := 0x30
def stAuthFailed : Nat := 0x31
def stUnreachable : Nat := 0x40
def stLimited : Nat := 0x41
def stFull : Nat := 0x50
def stFaulted : Nat := 0x60

/-! ### Table 16.6 -/

/-- A mode entry: answered; answered for the read action; NOT_ACTIVE; WRONG_MODE. -/
inductive Ans where
  | yes | read | na | no
  deriving DecidableEq, Repr

/-- Entries for PROVING, COMMISSION, SERVICE, SHADOW, LOCKOUT. -/
structure OpRow where
  op : Nat
  proving : Ans
  commission : Ans
  service : Ans
  shadow : Ans
  lockout : Ans

/-- Table 16.6, opcodes 0x00 to 0x2B. -/
def opRows1 : List OpRow :=
  [⟨0x00, .yes, .yes, .yes, .yes, .yes⟩, ⟨0x01, .no, .yes, .yes, .yes, .yes⟩,
   ⟨0x02, .yes, .yes, .yes, .yes, .yes⟩, ⟨0x03, .no, .yes, .yes, .yes, .yes⟩,
   ⟨0x04, .no, .yes, .yes, .yes, .no⟩, ⟨0x05, .no, .yes, .yes, .na, .yes⟩,
   ⟨0x06, .no, .yes, .yes, .yes, .yes⟩, ⟨0x07, .no, .yes, .yes, .na, .no⟩,
   ⟨0x08, .no, .yes, .yes, .na, .no⟩, ⟨0x09, .yes, .yes, .yes, .yes, .yes⟩,
   ⟨0x10, .no, .no, .yes, .na, .no⟩, ⟨0x11, .no, .no, .yes, .na, .no⟩,
   ⟨0x12, .no, .no, .yes, .yes, .no⟩, ⟨0x13, .no, .no, .yes, .yes, .no⟩,
   ⟨0x14, .no, .no, .yes, .na, .no⟩, ⟨0x15, .no, .no, .yes, .na, .no⟩,
   ⟨0x16, .no, .no, .yes, .na, .no⟩, ⟨0x17, .no, .no, .yes, .yes, .no⟩,
   ⟨0x20, .no, .yes, .yes, .na, .no⟩, ⟨0x21, .no, .yes, .yes, .na, .no⟩,
   ⟨0x22, .no, .yes, .yes, .na, .no⟩, ⟨0x23, .no, .yes, .yes, .yes, .yes⟩,
   ⟨0x24, .no, .yes, .read, .na, .read⟩, ⟨0x25, .no, .yes, .yes, .na, .read⟩,
   ⟨0x26, .no, .yes, .yes, .yes, .yes⟩, ⟨0x28, .no, .yes, .yes, .na, .no⟩,
   ⟨0x29, .no, .yes, .yes, .yes, .yes⟩, ⟨0x2A, .no, .yes, .yes, .na, .no⟩,
   ⟨0x2B, .no, .yes, .yes, .yes, .yes⟩]

/-- Table 16.6, opcodes 0x30 to 0x54. -/
def opRows2 : List OpRow :=
  [⟨0x30, .no, .yes, .yes, .na, .no⟩, ⟨0x31, .no, .yes, .yes, .na, .no⟩,
   ⟨0x32, .no, .yes, .yes, .na, .no⟩, ⟨0x33, .no, .yes, .yes, .na, .no⟩,
   ⟨0x34, .no, .yes, .yes, .na, .no⟩, ⟨0x35, .no, .yes, .yes, .yes, .no⟩,
   ⟨0x36, .no, .yes, .yes, .yes, .yes⟩, ⟨0x37, .no, .yes, .yes, .yes, .yes⟩,
   ⟨0x40, .no, .yes, .yes, .yes, .yes⟩, ⟨0x41, .no, .yes, .no, .no, .no⟩,
   ⟨0x42, .no, .yes, .no, .no, .no⟩, ⟨0x43, .no, .yes, .yes, .read, .read⟩,
   ⟨0x44, .no, .read, .read, .read, .yes⟩, ⟨0x45, .no, .yes, .yes, .yes, .yes⟩,
   ⟨0x50, .no, .yes, .yes, .yes, .yes⟩, ⟨0x51, .no, .no, .yes, .na, .no⟩,
   ⟨0x52, .no, .yes, .yes, .na, .no⟩, ⟨0x53, .no, .yes, .yes, .na, .no⟩,
   ⟨0x54, .no, .yes, .yes, .yes, .yes⟩]

/-- Table 16.6, opcodes 0x60 to 0x86. -/
def opRows3 : List OpRow :=
  [⟨0x60, .no, .yes, .yes, .na, .no⟩, ⟨0x61, .no, .yes, .yes, .yes, .yes⟩,
   ⟨0x62, .no, .yes, .yes, .yes, .yes⟩, ⟨0x63, .no, .yes, .yes, .yes, .yes⟩,
   ⟨0x64, .no, .yes, .yes, .na, .no⟩, ⟨0x65, .no, .yes, .yes, .na, .no⟩,
   ⟨0x66, .no, .yes, .yes, .read, .read⟩, ⟨0x70, .no, .yes, .yes, .yes, .yes⟩,
   ⟨0x71, .no, .yes, .yes, .yes, .yes⟩, ⟨0x72, .no, .yes, .yes, .yes, .yes⟩,
   ⟨0x73, .no, .yes, .yes, .yes, .yes⟩, ⟨0x74, .no, .yes, .yes, .na, .yes⟩,
   ⟨0x75, .no, .yes, .yes, .na, .yes⟩, ⟨0x76, .no, .yes, .yes, .na, .yes⟩,
   ⟨0x80, .no, .yes, .yes, .yes, .yes⟩, ⟨0x81, .no, .yes, .yes, .yes, .yes⟩,
   ⟨0x82, .no, .yes, .yes, .yes, .yes⟩, ⟨0x83, .no, .yes, .no, .no, .yes⟩,
   ⟨0x84, .no, .yes, .yes, .yes, .yes⟩, ⟨0x85, .no, .yes, .yes, .yes, .yes⟩,
   ⟨0x86, .no, .yes, .no, .no, .no⟩]

def opRows : List OpRow := opRows1 ++ opRows2 ++ opRows3

def findOp (op : Nat) : Option OpRow := opRows.find? (fun r => r.op == op)

/-- The mode entry of an opcode. -/
def OpRow.entry (r : OpRow) : Mode → Ans
  | .proving => r.proving
  | .commission => r.commission
  | .service => r.service
  | .shadow => r.shadow
  | .lockout => r.lockout
  | .dormant => .no

/-- R383: what a passive COMMISSION device answers. -/
def passiveAnswers (r : OpRow) (isRead : Bool) : Bool :=
  r.shadow == .yes || (r.shadow == .read && isRead) || r.op == 0x02 || r.op == 0x41 || r.op == 0x42
    || (0x80 ≤ r.op && r.op ≤ 0x86)

/-- Check 4 of R376: none when the mode answers, else the refusal. `MODE_REQUEST` in PROVING is narrowed by
its own meaning (R382). -/
def modeCheck (s : State) (op : Nat) (isRead : Bool) : Option Nat :=
  match findOp op with
  | none => some stBadOpcode
  | some r =>
    if s.passive && !passiveAnswers r isRead then some stWrongMode
    else
      match r.entry s.mode with
      | .yes => none
      | .read => if isRead then none else some (if s.mode == .shadow then stNotActive else stWrongMode)
      | .na => some stNotActive
      | .no => some stWrongMode

/-! ### Channels -/

def State.chan (s : State) : Chan → HostChan
  | .port => s.host.port
  | .link => s.host.link

def State.modChan (s : State) (c : Chan) (f : HostChan → HostChan) : State :=
  match c with
  | .port => { s with host := { s.host with port := f s.host.port } }
  | .link => { s with host := { s.host with link := f s.host.link } }

/-- R370: the host port answers outside DORMANT and reset, in PROVING once unit 0x02 has passed, and never
after that unit failed. The host channel is a field port (R336). -/
def State.chanUp (s : State) : Chan → Bool
  | .port => s.running && (if s.mode == .proving then (s.unit 2).result < 2 else (s.unit 2).result != 2)
  | .link => s.running && s.mode != .proving && s.host.linkUp

/-- Bit `i` of `errors` is set. -/
def State.hqError (s : State) (i : Nat) : State :=
  { s with host := { s.host with errors := s.host.errors ||| BitVec.ofNat 8 (2 ^ i) } }

/-- HQ_IRQ_N is low while `out_count` or `errors` is non-zero (R370). -/
def State.irqLow (s : State) : Bool :=
  s.chanUp .port && (!s.host.port.out.isEmpty || s.host.errors != 0)

/-! ### NOTIFYs -/

/-- NOTIFYs waiting on a channel. -/
def notifies (c : HostChan) : Nat := (c.out.filter (·.notify)).length

/-- Queue a NOTIFY on a channel, or drop it with 32 waiting (R381). -/
def pushNotify (s : State) (ch : Chan) (p : OutPkt) : State :=
  if notifies (s.chan ch) ≥ 32 then
    let s := s.modChan ch (fun c => { c with dropped := c.dropped + 1 })
    event (match ch with | .port => s.hqError 4 | .link => s) 0xA411
  else
    s.modChan ch (fun c =>
      { c with out := c.out ++ [{ p with seq := c.notifySeq }], notifySeq := (c.notifySeq + 1) % 65536 })

/-- One NOTIFY of cause 3 as soon as space is free (R381). -/
def reportDropped (s : State) (ch : Chan) : State :=
  let c := s.chan ch
  if c.dropped != 0 && notifies c < 32 then
    let s := s.modChan ch (fun c => { c with dropped := 0 })
    pushNotify s ch { notify := true, opcode := 0xF0, inst := 0, seq := 0, req := none
                      payload := le 1 3 ++ le 1 0 ++ le 2 0 ++ le 4 0 ++ le 2 (satN 16 c.dropped) ++ le 2 0 }
  else s

/-- A NOTIFY (Table 16.5); its number is given when it is queued. -/
def note (cause opcode inst reqSeq : Nat) (body : Bytes) : OutPkt :=
  { notify := true, opcode := 0xF0, inst := inst, seq := 0, req := none
    payload := le 1 cause ++ le 1 opcode ++ le 2 reqSeq ++ le 4 0 ++ body }

/-- A NOTIFY that waits for the commit of the next epoch boundary. -/
def holdNote (s : State) (ch : Chan) (p : OutPkt) : State :=
  { s with host := { s.host with heldNotes := s.host.heldNotes ++ [(s.epoch + 1, ch, p)] } }

/-- A NOTIFY on one channel; held until the commit while the standby is in step (R255). -/
def notifyOn (s : State) (ch : Chan) (cause opcode inst reqSeq : Nat) (body : Bytes) : State :=
  let p := note cause opcode inst reqSeq body
  if !s.chanUp ch then s
  else if s.inStepActive then holdNote s ch p
  else pushNotify s ch p

/-- A NOTIFY to every channel of the device. -/
def notifyAll (s : State) (cause opcode inst : Nat) (body : Bytes) : State :=
  notifyOn (notifyOn s .port cause opcode inst 0 body) .link cause opcode inst 0 body

/-! ### Replies -/

/-- A refusal's payload: the status and the rest of the layout zero (R377). -/
def refusal (len st : Nat) : Bytes := le 1 st ++ zeros (len - 1)

/-- The status a reply payload carries. -/
def statusOf (p : Bytes) : Nat := rd p 0 1

def isSuccess (st : Nat) : Bool := st == stOk || st == stPending || st == stLimited

/-- Modes that keep and consult the replay record (R255, R378). -/
def replayMode (m : Mode) : Bool := m == .service || m == .commission || m == .lockout

/-- Put a reply into its channel's queue. -/
def sendReply (s : State) (r : HeldReply) : State :=
  let h := r.hdr
  let p : OutPkt :=
    { notify := false, opcode := r.opcode, inst := h.inst.toNat, seq := h.seq.toNat, payload := r.payload
      req := some (h.seq, h.crc) }
  s.modChan h.chan (fun c => { c with out := c.out ++ [p] })

/-- Queue the reply of an executed request and, in the modes that keep it, enter it in the replay record. -/
def queueReply (s : State) (h : Hdr) (op : Nat) (payload : Bytes) : State :=
  let s := sendReply s { hdr := h, opcode := op, payload := payload, epoch := 0 }
  if replayMode s.mode then
    let r := s.host.replay ++ [(h.seq, h.crc, payload)]
    { s with host := { s.host with replay := r.drop (r.length - 64) } }
  else s

/-- Answer a request. A success that changes mirrored state is held until its commit is complete while the
standby is in step (R255). -/
def answer (s : State) (h : Hdr) (op : Nat) (mirrored : Bool) (payload : Bytes) : State :=
  if mirrored && s.inStepActive && isSuccess (statusOf payload) then
    { s with host := { s.host with
        held := s.host.held ++ [{ hdr := h, opcode := op, payload := payload, epoch := s.epoch + 1 }] } }
  else queueReply s h op payload

/-! ### The checks -/

/-- The first check that fails. -/
def firstFail : List (Bool × Nat) → Option Nat
  | [] => none
  | (bad, st) :: cs => if bad then some st else firstFail cs

/-- How a request row is checked: opcode, number of instances, bytes of the full reply layout, read action,
length fits, checks 7 to 9 in order, and whether it changes mirrored state. -/
structure Req where
  op : Nat
  insts : Nat
  len : Nat
  isRead : Bool := false
  lenOk : Bool
  checks : List (Bool × Nat)
  mirrored : Bool := false
  fixed : Bytes := []

/-- A refusal's payload with the layout's own values for the case after the status (R377). -/
def Req.refused (r : Req) (st : Nat) : Bytes := le 1 st ++ r.fixed ++ zeros (r.len - 1 - r.fixed.length)

/-- Checks 2 to 9 of R376; a refusal at check 2 carries the status and three zero bytes. -/
def gate (s : State) (h : Hdr) (r : Req) : Option Bytes :=
  if h.flags != 0 then some (refusal 4 stBadParam)
  else
    match modeCheck s r.op r.isRead with
    | some st => some (if st == stBadOpcode then refusal 4 st else r.refused st)
    | none =>
      (firstFail ([(!r.lenOk, stBadLength),
        (r.insts == 1 && h.inst != 0, stBadParam),
        (decide (r.insts ≤ h.inst.toNat), stRange)] ++ r.checks)).map r.refused

/-- Execute a request whose turn it is: the checks, then `act` (check 10 and the effect). -/
def serve (s : State) (h : Hdr) (r : Req) (act : State → State × Bytes) : State :=
  match gate s h r with
  | some p => answer s h r.op false p
  | none => let (s', p) := act s; answer s' h r.op r.mirrored p

/-- The reply of the request before has not been queued: it is held, a clear waits for a flush (R313), or a
coefficient swap for its loops (R93), or a `PARAM_COMMIT` for its epoch (R386). (log entry 75: DEDUCED) -/
def State.hostBusy (s : State) : Bool :=
  !s.host.held.isEmpty || s.log.clearing.isSome || (s.loops.swap.bind (·.hdr)).isSome || s.params.commit.isSome

/-- A request starts: one that matches an entry of the replay record is answered from it, whichever channel the entry came
by (R378). -/
def startReq (s : State) (h : Hdr) (op : Nat) (run : State → State) : State :=
  match (if replayMode s.mode then s.host.replay.find? (fun e => e.1 == h.seq && e.2.1 == h.crc) else none) with
  | some e => sendReply s { hdr := h, opcode := op, payload := e.2.2, epoch := 0 }
  | none => run s

/-- R373, R376, R378: what happens to a request when its packet is complete. `item` is what waits for its turn, `run`
executes it. -/
def complete (s : State) (item : Waiting) (h : Hdr) (op len : Nat) (run : State → State) : State :=
  if !s.chanUp h.chan then s
  else
    let c := s.chan h.chan
    if c.waiting.length ≥ 16 then
      event (match h.chan with | .port => s.hqError 2 | .link => s) 0xA410
    else if c.waiting.contains (h.seq, h.crc) then s
    else
      let s' := s.modChan h.chan (fun c => { c with waiting := c.waiting ++ [(h.seq, h.crc)] })
      let mustWait := s.hostBusy || !s.host.waiting.isEmpty
      let wait := fun w : Waiting => { s' with host := { s'.host with waiting := s'.host.waiting ++ [w] } }
      if c.waiting.any (fun w => w.1 == h.seq) then
        let r : HeldReply := { hdr := h, opcode := op, payload := refusal len stBadParam, epoch := 0 }
        if mustWait then wait (.ready r) else sendReply s' r
      else if mustWait then wait item
      else startReq s' h op run

/-- The meaning of a host request row: its packet is complete. (log entry 75: DEDUCED) -/
def hostRow (s : State) (i : Instr) (h : Hdr) (op len : Nat) (run : State → State) :
    Host.Outcome State Fault Refusal :=
  .next (complete s (.cmd i h op len) h op len run)

end Sys2Proof.Machine
end

