-- ==== Sys2Proof/Machine/Slack.lean ====
section
/-! DEFINITION. Sample frames, the slack ledger, shedding and the timebase check (chapter 02). -/

namespace Sys2Proof.Machine

/-- Reference edge of tick `k` (R21). -/
def tickEdge (k : Nat) : Nat := 3125 * k / 4

/-- Cycles of the frame that starts at tick `k` (Table 02.1). -/
def frameLen (k : Nat) : Nat := tickEdge (k + 1) - tickEdge k

/-- A protected class (Table 02.3). -/
def protectedClass (c : Nat) : Bool := c < 7

/-- A class that the shed state stops (R31, Table 02.3). -/
def classShed (shed c : Nat) : Bool := (shed ≥ 1 && (c == 7 || c == 8)) || (shed ≥ 2 && c == 9)

/-- Slack in 0.01 % of work that completed `done` cycles after its tick (R28). -/
def slackOf (len done : Nat) : Nat := if done ≤ len then (len - done) * 10000 / len else 0

/-- One counted frame in a class record (R28, Table 02.8). -/
def countFrame (k : SlackClass) (slack : Nat) (missed : Bool) : SlackClass :=
  { min := some (match k.min with | some m => min m slack | none => slack)
    recent := (slack :: k.recent).take 32768
    last := slack
    below20 := satN 16 (k.below20 + b2n (slack < 2000))
    missed := satN 32 (k.missed + b2n missed) }

/-- The smaller of an optional minimum and a value. -/
def optMin (o : Option Nat) (v : Nat) : Option Nat := some (match o with | some m => min m v | none => v)

/-- Calls entered since the frame began stay when the frame's dispatching is abandoned, pending, and second legs wait
for their first; a stop offered to another pair in the frame goes. -/
def abandonDisp (old cur : Disp) : Disp :=
  let fresh := cur.calls.filter (fun c => !(old.calls.any (fun o => o.id == c.id)))
  let leg := fun (c : Call) => c.state == 0 && c.earliest == 0 && fresh.any (fun o => o.leg2 == some c.id)
  let again := fun (c : Call) => !leg c && ([1, 2, 5].contains c.state
    || (c.state == 0 && (cur.queue.contains c.id || cur.waiting.contains c.id || cur.outItems.any (fun e => e.2.2.1.id == c.id))))
  { old with
    calls := old.calls ++ (fresh.filter (fun c => leg c || again c || c.state == 3 || c.state == 4)).map (fun c =>
      if again c then { c with state := 0, car := 0xFF } else c)
    queue := old.queue ++ ((fresh.filter again).map (·.id)).filter (fun i => !cur.waiting.contains i)
    waiting := old.waiting ++ ((fresh.filter again).map (·.id)).filter cur.waiting.contains }

/-- Island A's own part of a car's supervision. -/
def keepA (old k : CarSaf) : CarSaf :=
  { k with
    pA := old.pA, vA := old.vA, pAok := old.pAok, vAok := old.vAok, oA := old.oA, oAok := old.oAok, denyA := old.denyA
    envA := old.envA, limRunA := old.limRunA, ovRunA := old.ovRunA, etRunA := old.etRunA, posRun := old.posRun
    spdRun := old.spdRun, permitA := old.permitA }

/-- Island A's own part of a safety input. -/
def keepInA (old k : SafIn) : SafIn :=
  { k with aa := old.aa, ab := old.ab, runA := old.runA, discA := old.discA, islRunA := old.islRunA, islRunB := old.islRunB }

/-- Island A's work is abandoned: its state returns, and it keeps its gate demands of the previous frame (R25, R26). -/
def abandonSafetyA (s : State) : State :=
  let old := s.frozen.saf
  let s := forEach cars8 (fun s c => s.modCarSaf c (keepA (tget (dft {}) old.cars c))) s
  let s := forEach (List.range 96) (fun s i => s.modSafIn i (keepInA (tget (dft {}) old.inputs i))) s
  let s := forEach outs32 (fun s o =>
    s.modOut o (fun x => if (s.carSaf (o / 4)).trip then x else { x with hs := x.want && (tget (dft {}) old.outs o).hs })) s
  { s with slack := { s.slack with abandonedA := true } }

/-- A loop of an abandoned sample: one held before and after keeps what a commit did to it, and a bank staged in the
frame stays, unless the loop took its bank in the frame. -/
def keepLoop (swapped : Bool) (old cur : Loop) : Loop :=
  if !old.running && !cur.running && !swapped then cur
  else if swapped then old
  else { old with staged := cur.staged, stageSeq := cur.stageSeq }

/-- A swap taken in the abandoned sample is taken again, without a second event or reply (R93). -/
def redoSwap (old cur : Option Swap) : Option Swap :=
  match cur, old with
  | some c, some o => some { c with left := if c.epoch == o.epoch || !o.armed then o.left else c.mask }
  | some c, none => some { c with left := c.mask }
  | none, some o => some { o with hdr := none, armed := true, told := true }
  | none, none => none

/-- A loop whose swap the frame has taken. -/
def swappedIn (old cur : Option Swap) (l : Nat) : Bool :=
  match redoSwap old cur, cur with
  | some w, some c => bitAt w.left l && !bitAt c.left l
  | some w, none => bitAt w.left l
  | none, _ => false

/-- Slots still injecting since before the frame go back by its sample; those started or ended in it stay so. -/
def keepInj (old cur : InjSlot) : InjSlot :=
  if old.busy && cur.busy && old.loop == cur.loop && old.startFrame == cur.startFrame then old else cur

/-- The loops whose destination is the door amplitude of operator `d`. -/
def State.drivesDoor (s : State) (d : Nat) : Bool :=
  (List.range 64).any (fun l => s.parN 0x2100 l != 0 && s.parN 0x210A l == 0x200 + d)

/-- The LOOPS work of a frame is abandoned (R24, R25, R93): states and outputs return, staged banks and swaps go on. -/
def abandonLoops (s : State) : State :=
  let o := s.frozen.loops
  let c := s.loops
  let m := s.frozen.motion
  let loops := (List.range 64).foldl (fun t l => tset (dft {}) t l
    (keepLoop (swappedIn o.swap c.swap l) (tget (dft {}) o.loops l) (tget (dft {}) c.loops l))) c.loops
  let inj := (List.range 4).foldl (fun t n => tset (dft {}) t n (keepInj (tget (dft {}) o.inj n) (tget (dft {}) c.inj n))) c.inj
  let s := { s with loops := { c with loops := loops, inj := inj, plaus := o.plaus, swap := redoSwap o.swap c.swap } }
  let s := forEach cars8 (fun s k => s.modHoist k (fun h => { h with torque := (tget (dft {}) m.hoist k).torque })) s
  forEach ((List.range 16).filter s.drivesDoor) (fun s d =>
    s.modDoor d (fun x => { x with amplitude := (tget (dft {}) m.doors d).amplitude })) s

/-- The MOTION work of a frame is abandoned: the outputs of the loops stay those of the frame's LOOPS work. -/
def abandonMotion (s : State) : State :=
  let m := s.motion
  let s := { s with motion := { s.frozen.motion with slots := m.slots } }
  let s := forEach cars8 (fun s k => s.modHoist k (fun h => { h with torque := (tget (dft {}) m.hoist k).torque })) s
  forEach ((List.range 16).filter s.drivesDoor) (fun s d =>
    s.modDoor d (fun x => { x with amplitude := (tget (dft {}) m.doors d).amplitude })) s

/-- Findings on their way to the active stay so when the commit that took them is abandoned. -/
def keepFindings (old cur : List Finding) : List Finding :=
  if old.isPrefixOf cur then cur else old ++ cur

/-- The PAIR work of a frame is abandoned: the bookkeeping of commits returns, and on a standby what a commit of the
frame brought (R25). -/
def abandonPair (s : State) : State :=
  let o := s.frozen.pair
  let p := s.pair
  let s := { s with pair := { p with
    lastCommit := o.lastCommit, sentEpoch := o.sentEpoch, commitsOk := o.commitsOk, commitsRetried := o.commitsRetried
    acks := o.acks, retrying := o.retrying, findingsOut := keepFindings o.findingsOut p.findingsOut } }
  if s.mode == .shadow && p.lastCommit != o.lastCommit then
    { s with fb := s.frozen.fb, loops := s.frozen.loops, motion := s.frozen.motion, disp := s.frozen.disp }
  else s

/-- R25: the state of a missed class returns to its value at the start of the frame. (log entry 20: DEDUCED) -/
def abandon (s : State) (c : Nat) : State :=
  match c with
  | 0 => { s with fb := s.frozen.fb }
  | 1 => abandonLoops s
  | 2 => abandonMotion s
  | 3 => abandonSafetyA s
  | 4 => { s with links := s.frozen.links, slack := { s.slack with linksLate := true } }
  | 5 => abandonPair s
  | 6 => { s with disp := abandonDisp s.frozen.disp s.disp }
  | _ => s

/-- A capture sample that was not taken (R100). -/
def missingRow : List Int := [-2147483648, -2147483648, -2147483648, -2147483648]

/-- A refinement that is dropped commits nothing (R27). -/
def dropRefinement (d : Disp) : Disp := { d with refining := [] }

/-- The work of a sheddable class that missed its deadline is dropped for the frame (R27): a refinement commits nothing,
and a capture sample is stored as missing. -/
def dropWork (s : State) (c : Nat) : State :=
  match c with
  | 7 => { s with disp := dropRefinement s.disp }
  | 9 => if s.cap.took then s.modCap (fun k => { k with samples := missingRow :: k.samples.drop 1, prev := none }) else s
  | _ => s

/-- The ledger entry of one class's work in the frame that ends (R25, R27, R28). -/
def closeClass (len : Nat) (s : State) (w : Nat × Nat) : State :=
  if classShed s.slack.shed w.1 then s
  else
    let missed := decide (len < w.2)
    let sl := slackOf len w.2
    let s := if !missed then s else if protectedClass w.1 then abandon s w.1 else dropWork s w.1
    let s := s.modSlackC w.1 (fun k => countFrame k sl missed)
    if protectedClass w.1 then
      { s with slack := { s.slack with evalMin := optMin s.slack.evalMin sl, secondMin := optMin s.slack.secondMin sl } }
    else s

/-- R26, R287: a protected miss is repeated by the next frame. A first miss followed by a good frame is class T, one
followed by another miss class L; misses that go on after that are the same finding. (log entry 90: DEDUCED) -/
def judgeMiss (s : State) (missed : Bool) : State :=
  let was := s.slack.lateRun
  let s := { s with slack := { s.slack with lateRun := if missed then min 2 (was + 1) else 0 } }
  if was == 1 && missed then raise s { code := 0xA212, sev := 4, cls := 2 }
  else if was == 1 then raise s { code := 0xA211, sev := 1, cls := 1 }
  else s

/-- Operating time advances by one every 2,000 frames (1/16 s) and saturates (R302). -/
def tickOpTime (s : State) : State :=
  if s.frame % 2000 == 0 then { s with opTime := min (s.opTime + 1) (2 ^ 40 - 1) } else s

/-- The minimum protected slack over a second starts anew each second (Table 03.11). -/
def tickSecond (s : State) : State :=
  if s.frame % 32000 == 0 then
    { s with slack := { s.slack with secondPrev := s.slack.secondMin, secondMin := none } } else s

/-- A shed change takes effect at the tick, with event 0xA210 (R31, R32); tier 1 abandons a refinement in progress.
(log entry 19: DEDUCED) -/
def applyShed (s : State) : State :=
  match s.slack.shedNext with
  | none => s
  | some n =>
    let old := s.slack.shed
    let s := { s with slack := { s.slack with shed := n, shedNext := none } }
    let s := if 1 ≤ n then { s with disp := dropRefinement s.disp } else s
    if old == n then s else event s 0xA210 (le 1 old ++ le 1 n)

/-- Window counters of Table 02.7 at the tick that ends a frame: the frame counts with the tier that was in force in it,
or a clearing read opens the window here (R34). -/
def countWindow (k : Slack) : Slack :=
  let k := if k.clearNext then openSlackWindow k
    else { k with
      windowFrames := satN 32 (k.windowFrames + 1)
      tier1Frames := satN 32 (k.tier1Frames + b2n (k.shed ≥ 1))
      tier2Frames := satN 32 (k.tier2Frames + b2n (k.shed ≥ 2)) }
  { k with deltaAtTick := k.timebaseDelta, peakAtTick := k.timebasePeak }

/-- The groups of state as the new frame finds them (R25). (log entry 20: DEDUCED) -/
def freeze (s : State) : State :=
  let l := { s.loops with cap := { s.loops.cap with took := false }, ran := [], pulled := [], late := [] }
  { s with
    loops := l
    frozen := { fb := s.fb, loops := l, motion := s.motion, disp := s.disp, saf := s.saf, links := s.links, pair := s.pair } }

/-- A mode in which the device's periodic work runs. -/
def State.working (s : State) : Bool :=
  s.power == .on && (s.mode == .service || s.mode == .shadow || s.mode == .commission || s.mode == .lockout)

/-- SAMPLE_FRAME_TICK: the frame that `work` describes ends. Each entry is a class with work in it and the
reference cycles from its tick to the class's completion. (log entry 18: DESIGN CHOICE) -/
def tick (s : State) (work : List (Nat × Nat)) : State :=
  if !s.running then s
  else
    let len := ((frameLen s.frame : Int) + (if s.mode == .shadow then s.pair.alignNext else 0)).toNat
    let s := { s with slack := { s.slack with abandonedA := false, linksLate := false } }
    let s := if s.working then
        judgeMiss (forEach work (closeClass len) s) (work.any (fun w => protectedClass w.1 && len < w.2))
      else s
    let s := { s with frame := (s.frame + 1) % 2 ^ 48, pair := { s.pair with alignNext := 0 } }
    freeze (applyShed { tickSecond (tickOpTime s) with slack := countWindow (tickSecond (tickOpTime s)).slack })

def execSampleFrameTick (work : List (Nat × Nat)) (s : State) : Host.Outcome State Fault Refusal :=
  if Instr.wellFormed (.sampleFrameTick work) then .next (tick s work) else .fault .illFormed

/-- SHED_EVALUATION (R31): once per 32 frames. Without protected work in the 32 frames the minimum counts as 100 %.
(log entries 19: DEDUCED, 89: DESIGN CHOICE) -/
def evalShed (k : Slack) : Slack :=
  let m := k.evalMin.getD 10000
  let a15 := if m ≥ 1500 then k.above15 + 1 else 0
  let a25 := if m ≥ 2500 then k.above25 + 1 else 0
  let n :=
    if m < 1000 then 2
    else if m < 2000 then (if k.shed == 2 then (if a15 ≥ 32 then 1 else 2) else 1)
    else if k.shed == 2 then (if a15 ≥ 32 then (if a25 ≥ 32 then 0 else 1) else 2)
    else if k.shed == 1 then (if a25 ≥ 32 then 0 else 1)
    else 0
  { k with evalMin := none, above15 := min a15 32, above25 := min a25 32, shedNext := some n }

def execShedEvaluation (s : State) : Host.Outcome State Fault Refusal :=
  .next (if s.working then { s with slack := evalShed s.slack } else s)

/-- R23: `phase` is the mark's arrival minus the own boundary, in reference cycles; one frame of the epoch is lengthened
or shortened by one cycle, and no second one. -/
def alignTo' (epoch : Nat) (phase : Int) (p : PairSt) : PairSt :=
  let acts := phase != 0 && p.alignedIn != some epoch
  { p with
    alignNext := if acts then clampI (-1) 1 phase else p.alignNext
    alignedIn := if acts then some epoch else p.alignedIn }

/-- EPOCH_MARK_RECEIVED (R23). -/
def execEpochMarkReceived (phase : Int) (s : State) : Host.Outcome State Fault Refusal :=
  .next (if s.running && s.mode == .shadow then
    { s with pair := { alignTo' s.epoch phase s.pair with lastSign := s.frame } } else s)

/-- R33: the safety cycle that just ended had `count` island B cycles. A first deviation is judged by the cycle that
follows it; deviations that go on after the fault is declared are the same finding. (log entry 90: DEDUCED) -/
def timebase (s : State) (count : Nat) (inWindow : Bool) : State :=
  let delta := (count : Int) - 12000
  let k := s.slack
  let s := { s with slack := { k with timebaseDelta := clampI (-32768) 32767 delta
                                      timebasePeak := max k.timebasePeak (satN 16 delta.natAbs)
                                      tbRun := if inWindow then 0 else min 2 (k.tbRun + 1) } }
  if !inWindow && k.tbRun == 1 then
    raise s.lowSideOpen { code := 0xA220, sev := 4, cls := 2 }
  else if inWindow && k.tbRun == 1 then raise s { code := 0xA221, sev := 0, cls := 1 }
  else s

/-- A count inside the ±1 % window. -/
def countOk (count : Nat) : Bool := 11880 ≤ count && count ≤ 12120

/-- TIMEBASE_MARK_MISSING: island B counted 12,120 of its cycles without a mark. -/
def execTimebaseMarkMissing (s : State) : Host.Outcome State Fault Refusal :=
  .next (if s.working then timebase s 12120 false else s)

/-- A class record of Table 02.8. -/
def slackRecord (k : SlackClass) : Bytes :=
  let mean := k.recent.foldl (· + ·) 0 / max k.recent.length 1
  match k.min with
  | none => le 2 0xFFFF ++ le 2 0xFFFF ++ le 2 0xFFFF ++ le 2 k.below20 ++ le 4 k.missed
  | some m => le 2 m ++ le 2 mean ++ le 2 k.last ++ le 2 k.below20 ++ le 4 k.missed

/-- `SLACK_READ` reply (Table 02.7). -/
def slackReply (s : State) : Bytes :=
  le 1 stOk ++ le 1 s.slack.shed ++ le 2 0 ++ le 4 s.slack.windowFrames ++ le 4 s.slack.tier1Frames
    ++ le 4 s.slack.tier2Frames ++ leI 2 s.slack.deltaAtTick ++ le 2 s.slack.peakAtTick
    ++ ((List.range 10).map (fun c => slackRecord (s.slackC c))).flatten

def actSlackRead (h : Hdr) (rsv : Bool) (options : U8) (s : State) : State :=
  serve s h { op := 0x04, insts := 1, len := 140, lenOk := h.len == 1
              checks := [(rsv || options.toNat > 1, stBadParam)] }
    (fun s => (if options.getLsbD 0 then { s with slack := { s.slack with clearNext := true } } else s, slackReply s))

def execSlackRead (h : Hdr) (rsv : Bool) (options : U8) (s : State) : Host.Outcome State Fault Refusal :=
  hostRow s (.slackRead h rsv options) h 0x04 140 (actSlackRead h rsv options)

end Sys2Proof.Machine
end

