-- ==== Sys2Proof/Machine/Feedback.lean ====
section
/-! DEFINITION. Position and speed feedback (chapter 04): encoder samples, marks, the observer, SSI frames,
fusion and slip, `POSITION_READ`. -/

namespace Sys2Proof.Machine

/-! ### Assignment and severity (R53, R79) -/

/-- The car that names encoder channel `n`. -/
def State.carOfChan (s : State) (n : Nat) : Option Nat := cars8.find? (fun c => s.com 0x1100 c == n)
/-- The car that names SSI port `p`. -/
def State.carOfSsi (s : State) (p : Nat) : Option Nat := cars8.find? (fun c => s.com 0x1101 c == p)
def State.motorChan (s : State) (c : Nat) : Option Nat :=
  let v := s.com 0x1100 c
  if v == 0xFF then none else some v.toNat
def State.ssiPort (s : State) (c : Nat) : Option Nat :=
  let v := s.com 0x1101 c
  if v == 0xFF then none else some v.toNat

/-- The same by the confirmed safety set, for the islands (R54). -/
def State.setCarOfChan (s : State) (n : Nat) : Option Nat := cars8.find? (fun c => s.safEnabled c && s.sf 0x1100 c == n)
def State.setCarOfSsi (s : State) (p : Nat) : Option Nat := cars8.find? (fun c => s.safEnabled c && s.sf 0x1101 c == p)
def State.setChan (s : State) (c : Nat) : Option Nat :=
  let v := s.sf 0x1100 c
  if !s.safEnabled c || v == 0xFF then none else some v.toNat
def State.setPort (s : State) (c : Nat) : Option Nat :=
  let v := s.sf 0x1101 c
  if !s.safEnabled c || v == 0xFF then none else some v.toNat

/-- The car that uses a channel or port, by the committed keys or the confirmed set (R47). -/
def State.chanUser (s : State) (n : Nat) : Option Nat := (s.carOfChan n).or (s.setCarOfChan n)
def State.ssiUser (s : State) (p : Nat) : Option Nat := (s.carOfSsi p).or (s.setCarOfSsi p)

/-- An encoder channel or SSI port (16 + n) is assigned (R47). -/
def chanAssigned (s : State) (x : Nat) : Bool :=
  if x < 16 then (s.chanUser x).isSome else (s.ssiUser (x - 16)).isSome

/-- A channel or port (16 + n) that PROVING found failing and that no car used is unusable (R48). -/
def State.chanLost (s : State) (x : Nat) : Bool := s.proving.chansLost.contains x

/-- A class L feedback finding: severity 3 on an assigned element, 1 otherwise (Table 04.2). -/
def fbFault (s : State) (code inst : Nat) (car : Option Nat) : State :=
  raise s { code := code, sev := if car.isSome then 3 else 1, cls := 2, inst := inst, car := car }

/-- A class T feedback finding of severity 0. -/
def fbTransient (s : State) (code inst : Nat) (car : Option Nat) : State :=
  raise s { code := code, sev := 0, cls := 1, inst := inst, car := car }

/-! ### Fine angle and amplitude (R56, R60) -/

/-- Cosine and sine of 90°/2^i, times 2^64, for i = 1 to 10. -/
def halfAngles : List (Int × Int) :=
  [(13043817825332782212, 13043817825332782212), (17042569291174129989, 7059263338087549767),
   (18092295058859852118, 3598781241489102189), (18357917958986607856, 1808097102496279522),
   (18424524162600791837, 905138830610008563), (18441188259278644697, 452705761816584062),
   (18445355067807029948, 226369926147403917), (18446396818965434987, 113187093788755730),
   (18446657259819241109, 56593813235639762), (18446722370224206390, 28296939910536374)]

/-- 1,024ths of a quadrant, rounded down, of the angle of (x, y) with x > 0 or y > 0, both ≥ 0.
(log entry 34: DESIGN CHOICE) -/
def quadrantAngle (x y : Int) : Nat :=
  (halfAngles.foldl (fun (a : Int × Int × Nat) cs =>
    let y' := a.2.1 * cs.1 - a.1 * cs.2
    if 0 ≤ y' then (a.1 * cs.1 + a.2.1 * cs.2, y', 2 * a.2.2 + 1) else (a.1, a.2.1, 2 * a.2.2)) (x, y, 0)).2.2

/-- The 12-bit fine angle of corrected sine and cosine. (log entry 34: DESIGN CHOICE) -/
def fineAngle (sin cos : Int) : Nat :=
  if 0 < cos ∧ 0 ≤ sin then quadrantAngle cos sin
  else if cos ≤ 0 ∧ 0 < sin then 1024 + quadrantAngle sin (-cos)
  else if cos < 0 ∧ sin ≤ 0 then 2048 + quadrantAngle (-cos) (-sin)
  else if 0 ≤ cos ∧ sin < 0 then 3072 + quadrantAngle (-sin) cos
  else 0

/-- Corrected tracks of channel `n`, in 1/16,384 µV. -/
def State.tracks (s : State) (n : Nat) (sin cos : Int) : Int × Int :=
  ((sin - s.par 0x1004 n) * 16384, (cos - s.par 0x1005 n) * s.par 0x1006 n)

/-- m of R60 in 0.001, and whether m lies in 0.5 to 1.3. -/
def amplitude (nominal : Int) (t : Int × Int) : Nat × Bool :=
  let a := nominal * 500 * 16384
  let p := t.1 * t.1 + t.2 * t.2
  ((p * 1000 / (a * a)).toNat, decide (a * a ≤ 2 * p) && decide (10 * p ≤ 13 * (a * a)))

/-! ### Positions (R57, R58, R61 to R65) -/

/-- The linear position enters the trip position and the angle by its signed 32-bit difference.
(log entry 33: DESIGN CHOICE) -/
def advance (cpr now : Nat) (e : EncChan) (linear : U32) : EncChan :=
  let d := (linear - e.linear).toInt
  let trip := e.trip + BitVec.ofInt 48 d
  { e with
    linear := linear
    trip := trip
    angle := (((e.angle : Int) + d) % cpr).toNat
    hist := ((now, trip.toInt) :: e.hist).take 32 }

/-- The instant of the sample being taken: at the tick, then 390 cycles after it (R56). -/
def sampleInstant (s : State) : Nat :=
  let t := tickEdge s.frame
  match s.fb.instant with
  | some u => if t ≤ u then t + 390 else t
  | none => t

/-- A sample that moves no count: the position stands at this instant too. -/
def holdPos (now : Nat) (e : EncChan) : EncChan := { e with hist := ((now, e.trip.toInt) :: e.hist).take 32 }

/-! ### Comparators and lines (R58, R61, R62) -/

/-- The quadrant in which the comparators, or A and B, stand at these levels. -/
def linePhase (a b : Bool) : Int :=
  match a, b with
  | true, true => 0
  | true, false => 1
  | false, false => 2
  | false, true => 3

/-- The quadrature rule: one step forward or back. -/
def quadStep (old new_ : Int) : Int :=
  let d := (new_ - old) % 4
  if d == 1 then 1 else if d == 3 then -1 else 0

/-- The cycle of a run in which a line that differs is accepted, after `filter` equal samples, and the equal samples it
then has. -/
def acceptAt (filter seen cycles : Nat) (differs : Bool) : Option Nat × Nat :=
  let need := max 1 (filter - seen)
  if !differs then (none, 0) else if need ≤ cycles then (some need, 0) else (none, seen + cycles)

/-- What the accepted changes of one interval come to. -/
structure LineScan where
  lines : Lines := {}
  quad : Int := 0
  changes : Nat := 0
  both : Nat := 0
  deriving DecidableEq, Repr

/-- One run of levels. Both lines accepted in one cycle move no count. (log entry 33: DESIGN CHOICE) -/
def scanRun (filter : Nat) (k : LineScan) (x : LineRun) : LineScan :=
  let l := k.lines
  let (ta, ra) := acceptAt filter l.seenA x.cycles (x.a != l.a)
  let (tb, rb) := acceptAt filter l.seenB x.cycles (x.b != l.b)
  let a := if ta.isSome then x.a else l.a
  let b := if tb.isSome then x.b else l.b
  let both := ta.isSome && ta == tb
  let bFirst := match ta, tb with | some i, some j => decide (j < i) | _, _ => false
  let mid := if bFirst then linePhase l.a b else linePhase a l.b
  let move := if both then 0 else quadStep (linePhase l.a l.b) mid + quadStep mid (linePhase a b)
  { lines := { a := a, b := b, seenA := ra, seenB := rb }
    quad := k.quad + move, changes := k.changes + b2n ta.isSome + b2n tb.isSome, both := k.both + b2n both }

/-- The interval since the last sample. Before the first sample only the levels are taken. -/
def scanLines (filter : Nat) (e : EncChan) (xs : List LineRun) : LineScan :=
  let k := xs.foldl (scanRun filter) { lines := e.lines }
  if e.started then k else { lines := k.lines }

/-- An illegal or unresolved transition is counted (R63): four within 1 s are a class L fault.
(log entry 36: DEDUCED) -/
def illegalTransition (s : State) (n : Nat) (car : Option Nat) : State :=
  let fs := ((s.enc n).illegalFrames ++ [s.frame]).filter (fun f => s.frame < f + 32000)
  let s := s.modEnc n (fun e =>
    { e with illegalCount := satN 16 (e.illegalCount + 1), illegalFrames := if fs.length ≥ 4 then [] else fs
             uncertain := true })
  if fs.length ≥ 4 then fbFault s 0x1112 n car else s

/-- R287: `was` bad operations in a row came before this one, which is the repeat of a single one. A good repeat makes
the finding class T, a bad one class L; more bad ones are the same finding. (log entry 90: DEDUCED) -/
def judgeRepeat (s : State) (was : Nat) (bad : Bool) (codeT codeL inst : Nat) (car : Option Nat) : State :=
  if was != 1 then s else if bad then fbFault s codeL inst car else fbTransient s codeT inst car

/-- R59: more than 26 quadrant changes in a sample interval. -/
def overspeedCheck (s : State) (n changes : Nat) (car : Option Nat) : State :=
  let was := (s.enc n).ovRun
  let bad := decide (26 < changes)
  judgeRepeat (s.modEnc n (fun e => { e with ovRun := if bad then min 2 (was + 1) else 0 })) was bad 0x1103 0x1103 n car

/-- A car whose motor channel is not valid anchors anew when it is (R76). -/
def watchMotor (s : State) (n : Nat) : State :=
  match s.carOfChan n with
  | some c => if (s.enc n).valid then s else s.modCarFb c (fun f => { f with motorWasValid := false })
  | none => s

/-- R60: runs of samples in and out of range, and the channel's validity. -/
def amplitudeCheck (s : State) (n ratio : Nat) (inRange : Bool) (car : Option Nat) : State :=
  let was := (s.enc n).oorRun
  let s := s.modEnc n (fun e =>
    if inRange then
      { e with ampRatio := satN 16 ratio, oorRun := 0, inRun := min 64 (e.inRun + 1)
               valid := e.valid || decide (e.inRun + 1 ≥ 64) }
    else { e with ampRatio := satN 16 ratio, oorRun := min 2 (was + 1), inRun := 0, valid := e.valid && was == 0 })
  watchMotor (judgeRepeat s was (!inRange) 0x1101 0x1102 n car) n

/-- R58: a change of both comparators in one cycle, resolved by the fine-angle step since the last sample. A step of 0 has
no direction and moves no count. (log entry 96: DESIGN CHOICE) -/
def resolveBoth (s : State) (n : Nat) (pending : Bool) (fa : Nat) (car : Option Nat) : State :=
  if !pending then s
  else
    let e := s.enc n
    let step := ((fa : Int) - e.fine + 2048) % 4096 - 2048
    if step.natAbs < 2048 then
      s.modEnc n (fun e => { e with pendingBoth := false
                                    quad := e.quad + (if 0 < step then 2 else if step < 0 then -2 else 0) })
    else
      let s := s.modEnc n (fun e => { e with pendingBoth := false })
      illegalTransition (record s { code := 0x1111, sev := 0, inst := n, car := car }) n car

/-- The position in counts with the quadrant count's low bits taken from the fine angle. -/
def finePosition (quad : Int) (fa : Nat) : Int := 1024 * (quad / 4 * 4 + fa / 1024) + (fa % 1024 : Nat)

/-- Linear position with `enc_invert` applied. -/
def signedPos (invert : Bool) (p : Int) : U32 := BitVec.ofInt 32 (if invert then -p else p)

/-- R57 for a sample in range: the quadrant count agrees, is corrected by one, or conflicts. -/
def reconcile (s : State) (n fa now : Nat) (place : State → Int → State) (car : Option Nat) : State :=
  let e := s.enc n
  let d := ((fa / 1024 : Nat) - e.quad) % 4
  if d == 2 then
    let s := s.modEnc n (fun e => holdPos now { e with fine := fa })
    illegalTransition (record s { code := 0x1110, sev := 0, inst := n, car := car }) n car
  else
    let q := e.quad + (if d == 1 then 1 else if d == 3 then -1 else 0)
    let s := s.modEnc n (fun e => { e with quad := q, fine := fa
                                           reconCount := satN 16 (e.reconCount + b2n (d != 0)) })
    place s (finePosition q fa)

/-- A channel that is off or unusable is not valid, and starts afresh. -/
def idleChan (s : State) (n : Nat) : State :=
  if (s.enc n).started then watchMotor (s.modEnc n (fun e => { e with started := false, valid := false, inRun := 0 })) n else s

/-- The first sample of a channel, or one in range after it started: sine and cosine mode. -/
def sineSample (s : State) (x : EncSample) (k : LineScan) (now : Nat) (place : State → Int → State) (car : Option Nat) :
    State :=
  let n : Nat := x.chan
  let t := s.tracks n x.sin x.cos
  let (ratio, inRange) := amplitude (s.par 0x1007 n) t
  let fa := fineAngle t.1 t.2
  let s := amplitudeCheck s n ratio inRange car
  if !(s.enc n).started then
    if inRange then
      s.modEnc n (fun e =>
        { e with started := true, fine := fa, quad := (fa / 1024 : Nat), hist := [(now, e.trip.toInt)]
                 linear := signedPos (s.par 0x1003 n == 1) (finePosition (fa / 1024 : Nat) fa) })
    else s
  else
    let pending := (s.enc n).pendingBoth || 0 < k.both
    let s := s.modEnc n (fun e => { e with quad := e.quad + k.quad, pendingBoth := pending })
    if inRange then reconcile (resolveBoth s n pending fa car) n fa now place car
    else place s (1024 * (s.enc n).quad)

/-- Digital mode: accepted edges move the count, illegal transitions do not (R61, R62). -/
def digitalSample (s : State) (n : Nat) (k : LineScan) (place : State → Int → State) (car : Option Nat) : State :=
  let s := s.modEnc n (fun e => { e with quad := e.quad + k.quad, valid := true, started := true, ampRatio := 0 })
  let s := place s (1024 * (s.enc n).quad)
  forEach (List.range k.both) (fun s _ =>
    illegalTransition (record s { code := 0x1111, sev := 0, inst := n, car := car }) n car) s

/-- One sample of one channel at instant `now`. `enc_invert` acts on the whole count, so a commit that changes it moves the
position at the next sample. (log entries 33: DESIGN CHOICE, 96: DESIGN CHOICE) -/
def sampleChan (s : State) (now : Nat) (x : EncSample) : State :=
  let n : Nat := x.chan
  let mode := s.parN 0x1001 n
  if mode == 0 || s.chanLost n then idleChan s n
  else
    let car := s.chanUser n
    let k := scanLines (if mode == 2 then s.parN 0x1008 n else 1) (s.enc n) x.lines
    let s := s.modEnc n (fun e => { e with sampleFrame := s.frame, lines := k.lines })
    let place : State → Int → State := fun s p =>
      s.modEnc n (fun e => advance (s.parN 0x1002 n) now e (signedPos (s.par 0x1003 n == 1) p))
    let s := overspeedCheck s n k.changes car
    if mode == 1 then sineSample s x k now place car else digitalSample s n k place car

/-! ### Reference marks (R66) -/

/-- `x` rounded to the nearest multiple of `k`. -/
def nearestMultiple (x k : Int) : Int := fdiv (2 * x + k) (2 * k) * k

/-- A mark error: class T, and class L at the second in a row; errors after that are the same finding.
(log entry 90: DEDUCED) -/
def markError (s : State) (n : Nat) (car : Option Nat) : State :=
  let run := (s.enc n).markErrRun + 1
  let s := s.modEnc n (fun e => { e with markErrRun := min run 3, markErrors := satN 16 (e.markErrors + 1) })
  if run == 1 then fbTransient s 0x1120 n car else if run == 2 then fbFault s 0x1121 n car else s

/-- The count is corrected by `dr` at the mark. -/
def correctAtMark (s : State) (n cpr : Nat) (dr : Int) (linear : U32) (invert : Bool) : State :=
  s.modEnc n (fun e =>
    { e with
      linear := e.linear - BitVec.ofInt 32 dr
      trip := e.trip - BitVec.ofInt 48 dr
      quad := e.quad - (if invert then -(dr / 1024) else dr / 1024)
      angle := (((e.angle : Int) - dr) % cpr).toNat
      lastMark := some (linear - BitVec.ofInt 32 dr)
      uncertain := false
      markErrRun := 0 })

/-- A qualified mark at linear position `linear`. With `enc_mark_mode` 0 marks are ignored, the first one as well.
(log entry 96: DESIGN CHOICE) -/
def mark (s : State) (n : Nat) (linear : U32) : State :=
  let e := s.enc n
  let mode := s.parN 0x1009 n
  if s.parN 0x1001 n == 0 || mode == 0 || s.chanLost n then s
  else
    let car := s.chanUser n
    let cpr := s.parN 0x1002 n
    let zero : State → State := fun s => if mode == 2 then s.modEnc n (fun e => { e with angle := 0 }) else s
    match e.lastMark with
    | none => zero (s.modEnc n (fun e => { e with lastMark := some linear, referenced := true }))
    | some last =>
      let dist := (linear - last).toInt
      let dev := dist - nearestMultiple dist cpr
      let tol := s.par 0x100B n
      if !e.uncertain then
        let s := s.modEnc n (fun e => { e with lastMark := some linear })
        if (dev.natAbs : Int) ≤ tol then zero (s.modEnc n (fun e => { e with markErrRun := 0 }))
        else markError s n car
      else
        let dr := nearestMultiple dev 1024
        if ((dev - dr).natAbs : Int) ≤ tol ∧ dr.natAbs ≤ 4096 then
          record (correctAtMark s n cpr dr linear (s.par 0x1003 n == 1))
            { code := 0x1122, sev := 0, inst := n, car := car, payload := leI 4 dr }
        else markError (s.modEnc n (fun e => { e with lastMark := some linear })) n car

/-- REFERENCE_MARK: a rising edge of the mark. Only one in quadrant `enc_mark_quadrant` is qualified. -/
def execReferenceMark (chan : Fin 16) (edge : MarkEdge) (s : State) : Host.Outcome State Fault Refusal :=
  .next (if s.working && !s.suspended 0x08 && s.parN 0x100A chan == edge.quadrant then mark s chan edge.linear else s)

/-! ### The observer (R67 to R71) -/

/-- Trip position as reported, with the standby's offset (R80). -/
def tripOf (e : EncChan) : Int := e.trip.toInt + e.offset

/-- One observer sample of channel `n`: rate in Hz, thresholds in counts/s, brakes applied, and a non-zero
speed reference. A new count offset (R80) is movement. (log entries 8: DESIGN CHOICE, 96: DESIGN CHOICE) -/
def observe (s : State) (n rate : Nat) (still dirHyst accMax : Int) (braked reference : Bool) : State :=
  let bw := s.parN 0x100C n
  s.modEnc n (fun e =>
    let p := tripOf e
    if e.standstill then
      if (p - e.stillPos).natAbs > 1024 || (!braked && reference) then
        { e with standstill := false, obsPos := p, obsSpeed := 0, obsAcc := 0, speedRun := 0
                 speedValid := false, direction := 0, slowSamples := 0, accClamped := false }
      else { e with obsPos := p }
    else
      let (x, v, a) := Config.observer bw rate e.obsPos e.obsSpeed e.obsAcc p
      let slow := if (v.natAbs : Int) < still then e.slowSamples + 1 else 0
      if slow ≥ 1 && (braked || slow * 20 ≥ rate) then
        { e with obsPos := p, obsSpeed := 0, obsAcc := 0, standstill := true, stillPos := p
                 slowSamples := 0, speedRun := 4, speedValid := true, direction := 0, accClamped := false }
      else
        { e with
          obsPos := x, obsSpeed := v, obsAcc := a, slowSamples := slow
          speedRun := min 4 (e.speedRun + 1)
          speedValid := decide (e.speedRun + 1 ≥ 4)
          direction := if v > dirHyst then 1 else if v < -dirHyst then 2 else e.direction
          accClamped := decide ((a.natAbs : Int) > accMax) })

/-- AUX_OBSERVER_SAMPLE: the observer of an auxiliary channel, at 8 kHz. -/
def execAuxObserverSample (chan : Fin 16) (s : State) : Host.Outcome State Fault Refusal :=
  .next (if s.working && !s.suspended 0x08 && s.par 0x1001 chan != 0 && !s.chanLost chan && (s.carOfChan chan).isNone then
    observe s chan 8000 (s.par 0x100D chan) (s.par 0x100E chan) (4 * s.par 0x100F chan) false false else s)

/-! ### Car position (R75) -/

/-- Counts of car `c`'s channel as nm of car travel, rounded down. (log entry 35: DESIGN CHOICE) -/
def State.toNm (s : State) (c n : Nat) (counts : Int) : Int :=
  fdiv (counts * s.par 0x1102 c) (s.par 0x1002 n)

/-- Car µm/s (or µm/s²) as counts/s of channel `n`. -/
def State.toCounts (s : State) (c n : Nat) (um : Int) : Int :=
  fdiv (um * 1000 * s.par 0x1002 n) (s.par 0x1102 c)

/-- motor_car now, in nm. -/
def State.motorNm (s : State) (c : Nat) : Int :=
  match s.motorChan c with
  | some n => s.toNm c n (tripOf (s.enc n))
  | none => 0

/-- `motor_valid` of a car. -/
def State.motorValid (s : State) (c : Nat) : Bool :=
  match s.motorChan c with | some n => (s.enc n).valid | none => false

/-- Fused car position of the latest hoist sample, in µm. (log entry 35: DESIGN CHOICE) -/
def State.fusedPos (s : State) (c : Nat) : Int := fdiv ((s.carFb c).sampled + (s.carFb c).c) 1000
/-- Fused position and speed are available to the hoist block. -/
def State.fusedOk (s : State) (c : Nat) : Bool := s.motorValid c && (s.carFb c).anchored

/-- Reported car speed in µm/s, and acceleration in µm/s² before and after the clamp of R71. -/
def State.carSpeed (s : State) (c : Nat) : Int :=
  match s.motorChan c with
  | some n => fdiv (s.toNm c n (s.enc n).obsSpeed) 1000
  | none => 0
def State.accLimit (s : State) (c : Nat) : Int :=
  4 * [0x3005, 0x3006, 0x3007, 0x3008].foldl (fun m k => max m (s.par k c)) 0
def State.carAcc (s : State) (c : Nat) : Int :=
  match s.motorChan c with
  | some n => clampI (-(s.accLimit c)) (s.accLimit c) (fdiv (s.toNm c n (s.enc n).obsAcc) 1000)
  | none => 0
def State.speedValid (s : State) (c : Nat) : Bool :=
  match s.motorChan c with | some n => (s.enc n).speedValid | none => false
def State.carDir (s : State) (c : Nat) : Nat :=
  match s.motorChan c with | some n => (s.enc n).direction | none => 0

/-- The feedback part of a hoist sample of car `c` at `rate` Hz: the observer, then the sampled position. A car that moves
is anchored again at its next standstill (R76). -/
def fbHoistSample (s : State) (c rate : Nat) (reference : Bool) : State :=
  match s.motorChan c with
  | none => s
  | some n =>
    let s := observe s n rate (s.toCounts c n (s.par 0x1104 c)) (s.toCounts c n 2000)
      (s.toCounts c n (s.accLimit c)) (s.brakesClosed c) reference
    let still := (s.enc n).standstill
    s.modCarFb c (fun f => { f with
      sampled := s.motorNm c, sampleFrame := s.frame
      anchoredHere := f.anchoredHere && still, residuals := if still then f.residuals else [] })

/-! ### The islands' movement and unintended movement (R191, R192, R212) -/

/-- The scale of the islands' position (R54, R191): counts of the confirmed set's channel as nm of car travel, and the sign
where the set's `enc_invert` is not the one in force. -/
def State.setNm (s : State) (c n : Nat) (counts : Int) : Int :=
  let k := if s.sf 0x1003 n == s.par 0x1003 n then counts else -counts
  fdiv (k * s.sf 0x1102 c) (s.sf 0x1002 n)

/-- motor_car by the confirmed set's geometry, in nm. -/
def State.islandNm (s : State) (c : Nat) : Int :=
  match s.setChan c with
  | some n => s.setNm c n (tripOf (s.enc n))
  | none => 0

/-- motor_car and p_B in µm, as the islands latch them. Movement is measured on motor_car, so that an anchor, which
moves p_A and not the car, is no movement. -/
def State.motorUm (s : State) (c : Nat) : Int := fdiv (s.islandNm c) 1000
def State.shaftUm (s : State) (c : Nat) : Int :=
  match s.setPort c with | some p => fdiv (s.ssi p).posB 1000 | none => 0
def State.place (s : State) (c : Nat) : Int × Int := (s.motorUm c, s.shaftUm c)

/-- Validity of island B's port and of island A's channel, and island A's speed in µm/s with its validity. -/
def State.islandShaftOk (s : State) (c : Nat) : Bool :=
  match s.setPort c with | some p => (s.ssi p).valid | none => false
def State.islandMotorOk (s : State) (c : Nat) : Bool :=
  match s.setChan c with | some n => (s.enc n).valid | none => false
def State.islandSpeed (s : State) (c : Nat) : Int :=
  match s.setChan c with | some n => fdiv (s.setNm c n (s.enc n).obsSpeed) 1000 | none => 0
def State.islandSpeedOk (s : State) (c : Nat) : Bool :=
  match s.setChan c with | some n => (s.enc n).valid && (s.enc n).speedValid | none => false

/-- Distances of both islands from a latched place. -/
def State.movedA (s : State) (c : Nat) (at_ : Int × Int) : Nat := (s.motorUm c - at_.1).natAbs
def State.movedB (s : State) (c : Nat) (at_ : Int × Int) : Nat := (s.shaftUm c - at_.2).natAbs

/-- A safety finding of severity 3 on car `c`, once for a cause that its trip already records (R220). -/
def tripFor (s : State) (c code elem cls : Nat) (payload : Bytes := []) : State :=
  let k := s.carSaf c
  if k.trip && k.causes.contains (code, elem) then s
  else raise s { code := code, sev := 3, cls := cls, inst := elem, car := some c, payload := payload }

/-- Unintended movement is detected: the stop distance is measured from the latched place (R212, R213). -/
def ucmTrip (s : State) (c : Nat) (at_ : Int × Int) : State :=
  tripFor (s.modCarSaf c (fun k => { k with ucm := none, ucmZone := false, ucmMove := some at_ })) c 0x6126 c 0

/-- One island's movement test of R212 while supervision is armed. (log entry 60: DEDUCED) -/
def ucmWatch (s : State) (c : Nat) (isl : Island) : State :=
  match (s.carSaf c).ucm with
  | some p =>
    let d := match isl with | .a => s.movedA c p | .b => s.movedB c p
    if d > s.sfN 0x6020 c then ucmTrip s c p else s
  | none => s

/-- R80: what the active mirrors of a channel and of a car. -/
def chanMirror (e : EncChan) : ChanMirror :=
  { trip := tripOf e, angle := e.angle, referenced := e.referenced, uncertain := e.uncertain }
def carMirror (f : CarFb) : CarMirror := { c := f.c, cAnchor := f.cAnchor, anchored := f.anchored, tripDist := f.tripDist }

/-- The feedback part of this epoch's commit, at its first sample: assigned channels, and cars. -/
def fbMirror (s : State) : FbMirror :=
  { chans := ((List.range 16).filter (chanAssigned s)).foldl (fun t n => tset (dft {}) t n (chanMirror (s.enc n))) []
    cars := cars8.foldl (fun t c => tset (dft {}) t c (carMirror (s.carFb c))) [] }

/-- ENCODER_SAMPLE (R56): one sampling instant of the channels listed; island A's movement test at each, and at an epoch's
first sample what the active mirrors (R80). -/
def encoderSample (s : State) (samples : List EncSample) : State :=
  let now := sampleInstant s
  let s := { s with fb := { s.fb with instant := some now } }
  let s := forEach samples (fun s x =>
    let s := sampleChan s now x
    match s.setCarOfChan x.chan with
    | some c => ucmWatch s c .a
    | none => s) s
  if s.incharge && s.frame % 4 == 0 && now == tickEdge s.frame then { s with pair := { s.pair with fbSent := fbMirror s } }
  else s

def execEncoderSample (samples : List EncSample) (s : State) : Host.Outcome State Fault Refusal :=
  if Instr.wellFormed (.encoderSample samples) then
    .next (if s.working && !s.suspended 0x08 then encoderSample s samples else s)
  else .fault .illFormed

/-! ### SSI frames (R73, R74) -/

/-- Gray code to binary. -/
def grayDecode (n g : Nat) : Nat :=
  ((List.range n).foldl (fun (a : Nat × Nat) i =>
    let b := Nat.xor a.2 (g / 2 ^ (n - 1 - i) % 2)
    (2 * a.1 + b, b)) (0, 0)).1

/-- Parity of the low `n` bits. -/
def parityOf (n v : Nat) : Nat := (List.range n).foldl (fun p i => Nat.xor p (v / 2 ^ i % 2)) 0

/-- The position in nm of a position field, with its geometry: LSB, inversion and offset. -/
def shaftPos (lsb invert offset : Int) (field : Nat) : Int :=
  (if invert == 1 then -(field * lsb) else field * lsb) + offset * 1000

/-- By the keys in force, and by the confirmed set for island B (R54). -/
def State.shaftNm (s : State) (p : Nat) (field : Nat) : Int :=
  shaftPos (s.par 0x1206 p) (s.par 0x1208 p) (match s.carOfSsi p with | some c => s.par 0x1103 c | none => 0) field
def State.setShaftNm (s : State) (p : Nat) (field : Nat) : Int :=
  shaftPos (s.sf 0x1206 p) (s.sf 0x1208 p) (match s.setCarOfSsi p with | some c => s.sf 0x1103 c | none => 0) field

/-- The frame is good, with its position field, status bits and position. A port that no car names has rated speed 0.
(log entry 96: DESIGN CHOICE) -/
def ssiJudge (s : State) (p : Nat) (w : Nat) (preHigh monoLow : Bool) : Bool × Nat × Nat × Int :=
  let bits := s.parN 0x1201 p
  let posBits := s.parN 0x1202 p
  let par := s.parN 0x1205 p
  let pb := b2n (par != 0)
  let st := bits - posBits - pb
  let raw := w / 2 ^ (bits - posBits) % 2 ^ posBits
  let field := if s.par 0x1203 p == 1 then grayDecode posBits raw else raw
  let status := w / 2 ^ pb % 2 ^ st
  let parBad := (par == 1 && parityOf bits w != 0) || (par == 2 && parityOf bits w != 1)
  let statBad := (List.range st).any (fun i => bitAt (s.parN 0x1204 p) i && bitAt status (st - 1 - i))
  let pos := s.shaftNm p field
  let q := s.ssi p
  let v := match s.carOfSsi p with | some c => s.parN 0x3001 c | none => 0
  let jump := q.ever && decide
    (((pos - q.pos).natAbs : Int) * 16 > 5 * v * (max 1 q.cyclesSinceGood : Nat) + 32 * s.par 0x1206 p)
  (preHigh && monoLow && !parBad && !statBad && !jump, field, status, pos)

/-- A channel's counts at reference cycle `t`, between the samples that bracket it, as a numerator and a denominator.
(log entry 37: DESIGN CHOICE) -/
def countsAt (e : EncChan) (t : Nat) : Int × Nat :=
  let rec find : List (Nat × Int) → Int × Nat
    | [] => (tripOf e, 1)
    | [(_, p)] => (p + e.offset, 1)
    | (t1, p1) :: (t0, p0) :: rest =>
      if t1 ≤ t then (p1 + e.offset, 1)
      else if t0 ≤ t then
        (p0 * ((t1 - t : Nat) : Int) + p1 * ((t - t0 : Nat) : Int) + e.offset * ((t1 - t0 : Nat) : Int), t1 - t0)
      else find ((t0, p0) :: rest)
  find e.hist

/-- motor_car at reference cycle `t` by the keys in force, and by the confirmed set. -/
def motorAt (s : State) (c : Nat) (t : Nat) : Int :=
  match s.motorChan c with
  | none => 0
  | some n =>
    let k := countsAt (s.enc n) t
    fdiv (k.1 * s.par 0x1102 c) ((k.2 : Int) * s.par 0x1002 n)
def islandAt (s : State) (c : Nat) (t : Nat) : Int :=
  match s.setChan c with
  | none => 0
  | some n =>
    let k := countsAt (s.enc n) t
    let p := if s.sf 0x1003 n == s.par 0x1003 n then k.1 else -k.1
    fdiv (p * s.sf 0x1102 c) ((k.2 : Int) * s.sf 0x1002 n)

/-- The position tolerance of R196 in µm. -/
def State.posTol (s : State) (c : Nat) : Int :=
  s.sf 0x600E c + fdiv (s.sf 0x600F c * (s.carFb c).tripDist) 1000000000

/-- Island A's offset at an anchor of residual `r`, by the confirmed set's geometry (R191): the first after PROVING always, later ones within the
position tolerance. -/
def anchorIsland (s : State) (c : Nat) (r : Int) : State :=
  let k := s.carSaf c
  let pA := fdiv (s.islandNm c + k.oA) 1000
  if !k.oAok || (((pA - s.shaftUm c).natAbs : Int) ≤ s.posTol c) then
    s.modCarSaf c (fun k => { k with oA := r, oAok := true })
  else s

/-- Anchor at residual `r`, `ri` by the confirmed set's geometry (R76). The slip history starts afresh, since s does.
(log entries 37: DESIGN CHOICE, 96: DESIGN CHOICE) -/
def anchorAt (s : State) (c : Nat) (r ri : Int) : State :=
  let s := anchorIsland s c ri
  let s := s.modCarFb c (fun f =>
    { f with c := r, cAnchor := r, anchored := true, tripDist := 0, slip := 0, slipOver := 0, slipHist := []
             rateRun := 0, residuals := [] })
  match s.motorChan c with
  | some n => s.modEnc n (fun e => { e with uncertain := false })
  | none => s

/-- The slip limit L of R77, in nm. -/
def State.slipLimit (s : State) (c : Nat) : Int :=
  s.par 0x1106 c * 1000 + fdiv (s.par 0x1107 c * (s.carFb c).tripDist) 1000000

/-- R77 and R78 for a good frame with residual `e` latched at `t`. 20 ms are 500,000 cycles. -/
def slipCheck (s : State) (c : Nat) (e : Int) (t : Nat) : State :=
  let f := s.carFb c
  let sl := e - f.cAnchor
  let limit := s.slipLimit c
  let ovr := decide ((sl.natAbs : Int) > limit)
  let warn := decide ((sl.natAbs : Int) * 100 > limit * s.par 0x1108 c) && !f.slipWarned
  let fast := match f.slipHist.find? (fun h => h.2 + 500000 ≤ t) with
    | some h => decide (((sl - h.1).natAbs : Int) > 20 * s.par 0x1109 c)
    | none => false
  let run := if ovr then min 3 (f.slipOver + 1) else 0
  let rate := if fast then min 4 (f.rateRun + 1) else 0
  let s := s.modCarFb c (fun f =>
    { f with slip := sl, slipOver := run, rateRun := rate, slipWarned := f.slipWarned || warn
             slipHist := ((sl, t) :: f.slipHist).take 96 })
  let s := if warn then raise s { code := 0x1301, sev := 1, inst := c, car := some c } else s
  if (run == 2 && f.slipOver == 1) || (rate == 3 && f.rateRun == 2) then
    raise s { code := 0x1302, sev := 3, cls := 2, inst := c, car := some c }
  else s

/-- R75 to R78 for a good frame of car `c`'s shaft sensor at position `pos` (nm). (log entry 35: DESIGN CHOICE) -/
def fuse (s : State) (c : Nat) (pos : Int) (t : Nat) : State :=
  let f := s.carFb c
  let valid := s.motorValid c
  let s := s.modCarFb c (fun f =>
    { f with motorWasValid := valid, lastMotor := s.motorNm c
             tripDist := f.tripDist + (s.motorNm c - f.lastMotor).natAbs })
  if !valid then s
  else
    let e := pos - motorAt s c t
    let ei := (match s.setPort c with | some p => (s.ssi p).posB | none => 0) - islandAt s c t
    if !f.motorWasValid then anchorAt s c e ei
    else
      let still := s.standstill c
      let rs := if still then f.residuals ++ [(e, ei)] else []
      let mean := fun (v : Int × Int → Int) => fdiv ((rs.map v).foldl (· + ·) 0) 16
      if still && !f.anchoredHere && rs.length ≥ 16 then
        (anchorAt s c (mean (·.1)) (mean (·.2))).modCarFb c (fun f => { f with anchoredHere := true })
      else
        let s := s.modCarFb c (fun f =>
          { f with c := f.c + fdiv (e - f.c) (4 * s.par 0x1105 c)
                   residuals := if f.anchoredHere then [] else rs
                   anchoredHere := f.anchoredHere && still })
        slipCheck s c e t

/-- SSI_FRAME_RECEIVED: the word of a frame of port `p` with its checks and latch instant.
(log entry 37: DESIGN CHOICE) -/
def ssiFrame (s : State) (p : Nat) (word : Nat) (preHigh monoLow : Bool) (latch : Nat) : State :=
  let w := word % 2 ^ s.parN 0x1201 p
  let (good, field, status, pos) := ssiJudge s p w preHigh monoLow
  let posB := s.setShaftNm p field
  let was := (s.ssi p).badRun
  let s := judgeRepeat s was (!good) 0x1201 0x1202 p (s.ssiUser p)
  let s := s.modSsi p (fun q =>
    { q with raw := BitVec.ofNat 32 w, posField := field, statusBits := status, frameNo := s.frame
             clockAbsent := false, gap := false })
  if good then
    let s := s.modSsi p (fun q =>
      { q with pos := pos, posB := posB, valid := true, badRun := 0, cyclesSinceGood := 0, ever := true
               goods := ((posB, latch) :: (if q.valid then q.goods else [])).take 64 })
    let s := match s.carOfSsi p with
      | some c => if s.suspended 0x08 then s else fuse s c pos latch
      | none => s
    match s.setCarOfSsi p with
    | some c => ucmWatch s c .b
    | none => s
  else
    let s := s.modSsi p (fun q =>
      { q with valid := false, badRun := min 2 (was + 1), framesBad := satN 16 (q.framesBad + 1) })
    match s.carOfSsi p with
    | some c => s.modCarFb c (fun f => { f with residuals := [] })
    | none => s

/-- A takeover's gap of more than 2 ms, 8 safety cycles, counts as one bad frame (R272). -/
def ssiGap (s : State) (p : Nat) : State :=
  let q := s.ssi p
  if q.gap && q.cyclesSinceGood == 9 && q.ever then
    (judgeRepeat s q.badRun true 0x1201 0x1202 p (s.ssiUser p)).modSsi p (fun q =>
      { q with valid := false, badRun := min 2 (q.badRun + 1), framesBad := satN 16 (q.framesBad + 1) })
  else s

def execSsiFrameReceived (port : Fin 8) (word : U40) (preHigh monoLow : Bool) (latch : Nat) (s : State) :
    Host.Outcome State Fault Refusal :=
  .next (if s.working && !s.chanLost (16 + port) then ssiFrame s port word.toNat preHigh monoLow latch else s)

/-- SSI_CLOCK_ABSENT (R74): a receiving device observes no clock for two safety cycles. -/
def execSsiClockAbsent (port : Fin 8) (s : State) : Host.Outcome State Fault Refusal :=
  .next (if s.working && !s.incharge && (s.partnerRole == 1 || s.partnerRole == 2) && !(s.ssi port).clockAbsent then
    raise (s.modSsi port (fun q => { q with clockAbsent := true })) { code := 0x1203, sev := 1, inst := port }
  else s)

/-! ### POSITION_READ (Tables 04.3 to 04.7) -/

/-- Flags of the encoder part (Table 04.4), bits 0 to 5 and 10. -/
def encFlags (e : EncChan) : Nat :=
  b2n e.standstill + 2 * b2n e.speedValid + 4 * e.direction + 16 * b2n e.uncertain + 32 * b2n e.referenced
    + 1024 * b2n e.accClamped

def State.slipLimitUm (s : State) (c : Nat) : Nat := (fdiv (s.slipLimit c) 1000).toNat

def carPosReply (s : State) (c : Nat) : Bytes :=
  match s.motorChan c, s.ssiPort c with
  | some n, some p =>
    let f := s.carFb c
    let flags := encFlags (s.enc n) + 64 * b2n (s.ssi p).valid + 128 * b2n (s.enc n).valid
      + 256 * b2n f.anchored + 512 * b2n f.slipWarned + 2048 * b2n (!(s.ssi p).valid)
    le 1 stOk ++ le 1 0 ++ le 2 flags ++ le 4 f.sampleFrame ++ leI 4 (s.fusedPos c)
      ++ leI 4 (fdiv f.sampled 1000) ++ leI 4 (fdiv (s.ssi p).pos 1000) ++ leI 4 (s.carSpeed c)
      ++ leI 4 (s.carAcc c) ++ leI 4 (fdiv f.slip 1000) ++ le 4 (s.slipLimitUm c)
      ++ le 4 (f.tripDist / 1000) ++ leI 4 (fdiv f.c 1000) ++ zeros 4
  | _, _ => refusal 48 stOk

def chanPosReply (s : State) (n : Nat) : Bytes :=
  if s.par 0x1001 n == 0 then le 1 stOk ++ le 1 1 ++ zeros 46
  else
    let e := s.enc n
    le 1 stOk ++ le 1 1 ++ le 2 (encFlags e % 1024 + 128 * b2n e.valid) ++ le 4 e.sampleFrame
      ++ le 4 e.linear.toNat ++ leI 8 (tripOf e) ++ le 4 e.angle ++ leI 4 e.obsSpeed
      ++ leI 4 (match s.carOfChan n with
          | some c => clampI (-(s.toCounts c n (s.accLimit c))) (s.toCounts c n (s.accLimit c)) e.obsAcc
          | none => clampI (-(4 * s.par 0x100F n)) (4 * s.par 0x100F n) e.obsAcc)
      ++ le 2 e.ampRatio ++ le 2 e.illegalCount ++ le 2 e.reconCount ++ le 2 e.markErrors
      ++ le 4 (e.lastMark.getD 0).toNat ++ zeros 4

def ssiPosReply (s : State) (p : Nat) : Bytes :=
  match s.carOfSsi p with
  | none => le 1 stOk ++ le 1 2 ++ zeros 22
  | some _ =>
    let q := s.ssi p
    le 1 stOk ++ le 1 2 ++ le 2 (64 * b2n q.valid) ++ le 4 q.frameNo ++ le 4 q.raw.toNat ++ le 4 q.posField
      ++ leI 4 (fdiv q.pos 1000) ++ le 2 q.framesBad ++ le 1 q.statusBits ++ zeros 1

def actPositionRead (h : Hdr) (rsv : Bool) (source : U8) (s : State) : State :=
  serve s h { op := 0x26, insts := if source == 1 then 16 else 8, len := if source == 2 then 24 else 48
              lenOk := h.len == 4, checks := [(rsv || source.toNat > 2, stBadParam)] }
    (fun s => (s, match source.toNat with
      | 0 => carPosReply s h.inst.toNat
      | 1 => chanPosReply s h.inst.toNat
      | _ => ssiPosReply s h.inst.toNat))

def execPositionRead (h : Hdr) (rsv : Bool) (source : U8) (s : State) : Host.Outcome State Fault Refusal :=
  hostRow s (.positionRead h rsv source) h 0x26 (if source == 2 then 24 else 48) (actPositionRead h rsv source)

/-! ### What a commit checks -/

/-- A staged value by key and instance. -/
abbrev Staged := Nat → Nat → Int
/-- Refusals a chapter's rules give a staged set: key, instance, status. -/
abbrev Refused := List (Nat × Nat × Nat)

/-- Refuse with `st` when `bad`. -/
def failIf (bad : Bool) (key inst st : Nat) : Refused := if bad then [(key, inst, st)] else []

/-- `f` over instances 0 to n − 1. -/
def eachInst (n : Nat) (f : Nat → Refused) : Refused := ((List.range n).map f).flatten

/-- Observer rate in Hz of a hoist rate code (`car_hoist_rate`: 4, 8, 16, 32 kHz). -/
def hoistHz (code : Int) : Nat := 4000 * 2 ^ code.toNat

/-- R53, R67, R72 and the SSI bit counts. -/
def fbRules (v : Staged) : Refused :=
  let chan := fun c => v 0x1100 c
  let port := fun c => v 0x1101 c
  eachInst 8 (fun c =>
    let dup := fun (f : Nat → Int) => f c != 0xFF && (List.range c).any (fun d => f d == f c)
    failIf (dup chan) 0x1100 c stBadParam
      ++ failIf (dup port || (chan c == 0xFF) != (port c == 0xFF)) 0x1101 c stBadParam)
  ++ eachInst 16 (fun n =>
    let rate := match cars8.find? (fun c => chan c == n) with
      | some c => hoistHz (v 0x2001 c)
      | none => 8000
    failIf (decide (8 * v 0x100C n > rate)) 0x100C n stRange)
  ++ eachInst 8 (fun p =>
    let bits := v 0x1201 p
    failIf (decide ((bits + 1) * 1000 > (200 - v 0x1207 p) * v 0x1200 p)) 0x1200 p stRange
      ++ failIf (decide (v 0x1202 p + (if v 0x1205 p == 0 then 0 else 1) > bits)) 0x1202 p stRange)

end Sys2Proof.Machine
end

