-- ==== Sys2Proof/Machine/Signals.lean ====
section
/-! DEFINITION. The test signals of R98. The sine and the logarithmic sweep are computed in fixed point with 96
fractional bits; which of the two neighbouring Q15 values a sample takes is a free value, since the spec states no
rounding. (log entry 9: DESIGN CHOICE) -/

namespace Sys2Proof.Machine

/-! ### Fixed point -/

/-- One. -/
def fixOne : Nat := 2 ^ 96
/-- π and ln 2. -/
def fixPi : Nat := 248902613312231085230521944622
def fixLn2 : Nat := 54916777467707473351141471128

/-- The bits of an m-th root from bit `b` - 1 down, after `acc`. -/
def rootFrom (m x : Nat) : Nat → Nat → Nat
  | 0, acc => acc
  | b + 1, acc => rootFrom m x b (if (acc + 2 ^ b) ^ m ≤ x then acc + 2 ^ b else acc)

/-- The largest number below 2^bits whose m-th power does not exceed `x`. -/
def nroot (bits m x : Nat) : Nat := rootFrom m x bits 0

/-- The sine series from its term `t` of index `k`, with `q` the angle squared. -/
def sineSeries (q : Int) : Nat → Nat → Int → Int
  | 0, _, _ => 0
  | f + 1, k, t => t + sineSeries q f (k + 1) (-(t * q / fixOne) / ((2 * k + 2) * (2 * k + 3) : Nat))

/-- sin(2π p) of a phase `p` in turns. -/
def sinTurn (p : Nat) : Int :=
  let r := p % 2 ^ 94
  let quarter := p / 2 ^ 94 % 4
  let x : Int := ((if quarter % 2 == 0 then r else 2 ^ 94 - r) * 2 * fixPi / fixOne : Nat)
  let y := sineSeries (x * x / fixOne) 24 0 x
  if quarter < 2 then y else -y

/-- The series of the inverse hyperbolic tangent from the power `t` of index `k`. -/
def atanhTerms (q : Int) : Nat → Nat → Int → Int
  | 0, _, _ => 0
  | f + 1, k, t => t / (2 * k + 1 : Nat) + atanhTerms q f (k + 1) (t * q / fixOne)

/-- ln(b / a) for 0 < a ≤ b. -/
def lnUp (a b : Nat) : Int :=
  let k := Nat.log2 (b / a)
  let c := a * 2 ^ k
  let x : Int := ((b - c) * fixOne / (b + c) : Nat)
  k * fixLn2 + 2 * atanhTerms (x * x / fixOne) 36 0 x

/-- ln(b / a). -/
def lnRatio (a b : Nat) : Int := if b < a then -(lnUp b a) else lnUp a b

/-- The exponential series from its term `t` of index `k`. -/
def expTerms (z : Int) : Nat → Nat → Int → Int
  | 0, _, _ => 0
  | f + 1, k, t => t + expTerms z f (k + 1) (t * z / fixOne / (k + 1 : Nat))

/-- e to the power `y`. -/
def expFix (y : Int) : Int :=
  let k := y / fixLn2
  let e := expTerms (y % fixLn2) 30 0 fixOne
  if 0 ≤ k then e * 2 ^ k.toNat else e / 2 ^ (-k).toNat

/-! ### Stepped sine -/

/-- f_i to the power p3 - 1, in mHz. -/
def stepPower (k : InjSlot) (i : Nat) : Nat := k.p1 ^ (k.p3 - 1 - i) * k.p2 ^ i

/-- Samples of frequency `i`: up to the last zero crossing of its settle and measure cycles. -/
def stepSamples (k : InjSlot) (hz i : Nat) : Nat :=
  let cycles := k.p4 / 65536 + k.p4 % 65536
  nroot 40 (k.p3 - 1) ((cycles * hz * 1000) ^ (k.p3 - 1) / stepPower k i) + 1

/-- Frequency and sample within it of sample `n`, from frequency `i` on. -/
def stepAt (k : InjSlot) (hz : Nat) : Nat → Nat → Nat → Nat × Nat
  | 0, i, n => (i, n)
  | f + 1, i, n =>
    let len := stepSamples k hz i
    if n < len then (i, n) else stepAt k hz f (i + 1) (n - len)

/-- The phase in turns of sample `n`: f_i t. -/
def stepPhase (k : InjSlot) (hz n : Nat) : Nat :=
  let (i, j) := stepAt k hz (k.p3 - 1) 0 n
  nroot 112 (k.p3 - 1) (stepPower k i * j ^ (k.p3 - 1) * 2 ^ (96 * (k.p3 - 1)) / (hz * 1000) ^ (k.p3 - 1))

/-! ### Chirp -/

/-- φ / 2π of sample `n`, in turns: the integral of a frequency that goes from p1 to p2 over p3 ms. -/
def chirpPhase (k : InjSlot) (hz n : Nat) : Nat :=
  if k.p1 == k.p2 then k.p1 * n * fixOne / (1000 * hz)
  else if k.p4 == 0 then
    (((k.p1 * n * 2 * hz * k.p3 : Nat) + ((k.p2 : Int) - k.p1) * (n * n * 1000 : Nat)) * fixOne
      / (2 * hz * hz * k.p3 * 1000 : Nat)).toNat
  else
    let l := lnRatio k.p1 k.p2
    let e := expFix (l * (n * 1000 : Nat) / (hz * k.p3 : Nat))
    ((k.p1 * k.p3 : Nat) * (e - fixOne) * fixOne / (l * 1000000)).toNat

/-! ### Signals -/

/-- Feedback taps of Table 05.4. -/
def prbsTaps (len : Nat) : List Nat :=
  match len with
  | 7 => [7, 6] | 8 => [8, 6, 5, 4] | 9 => [9, 5] | 10 => [10, 7] | 11 => [11, 9]
  | 12 => [12, 11, 10, 4] | 13 => [13, 12, 11, 8] | 14 => [14, 13, 12, 2] | _ => [15, 14]

/-- One shift of the register; bit i − 1 is stage i. (log entry 40: DEDUCED) -/
def prbsShift (len reg : Nat) : Nat :=
  let fb := (prbsTaps len).foldl (fun x t => Nat.xor x (reg / 2 ^ (t - 1) % 2)) 0
  (reg * 2 + fb) % 2 ^ len

/-- A signal that runs until it is stopped. -/
def openEnded (k : InjSlot) : Bool := k.signal == 0 && k.p3 == 0 || k.signal == 3 && k.p1 == 0

/-- Planned number of samples, 0 if open-ended. -/
def injLength (k : InjSlot) (hz : Nat) : Nat :=
  if openEnded k then 0
  else
    match k.signal with
    | 0 => k.p3 * (2 ^ k.p1 - 1) * k.p2
    | 1 => (List.range k.p3).foldl (fun a i => a + stepSamples k hz i) 0
    | 2 => k.p3 * hz / 1000
    | _ => k.p2 + k.p1

/-- A sample of a sine of phase `p` turns: one of the two Q15 values beside A·sin, or that value where it is whole.
(log entry 9: DESIGN CHOICE) -/
def sineValue (k : InjSlot) (hz p : Nat) : Int :=
  let x := k.amp * sinTurn p
  let up := x % fixOne != 0 && Config.roundsUp (k.signal, k.amp, k.p1, k.p2, k.p3, k.p4) hz k.n
  clampI (-k.amp) k.amp (x / fixOne + b2n up)

/-- The injected value of the slot's next sample. (log entry 40: DEDUCED) -/
def injValue (k : InjSlot) (hz : Nat) : Int :=
  match k.signal with
  | 0 => if bitAt k.lfsr (k.p1 - 1) then k.amp else -k.amp
  | 1 => sineValue k hz (stepPhase k hz k.n)
  | 2 => sineValue k hz (chirpPhase k hz k.n)
  | _ => if k.p2 ≤ k.n then k.amp else 0

/-- The slot after one sample. -/
def injNext (k : InjSlot) : InjSlot :=
  { k with n := k.n + 1
           lfsr := if k.signal == 0 && (k.n + 1) % k.p2 == 0 then prbsShift k.p1 k.lfsr else k.lfsr }

end Sys2Proof.Machine
end

