-- ==== Sys2Proof/Machine/Staging.lean ====
section
/-! DEFINITION. Staging parameters (R384, R385): the checks of an entry and the staged copies. The commit
stands in Params.lean. -/

namespace Sys2Proof.Machine

/-- A `value` field of an entry read as the key's type; none when its upper bits do not extend the type. -/
def typedValue (r : KeySpec) (v : Nat) : Option Int :=
  let (bits, signed) := typeBits r.type
  if signed then
    let x := toSigned 64 v
    if -(2 ^ (bits - 1) : Int) ≤ x ∧ x < 2 ^ (bits - 1) then some x else none
  else if v < 2 ^ bits then some v else none

/-- R385, R430: the status an entry gives, or the value to stage. -/
def checkEntry (s : State) (key inst value : Nat) : Nat × Option Int :=
  if 0x6000 ≤ key ∧ key < 0x7000 then
    match findKey key with
    | some r => if inst < r.insts then (stAuthRequired, none) else (stBadParam, none)
    | none => (stBadParam, none)
  else
    match findKey key with
    | none => (stBadParam, none)
    | some r =>
      if r.insts ≤ inst ∨ r.ro then (stBadParam, none)
      else if r.form == .learned && s.mode != .commission then (stWrongMode, none)
      else
        match typedValue r value with
        | none => (stRange, none)
        | some v => if keyRangeOk r (s.learnedPos key inst) v then (stOk, some v) else (stRange, none)

/-- The first failing entry with its status, or the values to stage. -/
def checkEntries (s : State) : List (Nat × Nat × Nat) → Nat → (Nat × Nat) ⊕ List (Nat × Int)
  | [], _ => .inr []
  | (k, i, v) :: rest, n =>
    match checkEntry s k i v with
    | (_, some x) =>
      match checkEntries s rest (n + 1) with
      | .inr xs => .inr ((kix k i, x) :: xs)
      | .inl e => .inl e
    | (st, none) => .inl (n, st)

/-- Stage values; a later one for the same key prevails. -/
def stageAll (t : Tbl Int) (xs : List (Nat × Int)) : Tbl Int :=
  xs.foldl (fun t x => tset paramDflt t x.1 x.2) t

/-- Keys and instances whose staged value differs from the committed one. -/
def changedKeys (p : ParamSt) : List Nat :=
  let a := p.staged.vals.filter (fun e => tget paramDflt p.committed.vals e.1 != e.2)
  let b := p.committed.vals.filter (fun e => !(p.staged.vals.any (fun x => x.1 == e.1)))
  (a ++ b).map (·.1)

/-- Node addresses whose staged map differs from the committed one. -/
def changedMaps (p : ParamSt) : List Nat :=
  let a := p.staged.maps.filter (fun e => tget (dft {}) p.committed.maps e.1 != e.2)
  let b := p.committed.maps.filter (fun e => !(p.staged.maps.any (fun x => x.1 == e.1)))
  (a ++ b).map (·.1)

/-- Stage entries of key, instance and raw value: status, first failing index. -/
def stageEntries (s : State) (es : List (Nat × Nat × Nat)) : State × Nat × Nat :=
  if s.params.commit.isSome then (s, stBusy, 0xFF)
  else
    match checkEntries s es 0 with
    | .inl (n, st) => (s, st, n)
    | .inr xs =>
      ({ s with params := { s.params with staged := { s.params.staged with
          vals := stageAll s.params.staged.vals xs } } }, stOk, 0xFF)

end Sys2Proof.Machine
end

