-- ==== Sys2Proof/Machine/Loops.lean ====
section
/-! DEFINITION. The closed-loop control engine (chapter 05): arithmetic, one loop sample, banks and swaps,
injection, capture, plausibility, lanes. -/

namespace Sys2Proof.Machine

/-! ### Arithmetic (R82, R87, R88) -/

def sat16 (x : Int) : Int := clampI (-32768) 32767 x
def sat32 (x : Int) : Int := clampI (-2147483648) 2147483647 x

/-- `a / 2^k` rounded to nearest, ties towards +∞. (log entry 38: DESIGN CHOICE) -/
def rndShift (a : Int) (k : Nat) : Int := if k = 0 then a else fdiv (a + 2 ^ (k - 1)) (2 ^ k)

/-- `a / b` rounded to nearest, ties towards +∞. (log entry 91: DESIGN CHOICE) -/
def rndDiv (a b : Int) : Int := fdiv (2 * a + b) (2 * b)

/-- A section that passes its input through: what an unlisted section of a bank reads as. -/
def passSec : Sec := { b0 := 16384, cshift := 1 }
def secAt (b : Bank) (k : Nat) : Sec := b.secs.getD k passSec
def stAt (l : Loop) (k : Nat) : SecState := l.secs.getD k {}

/-- A term of a block floating-point sum: units of 2⁻³⁰ times 2^exponent. -/
abbrev Term := Int × Int

/-- A term at the larger exponent `e`. -/
def alignTo (e : Int) (t : Term) : Int := rndShift t.1 (e - t.2).toNat

/-- The sum of terms at their largest exponent. -/
def sumTerms (ts : List Term) : Term :=
  let e := ts.foldl (fun m t => max m t.2) (-64)
  (ts.foldl (fun a t => a + alignTo e t) 0, e)

/-- The mantissa of a term at exponent `e`. (log entry 38: DESIGN CHOICE) -/
def mantAt (e : Int) (t : Term) : Int :=
  let k := 15 + e - t.2
  if 0 < k then rndShift t.1 k.toNat else t.1 * 2 ^ (-k).toNat

/-- The smallest exponent of −32 to 31 at which every term fits an s16 mantissa. (log entry 38: DESIGN CHOICE) -/
def fitExp (ts : List Term) : Option Int :=
  ((List.range 64).map (fun i : Nat => (i : Int) - 32)).find? (fun e => ts.all (fun t => (mantAt e t).natAbs ≤ 32767))

/-- Mantissas at one shared exponent, and whether exponent 31 was not enough. -/
def normTerms (ts : List Term) : List Int × Int × Bool :=
  match fitExp ts with
  | some e => (ts.map (mantAt e), e, false)
  | none => (ts.map (fun t => sat16 (mantAt 31 t)), 31, true)

/-- A value with a mantissa and an exponent as a term. -/
def mantTerm (m e : Int) : Term := (m * 32768, e)

/-- A product of a scaled coefficient and a mantissa. -/
def prod (coef : Int) (sh : Nat) (m e : Int) : Term := (coef * m * 2 ^ sh, e)

/-- A section's output for input (x, ex): mantissa, exponent, saturations, exponent limit.
(log entry 38: DESIGN CHOICE) -/
def secOutput (bfp : Bool) (c : Sec) (st : SecState) (x ex : Int) : Int × Int × Nat × Bool :=
  if bfp then
    let t := sumTerms [prod c.b0 c.cshift x ex, mantTerm st.z1 st.exp]
    match normTerms [t] with
    | ([m], e, ovr) => (m, e, b2n ovr, ovr)
    | _ => (0, 0, 0, false)
  else
    let o := rndShift (c.b0 * x * 2 ^ c.cshift + st.z1) 15
    (sat16 o, 0, b2n (sat16 o != o), false)

/-- The states a section writes; `keep` is anti-windup's hold of R89. -/
def secStates (bfp : Bool) (c : Sec) (st : SecState) (x ex o oe : Int) (keep : Bool) : SecState × Nat × Bool :=
  if bfp then
    let z1 := if keep then mantTerm st.z1 st.exp
      else sumTerms [prod c.b1 c.cshift x ex, prod (-c.a1) c.cshift o oe, mantTerm st.z2 st.exp]
    let z2 := if keep then mantTerm st.z2 st.exp
      else sumTerms [prod c.b2 c.cshift x ex, prod (-c.a2) c.cshift o oe]
    match normTerms [mantTerm o oe, z1, z2] with
    | ([m, a, b], e, ovr) => ({ z1 := a, z2 := b, out := m, exp := e, x := x, xExp := ex }, b2n ovr, ovr)
    | _ => ({}, 0, false)
  else if keep then ({ st with out := o, x := x }, 0, false)
  else
    let a := c.b1 * x * 2 ^ c.cshift - c.a1 * o * 2 ^ c.cshift + st.z2
    let b := c.b2 * x * 2 ^ c.cshift - c.a2 * o * 2 ^ c.cshift
    ({ z1 := sat32 a, z2 := sat32 b, out := o, x := x }, b2n (sat32 a != a) + b2n (sat32 b != b), false)

/-- A mantissa with exponent in Q15 steps, rounded. -/
def toQ15 (m e : Int) : Int := if 0 ≤ e then m * 2 ^ e.toNat else rndShift m (-e).toNat

/-! ### Configuration of a loop -/

def State.loopRole (s : State) (l : Nat) : Nat := s.parN 0x2100 l
def State.loopSections (s : State) (l : Nat) : Nat := s.parN 0x2105 l
def State.isBfp (s : State) (l : Nat) : Bool := s.par 0x2104 l == 1

/-- Frames per period and phase of a loop (Table 02.2), by its keys. -/
def loopPeriod (v : Staged) (l : Nat) : Nat :=
  match v 0x2100 l with
  | 1 => 8 / 2 ^ (v 0x2001 (v 0x2101 l).toNat).toNat
  | 2 => 8
  | _ => 8 / 2 ^ (v 0x2102 l).toNat
def loopPhase (v : Staged) (l : Nat) : Nat :=
  let p := loopPeriod v l
  match v 0x2100 l with
  | 1 => (v 0x2101 l).toNat % p
  | 2 => (v 0x2101 l).toNat % 8
  | _ => if v 0x2103 l == 0xFF then l % p else (v 0x2103 l).toNat
/-- Loop rate in Hz. -/
def loopHz (v : Staged) (l : Nat) : Nat := 32000 / loopPeriod v l

/-- The loops a loop reads. -/
def loopReads (v : Staged) (l : Nat) : List Nat :=
  ([v 0x2107 l, v 0x2108 l, v 0x2109 l].filter (fun c => 0x0B00 ≤ c ∧ c ≤ 0x0B3F)).map (fun c => c.toNat % 256)

/-- Length of the longest chain that ends at loop `l`, counting to `fuel` + 1. -/
def chainDepth (v : Staged) : Nat → Nat → Nat
  | 0, _ => 1
  | f + 1, l => 1 + (loopReads v l).foldl (fun m r => max m (chainDepth v f r)) 0

/-- The loops of an owner in chain order (R86). -/
def State.ownLoops (s : State) (role owner : Nat) : List Nat :=
  let ls := (List.range 64).filter (fun l => s.loopRole l == role && s.par 0x2101 l == owner)
  ((List.range 4).map (fun d => ls.filter (fun l => chainDepth s.par 4 l == d + 1))).flatten

/-! ### Sources (Table 05.1) -/

/-- The value of a source; none when it is unavailable (R84). An auxiliary input slot that names no point is unavailable.
(log entry 91: DESIGN CHOICE) -/
def readSource (s : State) (code : Nat) : Option Int :=
  let i := code % 256
  match code / 256 with
  | 0 => some 0
  | 1 => some (s.hoist i).refPos
  | 2 => some (s.hoist i).refSpeed
  | 3 => some (s.hoist i).refAcc
  | 4 => if s.fusedOk i then some (s.fusedPos i) else none
  | 5 => if s.motorValid i then some (s.carSpeed i) else none
  | 6 => if s.motorValid i then some (s.carAcc i) else none
  | 7 => some (s.hoist i).pretorque
  | 8 => some (s.door i).refSpeed
  | 9 => some (s.door i).estSpeed
  | 10 => some (s.enc i).obsSpeed
  | 11 => some (s.loop i).delivered
  | _ => (s.goodPoint (s.par 0x2030 i)).map (toSigned 16)

/-- The loops of its own rate and phase that loop `l` reads (R86). -/
def State.upstream (s : State) (l : Nat) : List Nat :=
  (loopReads s.par l).filter (fun r => s.loopRole r != 0 && loopPeriod s.par r == loopPeriod s.par l
    && loopPhase s.par r == loopPhase s.par l)

/-! ### Injection (R97 to R99) -/

/-- Slots injecting into loop `l`. -/
def State.slotsOf (s : State) (l : Nat) : List Nat :=
  (List.range 4).filter (fun n => (s.inj n).busy && (s.inj n).loop == l)

/-- inj(n) of R82. -/
def injAt (s : State) (l hz node : Nat) : Int :=
  ((s.slotsOf l).filter (fun n => (s.inj n).node == node)).foldl (fun a n => a + injValue (s.inj n) hz) 0

/-- The slots of a loop advance by one sample and end when complete. -/
def advanceInj (s : State) (l hz : Nat) : State :=
  forEach (s.slotsOf l) (fun s n =>
    let k := s.inj n
    let s := if k.n == 0 && s.cap.state == 1 && s.cap.trigger == 1 && s.cap.trigArg == n then
        s.modCap (fun c => { c with injSeen := true }) else s
    let s := s.modInj n injNext
    let len := injLength k hz
    if !openEnded k && k.n + 1 ≥ len then endInj s n 1 else s) s

/-! ### Swaps (R93 to R95) -/

/-- R222: the torque limit of the safety set clamps the output limits of a car's torque loop. -/
def torqueBank (s : State) (l : Nat) (b : Bank) : Bank :=
  let d := s.parN 0x210A l
  if d / 256 == 1 && s.safEnabled (d % 256) then
    let t := s.sf 0x6040 (d % 256)
    { b with uMin := clampI (-t) t b.uMin, uMax := clampI (-t) t b.uMax }
  else b

/-- R94: the state of section `k` that reproduces its last output under the new bank, with the saturations of R87 and
whether the exponent of R88 was not enough. -/
def bumplessAt (bfp : Bool) (b : Bank) (n : Nat) (l : Loop) (k : Nat) : SecState × Nat × Bool :=
  let st := stAt l k
  let c := secAt b k
  let (tm, te) : Int × Int :=
    if k + 1 == n then (clampI b.uMin b.uMax l.u - l.f, 0) else (st.out, st.exp)
  if bfp then
    let z2 := sumTerms [prod c.b2 c.cshift st.x st.xExp, prod (-c.a2) c.cshift tm te]
    let z1 := sumTerms [mantTerm tm te, prod (-c.b0) c.cshift st.x st.xExp]
    match normTerms [mantTerm tm te, z1, z2] with
    | ([m, x, y], e, ovr) => ({ st with out := m, z1 := x, z2 := y, exp := e }, b2n ovr, ovr)
    | _ => (st, 0, false)
  else
    let z2 := c.b2 * st.x * 2 ^ c.cshift - c.a2 * tm * 2 ^ c.cshift
    let z1 := tm * 32768 - c.b0 * st.x * 2 ^ c.cshift
    ({ st with out := tm, z2 := sat32 z2, z1 := sat32 z1 }, b2n (sat32 z1 != z1) + b2n (sat32 z2 != z2), false)

/-- Saturations and a reached exponent limit are counted and recorded (R87, R88). -/
def satEvents (s : State) (l nsat : Nat) (ovr : Bool) : State :=
  let s := s.modLoop l (fun k => { k with satCount := satN 32 (k.satCount + nsat) })
  let s := if nsat != 0 then event s 0x2101 [] l else s
  if ovr then event s 0x2102 [] l else s

/-- Loop `l` takes its staged bank; the active one becomes the staged one. -/
def takeBank (s : State) (l : Nat) (isReset : Bool) : State :=
  let n := s.loopSections l
  let k := s.loop l
  let secs := if isReset || !k.running then []
    else (List.range n).map (bumplessAt (s.isBfp l) (torqueBank s l k.staged) n k)
  let s := s.modLoop l (fun k =>
    { k with
      active := k.staged, staged := k.active, lastSwapEpoch := s.epoch
      secs := secs.map (·.1), aw := if isReset then false else k.aw })
  satEvents s l (secs.foldl (fun a w => a + w.2.1) 0) (secs.any (·.2.2))

/-- The pending swap is taken by loop `l` at its first sample after the commit boundary. -/
def swapAt (s : State) (l : Nat) : State :=
  match s.loops.swap with
  | some w =>
    if w.armed && bitAt w.left l then
      let s := takeBank s l w.isReset
      { s with loops := { s.loops with swap := some { w with left := w.left - 2 ^ l } } }
    else s
  | none => s

/-! ### One sample (R82 to R84, R89) -/

/-- The feed-forward term f of R82. -/
def ffTerm (s : State) (l : Nat) (gain : Int) : Int :=
  let x := (readSource s (s.parN 0x2109 l)).getD 0
  sat16 (rndDiv (gain * sat16 (rndDiv (x * 32768) (s.par 0x210E l))) 16384)

/-- What a held loop does. (log entry 39: DEDUCED) -/
def heldSample (s : State) (l : Nat) : State :=
  let s := endInjOn s 6 (fun k => k == l)
  let b := torqueBank s l (s.loop l).active
  let f := ffTerm s l b.ffGain
  let u := clampI b.uMin b.uMax f
  s.modLoop l (fun k =>
    { k with secs := [], aw := false, slewing := false, running := false, f := f, v := f, u := u, casc := 0
             injSum := 0, delivered := rndDiv (u * s.par 0x210F l) 32768 })

/-- d of R82: wrapped into −W/2 ≤ d < W/2 and shrunk, in 1/32,768 of a native unit. (log entry 91: DESIGN CHOICE) -/
def errorTerm (wrapN db d : Int) : Int :=
  let d := if wrapN == 0 then d else (d + wrapN * 16384) % (wrapN * 32768) - wrapN * 16384
  let z := db * 32768
  if d.natAbs ≤ z.natAbs then 0 else if 0 < d then d - z else d + z

/-- The cascade: each section's output with its input, from input (x, e). -/
def cascade (s : State) (l hz : Nat) (bfp : Bool) (b : Bank) (k : Loop) :
    List Nat → Int → Int → List (Nat × Int × Int × Int × Int) → Nat → Bool →
    List (Nat × Int × Int × Int × Int) × Int × Int × Nat × Bool
  | [], x, e, acc, sats, ovr => (acc.reverse, x, e, sats, ovr)
  | n :: rest, x, e, acc, sats, ovr =>
    let i := injAt s l hz (3 + n)
    let (x, e) : Int × Int :=
      if i == 0 then (x, e)
      else if bfp then
        match normTerms [sumTerms [mantTerm x e, mantTerm i 0]] with
        | ([m], e', _) => (m, e')
        | _ => (x, e)
      else (sat16 (x + i), 0)
    let (o, oe, ns, ov) := secOutput bfp (secAt b n) (stAt k n) x e
    cascade s l hz bfp b k rest o oe ((n, x, e, o, oe) :: acc) (sats + ns) (ovr || ov)

/-- A running sample with its reference and feedback read. (log entry 39: DEDUCED) -/
def runSample (s : State) (l : Nat) (src fb : Int) : State :=
  let hz := loopHz s.par l
  let k := s.loop l
  let k := if k.running then k else { k with secs := [], aw := false }
  let b := torqueBank s l k.active
  let bfp := s.isBfp l
  let fs := s.par 0x210B l
  let r := src * 32768 + injAt s l hz 0 * fs
  let y := fb * 32768 + injAt s l hz 1 * fs
  let d := errorTerm (s.par 0x210C l) (s.par 0x210D l) (r - y)
  let e := sat16 (sat16 (rndDiv d fs) + injAt s l hz 2)
  let (secs, x, xe, sats, ovr) := cascade s l hz bfp b k (List.range (s.loopSections l)) e 0 [] 0 false
  let c := sat16 (sat16 (toQ15 x xe) + injAt s l hz 19)
  let f := ffTerm s l b.ffGain
  let v := sat16 (c + f)
  let u1 := clampI b.uMin b.uMax v
  let u := if b.slew == 0 then u1 else clampI (k.u - b.slew) (k.u + b.slew) u1
  let hi := decide (v ≥ b.uMax)
  let lo := decide (v ≤ b.uMin)
  let hold := s.par 0x2106 l == 1
  let written := secs.map (fun (n, x, e, o, oe) =>
    secStates bfp (secAt b n) (stAt k n) x e o oe
      (hold && (secAt b n).aw && ((hi && decide (0 < x)) || (lo && decide (x < 0)))))
  let nsat := sats + written.foldl (fun a w => a + w.2.1) 0
  let ovr := ovr || written.any (fun w => w.2.2)
  let inj := (s.slotsOf l).foldl (fun a n => a + injValue (s.inj n) hz) 0
  let s := s.modLoop l (fun _ =>
    { k with
      running := true, secs := written.map (·.1), aw := hi || lo, slewing := u != u1
      u := u, e := e, f := f, v := v, r := fdiv r 32768, y := fdiv y 32768, casc := c, injSum := inj
      delivered := rndDiv (u * s.par 0x210F l) 32768
      awSamples := satN 32 (k.awSamples + b2n (hi || lo)) })
  advanceInj (satEvents s l nsat ovr) l hz

/-- R84: a source the loop reads is unavailable, a held one reading its feed-forward only: event 0x2140 is recorded
once, until every source is available again. -/
def sourceLost (s : State) (l : Nat) (lost all : Bool) : State :=
  if lost && !(s.loop l).srcLost then
    record (s.modLoop l (fun k => { k with srcLost := true })) { code := 0x2140, sev := 1, inst := l }
  else if all then s.modLoop l (fun k => { k with srcLost := false })
  else s

/-- One sample of loop `l`, `held` by its owning block or not. A loop whose source is lost in this sample keeps its output
and is held from the next one (R84). -/
def loopStep (s : State) (l : Nat) (held : Bool) : State :=
  let s := swapAt s l
  let was := (s.loop l).srcLost
  match readSource s (s.parN 0x2107 l), readSource s (s.parN 0x2108 l), readSource s (s.parN 0x2109 l) with
  | some r, some y, some _ =>
    let s := sourceLost s l false true
    if held then heldSample s l else runSample s l r y
  | _, _, f =>
    let s := sourceLost s l (!held || f.isNone) false
    if held || was then heldSample s l else s

/-! ### Capture (R100) -/

/-- The value of a capture node. -/
def nodeValue (k : Loop) (node : Nat) : Int :=
  sat32 (match node with
    | 0 => k.r | 1 => k.y | 2 => k.e | 19 => k.casc | 20 => k.f | 21 => k.v | 22 => k.u | 23 => k.injSum
    | n => let st := stAt k (n - 3); toQ15 st.x st.xExp)

/-- A capture that ends, with event 0x2130. -/
def endCapture (s : State) (st : Nat) : State :=
  event (s.modCap (fun c => { c with state := st })) 0x2130 (le 1 st)

/-- The trigger is met by the sample `cur`. -/
def triggered (c : Capture) (cur : Option Int) : Bool :=
  match c.trigger with
  | 0 => true
  | 1 => c.injSeen
  | t =>
    match c.prev, cur with
    | some p, some v => if t == 2 then p < c.level && c.level ≤ v else c.level < p && v ≤ c.level
    | _, _ => false

/-- A sample of the trigger loop. -/
def captureStep (s : State) (l : Nat) : State :=
  let c := s.cap
  if c.trigLoop != l || !(c.state == 1 || c.state == 2) then s
  else if c.skip != 0 && !(c.state == 1 && c.injSeen) then s.modCap (fun c => { c with skip := c.skip - 1 })
  else
    let missing := s.slack.shed == 2
    let row := if missing then missingRow
      else c.nodes.map (fun n => nodeValue (s.loop n.1) n.2)
    let cur := if missing || c.trigger < 2 then none else row[c.trigArg]?
    let fire := c.state == 1 && triggered c cur
    let kept := if c.state == 1 then c.samples.take c.pretrigger else c.samples
    let after := if c.state == 2 || fire then c.after + 1 else 0
    let s := s.modCap (fun c =>
      { c with
        state := if fire then 2 else c.state
        samples := row :: kept
        trigIndex := if fire then kept.length else c.trigIndex
        after := after
        prev := if missing then c.prev else cur
        skip := c.decim - 1
        took := true })
    if (s.cap.state == 2) && s.cap.samples.length ≥ c.depth then endCapture s 3 else s

/-- Table 05.2: the torque set-point of a car takes the output (0 in an emergency stop, R117), and the point of an
auxiliary output slot takes it saturated to s16. A door's amplitude takes it in the door sample. -/
def deliver (s : State) (l : Nat) : State :=
  let d := s.parN 0x210A l
  let v := sat16 (s.loop l).delivered
  if d / 256 == 1 then s.modHoist (d % 256) (fun h => { h with torque := if h.phase == .emergency then 0 else v })
  else if d / 256 == 3 then
    let a := s.par 0x2031 (d % 256)
    if a == 0xFFFFFFFF then s else s.modPoint a.toNat (fun p => { p with output := (v % 65536).toNat })
  else s

/-- The loop has had its sample in this frame. -/
def State.ranLoop (s : State) (l : Nat) : Bool := s.loops.ran.contains l

/-- Every loop that `l` reads has had its sample in this frame (R86). -/
def State.loopReady (s : State) (l : Nat) : Bool := (s.upstream l).all s.ranLoop

/-- A sample of a loop with everything that follows from it. Under shed tier 2 its injections end ahead of it (R32). -/
def sampleLoop (s : State) (l : Nat) (held : Bool) : State :=
  let s := if s.slack.shed == 2 then endInjOn s 3 (fun k => k == l) else s
  let s := captureStep (deliver (loopStep s l held) l) l
  { s with loops := { s.loops with ran := l :: s.loops.ran } }

/-- A loop whose turn has come before those it reads waits for them. -/
def waitLoop (s : State) (l : Nat) (held : Bool) : State :=
  { s with loops := { s.loops with late := s.loops.late ++ [(l, held)] } }

/-- Loops that waited have their sample once they are ready. -/
def releaseLoops : Nat → State → State
  | 0, s => s
  | n + 1, s =>
    match s.loops.late.find? (fun e => s.loopReady e.1) with
    | none => s
    | some e =>
      let s := { s with loops := { s.loops with late := s.loops.late.filter (fun x => x.1 != e.1) } }
      releaseLoops n (sampleLoop s e.1 e.2)

/-- The auxiliary loops that `l` reads have their samples ahead of it: the device evaluates a chain in chain order,
whichever of its samples is commanded first (R86). (log entry 92: DEDUCED) -/
def pullChain : Nat → State → Nat → State
  | 0, s, _ => s
  | n + 1, s, l =>
    forEach (s.upstream l) (fun s r =>
      if s.loopRole r == 3 && !s.ranLoop r && !s.loops.late.any (fun e => e.1 == r) then
        let s := pullChain n s r
        let s := { s with loops := { s.loops with pulled := r :: s.loops.pulled } }
        if s.loopReady r then sampleLoop s r false else waitLoop s r false
      else s) s

/-- The turn of loop `l` in its frame (R82, R86). (log entry 92: DEDUCED) -/
def loopSample (s : State) (l : Nat) (held : Bool) : State :=
  if s.loopRole l == 0 || s.suspended (4 + s.laneOf l) || s.laneLost l then s
  else if s.loops.pulled.contains l then
    { s with loops := { s.loops with pulled := s.loops.pulled.filter (· != l) } }
  else
    let s := pullChain 3 s l
    if s.loopReady l then releaseLoops 64 (sampleLoop s l held) else waitLoop s l held

/-- CAPTURE_TIMEOUT. -/
def execCaptureTimeout (s : State) : Host.Outcome State Fault Refusal :=
  .next (if s.running && s.cap.timeoutMs != 0 && (s.cap.state == 1 || s.cap.state == 2) then endCapture s 4 else s)

/-- INJECTION_TIMEOUT: `inject_max_s` reached. -/
def execInjectionTimeout (slot : Fin 4) (s : State) : Host.Outcome State Fault Refusal :=
  .next (if s.running then endInj s slot 2 else s)

/-! ### Plausibility (R101) -/

/-- The predicted acceleration a_p in µm/s², with torque `tau`, load `w` in kg and speed `v`. -/
def predictAcc (s : State) (c : Nat) (tau w v : Int) : Int :=
  let fm := tau * s.par 0x2021 c * 10000000
  let fg := 8192 * (100 * w - s.par 0x2024 c * s.par 0x2023 c) * 980665
  let ff := 81920000000 * s.par 0x2025 c * (if 0 < v then 1 else if v < 0 then -1 else 0)
  fdiv ((fm - fg - ff) * 1000000) (81920000000 * (s.par 0x2022 c + w))

/-- Every hoist loop of car `c` runs, and there is one. -/
def State.hoistLoopsRun (s : State) (c : Nat) : Bool :=
  let ls := (List.range 64).filter (fun l => s.loopRole l == 1 && s.par 0x2101 l == c)
  !ls.isEmpty && ls.all (fun l => (s.loop l).running)

/-- A hoist sample of the plausibility model; `tau` is the set-point of the sample before. -/
def plausSample (s : State) (c hz : Nat) (tau w : Int) : State :=
  let v := s.carSpeed c
  let eligible := s.hoistLoopsRun c && !s.standstill c && s.speedValid c && decide (v.natAbs ≥ 50000)
  if s.par 0x2020 c != 1 then s
  else if !eligible then s.modPlaus c (fun p => { p with window := [], anomaly := false })
  else
    let ap := predictAcc s c tau w v
    let len := max 1 (s.parN 0x2028 c * hz / 1000)
    let win := ((s.carAcc c - ap, ap) :: (s.plaus c).window).take len
    let n : Int := win.length
    let mr := fdiv (win.foldl (fun a e => a + e.1) 0) n
    let ma := fdiv (win.foldl (fun a e => a + e.2) 0) n
    let limit := (s.par 0x2026 c + s.par 0x2027 c * ma.natAbs / 100).toNat
    let bad := win.length == len && decide (mr.natAbs > limit)
    let first := bad && !(s.plaus c).recorded
    let s := s.modPlaus c (fun p =>
      { p with window := win, anomaly := bad, recorded := p.recorded || bad, limit := limit, mean := mr })
    if first then raise s { code := 0x2301, sev := 1, inst := c, car := some c } else s

/-- PERSISTENT_ANOMALY: the anomaly lasted `plaus_persist`. -/
def execPersistentAnomaly (car : Fin 8) (s : State) : Host.Outcome State Fault Refusal :=
  .next (if s.running && (s.plaus car).anomaly then
    raise s { code := 0x2302, sev := 2, inst := car, car := some (car : Nat) } else s)

/-! ### Lanes (R90, R91) -/

/-- Lanes that proving left usable. -/
def State.usableLanes (s : State) : List Nat := (List.range 4).filter (fun n => !bitAt s.proving.lanesLost n)

/-- Every pair of loops in use of which one reads the other. -/
def chainLinks (v : Staged) (used : List Nat) : List (Nat × Nat) :=
  (used.map (fun l => (loopReads v l).map (fun r => (l, r)))).flatten

/-- Two chains that share a loop are one, named by its first loop. -/
def joinChains (heads : List (Nat × Nat)) (e : Nat × Nat) : List (Nat × Nat) :=
  let a := tget id heads e.1
  let b := tget id heads e.2
  heads.map (fun h => if h.2 == a || h.2 == b then (h.1, min a b) else h)

/-- Each loop in use with the first loop of its chain. -/
def chainHeads (v : Staged) : List (Nat × Nat) :=
  let used := (List.range 64).filter (fun l => v 0x2100 l != 0)
  (chainLinks v used).foldl joinChains (used.map (fun l => (l, l)))

/-- Frames 0 to 7 in which a loop runs. -/
def runsIn (v : Staged) (l f : Nat) : Bool := f % loopPeriod v l == loopPhase v l

/-- Section evaluations a lane has in frame `f`, from loops already placed. -/
def laneLoad (v : Staged) (placed : List (Nat × Nat)) (lane f : Nat) : Nat :=
  placed.foldl (fun a p => if p.2 == lane && runsIn v p.1 f then a + (v 0x2105 p.1).toNat else a) 0

/-- The chains of `heads` (loop, first loop) join those already placed on lanes, as (loop, lane). -/
def placeUnits (v : Staged) (lanes : List Nat) (heads placed : List (Nat × Nat)) : List (Nat × Nat) :=
  heads.foldl (fun placed e =>
    let l := e.1
    if e.2 != l then placed
    else
      let fs := (List.range 8).filter (runsIn v l)
      let cost := fun lane => fs.foldl (fun a f => a + laneLoad v placed lane f) 0
      match lanes with
      | [] => placed
      | first :: rest =>
        let lane := rest.foldl (fun b x => if cost x < cost b then x else b) first
        placed ++ (heads.filter (fun h => h.2 == l)).map (fun h => (h.1, lane))) placed

/-- The allocation of every loop in use. -/
def allocate (v : Staged) (lanes : List Nat) : List (Nat × Nat) := placeUnits v lanes (chainHeads v) []

/-- R91: sections per second of the loops in use, and whether a lane exceeds 256 sections in a frame. -/
def totalRate (v : Staged) : Nat :=
  ((List.range 64).filter (fun l => v 0x2100 l != 0)).foldl (fun a l => a + (v 0x2105 l).toNat * loopHz v l) 0
def overcrowded (v : Staged) (lanes : List Nat) (placed : List (Nat × Nat)) : Bool :=
  lanes.any (fun lane => (List.range 8).any (fun f => laneLoad v placed lane f > 256))

/-- R297: the chains of the cars that lose lane `n` move to the remaining lanes, where R91 is met. -/
def moveFromLane (s : State) (n : Nat) : State :=
  let heads := chainHeads s.par
  let here := heads.filter (fun h => s.laneOf h.1 == n)
  let moved := heads.filter (fun h => here.any (fun x => x.2 == h.2 && (s.loopCar x.1).isSome))
  let rest := s.params.lanes.filter (fun p => !moved.any (fun h => h.1 == p.1))
  let placed := placeUnits s.par s.usableLanes moved rest
  if totalRate s.par ≤ 10000000 * s.usableLanes.length && !overcrowded s.par s.usableLanes placed then
    { s with params := { s.params with lanes := placed } }
  else s

/-- Loop lane `n` is lost in service (R297): car trips of the cars with a loop on it. -/
def loseLane (s : State) (n code : Nat) : State :=
  let cars := cars8.filter (fun c => (List.range 64).any (fun l => s.laneOf l == n && s.loopCar l == some c))
  moveFromLane (forEach cars (fun s c => carTrip (carReact s c 3) c code n) s) n

/-- The allocation is made anew: at a commit and at configuration load (R90). -/
def reallocate (s : State) : State :=
  { s with params := { s.params with lanes := allocate s.par s.usableLanes } }

/-! ### What a commit checks (R85, R91, Table 05.15) -/

def loopRules (s : State) (v : Staged) : Refused :=
  let all := List.range 64
  let used := all.filter (fun l => v 0x2100 l != 0)
  let dup := fun l => all.any (fun k => k < l && v 0x210A k == v 0x210A l)
  (all.map (fun l =>
    let dst := (v 0x210A l).toNat
    let ours := v 0x2100 l == 1 && v 0x2101 l == (dst % 256 : Nat)
    failIf (v 0x2103 l != 0xFF && decide ((v 0x2103 l).toNat ≥ loopPeriod v l)) 0x2103 l stRange
    ++ failIf (decide (v 0x210D l > v 0x210B l)) 0x210D l stRange
    ++ failIf (dst / 256 == 1 && !ours) 0x210A l stBadParam
    ++ failIf (dst / 256 == 1 && v 0x210F l != 32768) 0x210F l stBadParam
    ++ failIf (dst / 256 == 1 && v 0x1100 (dst % 256) != 0xFF && dup l) 0x210A l stBadParam
    ++ failIf (2 ≤ dst / 256 && dup l) 0x210A l stBadParam)).flatten
  ++ (used.map (fun l =>
    let own := v 0x2101 l
    failIf (v 0x2100 l == 1 && own > 7 || v 0x2100 l == 2 && own > 15 || v 0x2100 l == 3 && own != 0xFF) 0x2101 l stRange
    ++ failIf ((loopReads v l).any (fun r => v 0x2100 r == 0 || loopPeriod v r != loopPeriod v l
        || loopPhase v r != loopPhase v l)) 0x2107 l stBadParam
    ++ failIf (decide (chainDepth v 4 l > 4)) 0x2107 l stBadParam)).flatten
  ++ eachInst 8 (fun c =>
    failIf (v 0x1100 c != 0xFF && !(used.any (fun l => v 0x210A l == (0x100 + c : Nat)))) 0x210A c stBadParam)
  ++ failIf (decide (totalRate v > 10000000 * s.usableLanes.length)) 0x2105 0 stRange
  ++ failIf (overcrowded v s.usableLanes (allocate v s.usableLanes)) 0x2105 0 stRange

/-- The car's hoist loops, a door's loops or an auxiliary loop are off or held. -/
def State.loopHeld (s : State) (l : Nat) : Bool := !(s.loop l).running
def State.hoistLoopsHeld (s : State) (c : Nat) : Bool :=
  (List.range 64).all (fun l => !(s.loopRole l == 1 && s.par 0x2101 l == c) || s.loopHeld l)

/-- A commit that changes a loop: sections are kept or pass through, the staged bank follows, injections on
it end (R99), a capture it times is aborted (R100). -/
def loopCommitted (s : State) (l : Nat) (sectionsChanged : Bool) : State :=
  let s := endInjOn s 6 (fun k => k == l)
  let s := if s.cap.trigLoop == l && (s.cap.state == 1 || s.cap.state == 2) then endCapture s 4 else s
  if sectionsChanged then
    let n := s.loopSections l
    s.modLoop l (fun k =>
      let b := { k.active with secs := k.active.secs.take n }
      { k with active := b, staged := b, secs := [] })
  else s

/-! ### Host requests (R103) -/

/-- Keys 0x2100 to 0x2110 of a loop as `PARAM_WRITE` entries. -/
def cfgEntries (l : Nat) (c : LoopCfg) : List (Nat × Nat × Nat) :=
  [(0x2100, l, c.role.toNat), (0x2101, l, c.owner.toNat), (0x2102, l, c.rate.toNat), (0x2103, l, c.phase.toNat),
   (0x2104, l, c.format.toNat), (0x2105, l, c.sections.toNat), (0x2106, l, c.awMode.toNat),
   (0x2107, l, c.refSrc.toNat), (0x2108, l, c.fbSrc.toNat), (0x2109, l, c.ffSrc.toNat), (0x210A, l, c.outDst.toNat),
   (0x210B, l, c.errFs.toNat), (0x210C, l, c.errWrap.toNat), (0x210D, l, c.deadband.toNat), (0x210E, l, c.ffFs.toNat),
   (0x210F, l, c.outFs.toNat), (0x2110, l, c.shadowTol.toNat)]

def actLoopConfigWrite (h : Hdr) (rsv : Bool) (cfg : LoopCfg) (s : State) : State :=
  serve s h { op := 0x30, insts := 64, len := 4, lenOk := h.len == 40, checks := [(rsv, stBadParam)], mirrored := true }
    (fun s => let (s', st, _) := stageEntries s (cfgEntries h.inst.toNat cfg); (s', refusal 4 st))

def execLoopConfigWrite (h : Hdr) (rsv : Bool) (cfg : LoopCfg) (s : State) : Host.Outcome State Fault Refusal :=
  hostRow s (.loopConfigWrite h rsv cfg) h 0x30 4 (actLoopConfigWrite h rsv cfg)

/-- A wire section as coefficients. -/
def secOf (w : SecWire) : Sec :=
  { b0 := w.b0.toInt, b1 := w.b1.toInt, b2 := w.b2.toInt, a1 := w.a1.toInt, a2 := w.a2.toInt
    cshift := w.cshift.toNat, aw := w.flags.getLsbD 0 }

/-- R92: poles outside the unit circle. -/
def unstable (c : Sec) : Bool :=
  decide (((c.a2 * 2 ^ c.cshift).natAbs : Int) > 32768)
    || decide (((c.a1 * 2 ^ c.cshift).natAbs : Int) > 32768 + c.a2 * 2 ^ c.cshift)

def zeroSec (w : SecWire) : Bool :=
  w.b0 == 0 && w.b1 == 0 && w.b2 == 0 && w.a1 == 0 && w.a2 == 0 && w.cshift == 0 && w.flags == 0

/-- Staging a bank (R92). -/
def stageBank (s : State) (l n : Nat) (uMin uMax slew ffGain : U16) (secs : List Sec) : State × Bytes :=
  let pending := match s.loops.swap with | some w => bitAt w.left l | none => false
  if pending then (s, refusal 4 stBusy)
  else if n != s.loopSections l then (s, refusal 4 stBadParam)
  else if uMin.toInt ≥ uMax.toInt || secs.any unstable then (s, refusal 4 stRange)
  else
    let seq := ((s.loop l).stageSeq + 1) % 65536
    let b : Bank := { secs := secs, uMin := uMin.toInt, uMax := uMax.toInt, slew := slew.toNat
                      ffGain := ffGain.toInt, seq := seq }
    (s.modLoop l (fun k => { k with staged := b, stageSeq := seq }), le 1 stOk ++ le 1 0 ++ le 2 seq)

def actLoopCoeffStage (h : Hdr) (rsv : Bool) (nSections : U8) (uMin uMax slew ffGain : U16)
    (sections : List SecWire) (s : State) : State :=
  let n := nSections.toNat
  serve s h { op := 0x31, insts := 64, len := 4, lenOk := h.len == 204, mirrored := true
              checks := [(rsv || (sections.take n).any (fun w => w.flags.toNat > 1)
                  || !((sections.drop n).all zeroSec), stBadParam),
                (n == 0 || n > 16 || (sections.take n).any (fun w => w.cshift.toNat > 3), stRange)] }
    (fun s => stageBank s h.inst.toNat n uMin uMax slew ffGain ((sections.take n).map secOf))

def execLoopCoeffStage (h : Hdr) (rsv : Bool) (nSections : U8) (uMin uMax slew ffGain : U16)
    (sections : List SecWire) (s : State) : Host.Outcome State Fault Refusal :=
  let i := Instr.loopCoeffStage h rsv nSections uMin uMax slew ffGain sections
  if i.wellFormed then
    hostRow s i h 0x31 4 (actLoopCoeffStage h rsv nSections uMin uMax slew ffGain sections)
  else .fault .illFormed

/-- A swap request is accepted: it takes effect from the next epoch boundary, and its reply waits until every
loop has swapped (R93, R95). BUSY during a hand-over (R273) and, in reset mode, with a loop running. -/
def startSwap (s : State) (h : Hdr) (mask : Nat) (isReset : Bool) : State :=
  let running := (List.range 64).any (fun l => bitAt mask l && (s.loop l).running)
  if s.pair.hand != 0 || s.loops.swap.isSome || (isReset && running) then answer s h 0x32 false (refusal 16 stBusy)
  else
    { s with loops := { s.loops with
        swap := some { hdr := some h, mask := mask, left := mask, isReset := isReset, epoch := s.epoch + 1, armed := false } } }

def actLoopCoeffSwap (h : Hdr) (rsv : Bool) (mask : U64) (s : State) : State :=
  match gate s h { op := 0x32, insts := 1, len := 16, lenOk := h.len == 12, checks := [(rsv, stBadParam)] } with
  | some p => answer s h 0x32 false p
  | none => startSwap s h mask.toNat false

def execLoopCoeffSwap (h : Hdr) (rsv : Bool) (mask : U64) (s : State) : Host.Outcome State Fault Refusal :=
  hostRow s (.loopCoeffSwap h rsv mask) h 0x32 16 (actLoopCoeffSwap h rsv mask)

def actLoopCoeffSwapReset (h : Hdr) (rsv : Bool) (mask : U64) (s : State) : State :=
  match gate s h { op := 0x32, insts := 1, len := 16, lenOk := h.len == 12, checks := [(rsv, stBadParam)] } with
  | some p => answer s h 0x32 false p
  | none => startSwap s h mask.toNat true

def execLoopCoeffSwapReset (h : Hdr) (rsv : Bool) (mask : U64) (s : State) : Host.Outcome State Fault Refusal :=
  hostRow s (.loopCoeffSwapReset h rsv mask) h 0x32 16 (actLoopCoeffSwapReset h rsv mask)

/-- At an epoch boundary an accepted swap is committed; a loop that is off has no sample and takes its bank
there. -/
def swapBoundary (s : State) : State :=
  match s.loops.swap with
  | some w =>
    if w.armed then s
    else
      let s := { s with loops := { s.loops with swap := some { w with armed := true, epoch := s.epoch } } }
      forEach (List.range 64) (fun s l => if s.loopRole l == 0 then swapAt s l else s) s
  | none => s

/-- Every loop has swapped: event 0x2110 or 0x2111 and the reply. -/
def swapDone (s : State) : State :=
  match s.loops.swap with
  | some w =>
    if w.armed && w.left == 0 then
      let s := { s with loops := { s.loops with swap := none } }
      let s := if w.told then s else event s (if w.isReset then 0x2111 else 0x2110) (le 8 w.mask ++ le 4 w.epoch)
      match w.hdr with
      | some h => answer s h 0x32 true (le 1 stOk ++ zeros 3 ++ le 4 w.epoch ++ le 8 w.mask)
      | none => s
    else s
  | none => s

/-- Frame of the loop's first sample after this one. -/
def nextSample (s : State) (l : Nat) : Nat :=
  let p := loopPeriod s.par l
  s.frame + 1 + (loopPhase s.par l + 8 - (s.frame + 1) % p) % p

/-- A learning run or a brake test runs on a car. -/
def State.testing (s : State) (c : Nat) : Bool := (s.hoist c).learn.state == 1 || (s.hoist c).bt.state == 1

def startInj (s : State) (l : Nat) (k : InjSlot) (slot : Nat) : State × Bytes :=
  let test := match s.loopCar l with | some c => s.testing c | none => false
  if !s.injAllowed l then (s, refusal 12 stWrongMode)
  else if s.loopHeld l || (s.inj slot).busy || test then (s, refusal 12 stBusy)
  else
    let s := s.latch' .nextInject none
    let f := nextSample s l
    let k := { k with busy := true, loop := l, startFrame := f, maxS := s.parN 0x2003 0
                      lfsr := if k.signal == 0 then 2 ^ k.p1 - 1 else 0 }
    let s := event (s.modInj slot (fun _ => k)) 0x2120 (le 1 slot) l
    (s, le 1 stOk ++ le 1 slot ++ le 2 0 ++ le 4 f ++ le 4 (injLength k (loopHz s.par l)))

def actInjectStart (h : Hdr) (rsv : Bool) (slot signal node : U8) (amplitude : U16) (p1 p2 p3 p4 : U32)
    (s : State) : State :=
  let quarter := loopHz s.par h.inst.toNat * 250
  let freq := fun f : U32 => f.toNat < 100 || f.toNat > quarter
  let sg := signal.toNat
  serve s h { op := 0x33, insts := 64, len := 12, lenOk := h.len == 24
              checks := [(rsv || sg > 3 || (sg == 3 && p3 != 0) || ((sg == 0 || sg == 3) && p4 != 0)
                  || (sg == 2 && p4.toNat > 1), stBadParam),
                (slot.toNat > 3 || node.toNat > 19 || (sg != 3 && amplitude.toInt ≤ 0)
                  || (sg == 0 && (p1.toNat < 7 || p1.toNat > 15 || p2.toNat < 1 || p2.toNat > 64))
                  || ((sg == 1 || sg == 2) && (freq p1 || freq p2))
                  || (sg == 1 && (p3.toNat < 2 || p3.toNat > 256 || p4.toNat / 65536 < 1 || p4.toNat / 65536 > 1000
                    || p4.toNat % 65536 < 1 || p4.toNat % 65536 > 1000)), stRange)] }
    (fun s => startInj s h.inst.toNat
      { signal := sg, node := node.toNat, amp := amplitude.toInt, p1 := p1.toNat, p2 := p2.toNat, p3 := p3.toNat
        p4 := p4.toNat } slot.toNat)

def execInjectStart (h : Hdr) (rsv : Bool) (slot signal node : U8) (amplitude : U16) (p1 p2 p3 p4 : U32)
    (s : State) : Host.Outcome State Fault Refusal :=
  hostRow s (.injectStart h rsv slot signal node amplitude p1 p2 p3 p4) h 0x33 12
    (actInjectStart h rsv slot signal node amplitude p1 p2 p3 p4)

def actInjectStop (h : Hdr) (rsv : Bool) (slotMask : U8) (s : State) : State :=
  serve s h { op := 0x34, insts := 1, len := 4, lenOk := h.len == 4, checks := [(rsv || slotMask.toNat > 15, stBadParam)] }
    (fun s =>
      let m := maskOf 4 (fun n => slotMask.getLsbD n && (s.inj n).busy)
      (forEach (List.range 4) (fun s n => if bitAt m n then endInj s n 0 else s) s,
        le 1 stOk ++ le 1 m ++ le 2 0))

def execInjectStop (h : Hdr) (rsv : Bool) (slotMask : U8) (s : State) : Host.Outcome State Fault Refusal :=
  hostRow s (.injectStop h rsv slotMask) h 0x34 4 (actInjectStop h rsv slotMask)

def armCapture (s : State) (c : Capture) : State × Bytes :=
  if s.proving.noCapture then (s, refusal 8 stFull)
  else
    let s := if s.cap.state == 1 || s.cap.state == 2 then endCapture s 4 else s
    (s.modCap (fun _ => { c with state := 1, armFrame := s.frame }), le 1 stOk ++ le 1 1 ++ le 2 0 ++ le 4 s.frame)

def actCaptureArm (h : Hdr) (rsv : Bool) (trigLoop trigger trigArg decimation : U8) (nodes : List U16)
    (depth pretrigger level timeoutMs : U32) (s : State) : State :=
  let ns := nodes.map (fun n => (n.toNat / 256, n.toNat % 256))
  serve s h { op := 0x35, insts := 1, len := 8, lenOk := h.len == 28
              checks := [(rsv || trigger.toNat > 3 || (trigger == 0 && trigArg != 0) || (trigger.toNat < 2 && level != 0), stBadParam),
                (trigLoop.toNat > 63 || trigArg.toNat > 3 || decimation == 0
                  || ns.any (fun n => n.1 > 63 || n.2 > 23)
                  || depth == 0 || depth.toNat > 65536 || pretrigger.toNat ≥ depth.toNat, stRange)] }
    (fun s => armCapture s
      { trigLoop := trigLoop.toNat, trigger := trigger.toNat, trigArg := trigArg.toNat, decim := decimation.toNat
        nodes := ns, depth := depth.toNat, pretrigger := pretrigger.toNat, level := level.toInt
        timeoutMs := timeoutMs.toNat })

def execCaptureArm (h : Hdr) (rsv : Bool) (trigLoop trigger trigArg decimation : U8) (nodes : List U16)
    (depth pretrigger level timeoutMs : U32) (s : State) : Host.Outcome State Fault Refusal :=
  let i := Instr.captureArm h rsv trigLoop trigger trigArg decimation nodes depth pretrigger level timeoutMs
  if i.wellFormed then
    hostRow s i h 0x35 8 (actCaptureArm h rsv trigLoop trigger trigArg decimation nodes depth pretrigger level timeoutMs)
  else .fault .illFormed

def captureData (s : State) (channel first count : Nat) : Bytes :=
  let c := s.cap
  if first + count > c.samples.length then refusal 16 stRange
  else
    let xs := (c.samples.reverse.drop first).take count
    le 1 stOk ++ le 1 c.state ++ le 1 channel ++ le 1 0 ++ le 4 first ++ le 2 count ++ le 2 0 ++ le 4 c.trigIndex
      ++ (xs.map (fun r => leI 4 (r.getD channel 0))).flatten

def actCaptureRead (h : Hdr) (rsv : Bool) (channel : U8) (first : U32) (count : U16) (s : State) : State :=
  serve s h { op := 0x36, insts := 1, len := 16, lenOk := h.len == 12
              checks := [(rsv, stBadParam), (channel.toNat > 3 || count == 0 || count.toNat > 1016, stRange)] }
    (fun s => (s, captureData s channel.toNat first.toNat count.toNat))

def execCaptureRead (h : Hdr) (rsv : Bool) (channel : U8) (first : U32) (count : U16) (s : State) :
    Host.Outcome State Fault Refusal :=
  hostRow s (.captureRead h rsv channel first count) h 0x36 16 (actCaptureRead h rsv channel first count)

/-- The largest difference of R102 in the last second. (log entry 41: DEDUCED) -/
def shadowMax (s : State) (k : Loop) : Nat :=
  (k.shadowDiffs.filter (fun e => s.frame < e.1 + 32000)).foldl (fun m e => max m e.2) 0

/-- `LOOP_STATUS` reply (Table 05.14). -/
def loopStatusReply (s : State) (l : Nat) : Bytes :=
  let k := s.loop l
  let role := s.loopRole l
  let car := s.loopCar l
  let pl : Plaus := match car with | some c => s.plaus c | none => {}
  let exps := if s.isBfp l then k.secs.map (·.exp) else []
  let swapping := match s.loops.swap with | some w => bitAt w.left l | none => false
  le 1 stOk ++ le 1 (if role == 0 then 0 else if k.running then 2 else 1) ++ le 1 (s.laneOf l)
    ++ le 1 (match loopPeriod s.par l with | 8 => 0 | 4 => 1 | 2 => 2 | _ => 3)
    ++ le 2 (b2n k.aw + 2 * b2n k.slewing + 4 * b2n (!(s.slotsOf l).isEmpty) + 8 * b2n swapping
      + 16 * b2n (s.isBfp l) + 32 * b2n pl.anomaly)
    ++ le 1 (s.loopSections l) ++ le 1 (loopPhase s.par l) ++ le 2 k.active.seq ++ le 2 k.staged.seq
    ++ leI 2 k.u ++ leI 2 k.e ++ le 4 k.satCount ++ le 4 k.awSamples ++ le 4 k.lastSwapEpoch
    ++ leI 1 (exps.foldl min (exps.headD 0)) ++ leI 1 (exps.foldl max (exps.headD 0))
    ++ le 2 (if s.mode == .shadow then (shadowMax s k) else 0)
    ++ leI 4 (if role == 1 then pl.mean else 0) ++ le 4 (if role == 1 then pl.limit else 0)

def actLoopStatus (h : Hdr) (rsv : Bool) (s : State) : State :=
  serve s h { op := 0x37, insts := 64, len := 40, lenOk := h.len == 0, checks := [(rsv, stBadParam)] }
    (fun s => (s, loopStatusReply s h.inst.toNat))

def execLoopStatus (h : Hdr) (rsv : Bool) (s : State) : Host.Outcome State Fault Refusal :=
  hostRow s (.loopStatus h rsv) h 0x37 40 (actLoopStatus h rsv)

end Sys2Proof.Machine
end

