-- ==== Sys2Proof/Machine/Planner.lean ====
section
/-! DEFINITION. The hoist and door planners (R105 to R109, R117, R136, R137), exact over rationals. Units are
µm and s. Corners that would be irrational are rounded down to whole µm/s or µm/s² and held there until
the speed or the distance is exact. -/

namespace Sys2Proof.Machine

/-- Position, speed, acceleration along the direction of travel. -/
structure Kin where
  x : Rat
  v : Rat
  a : Rat
  deriving DecidableEq, Repr

/-- After `t` seconds at jerk `j`. -/
def Kin.after (k : Kin) (t j : Rat) : Kin :=
  { x := k.x + k.v * t + k.a * t * t / 2 + j * t * t * t / 6
    v := k.v + k.a * t + j * t * t / 2
    a := k.a + j * t }

/-- The state at time `t` of a list of stretches; beyond the end it stands at its end state. -/
def evalRuns : Kin → List Stretch → Rat → Kin
  | k, [], _ => k
  | k, r :: rs, t => if t ≤ r.dur then k.after t r.jerk else evalRuns (k.after r.dur r.jerk) rs (t - r.dur)

/-- The state at the end, and the total time. -/
def endRuns (k : Kin) (rs : List Stretch) : Kin := rs.foldl (fun k r => k.after r.dur r.jerk) k
def runsTime (rs : List Stretch) : Rat := rs.foldl (fun t r => t + r.dur) 0
/-- Distance covered from speed `v` and acceleration `a`. -/
def runsDist (v a : Rat) (rs : List Stretch) : Rat := (endRuns ⟨0, v, a⟩ rs).x

/-- Square root rounded down to an integer. (log entry 42: DESIGN CHOICE) -/
def sqrtFloor (x : Rat) : Nat := isqrt x.floor.toNat

/-- The acceleration goes from `a` to `b` at jerk `j`. -/
def rampTo (j a b : Rat) : List Stretch :=
  if a == b then [] else [{ dur := (if a < b then b - a else a - b) / j, jerk := if a < b then j else -j }]

/-- Acceleration `a` is held until the speed has changed by `dv`. -/
def holdFor (a dv : Rat) : List Stretch := if a == 0 || dv ≤ 0 then [] else [{ dur := dv / a, jerk := 0 }]

/-- From acceleration `a` ≥ 0, gain speed `dv` and end at acceleration 0, with the acceleration at most `amax` once it has
come down to it: up to where the acceleration begins to fall to 0, and that fall. (log entry 42: DESIGN CHOICE) -/
def trapParts (j a amax dv : Rat) : List Stretch × List Stretch :=
  let peak : Rat := if amax < a then amax
    else min amax (max a (sqrtFloor (j * dv + a * a / 2) : Int))
  let used := (peak * peak - a * a) / (2 * j) * (if amax < a then -1 else 1) + peak * peak / (2 * j)
  (rampTo j a peak ++ holdFor peak (dv - used), rampTo j peak 0)
def trapFrom (j a amax dv : Rat) : List Stretch := let r := trapParts j a amax dv; r.1 ++ r.2

/-- Limits of a rise: breakpoint, accelerations below and above it, jerk. -/
structure Shape where
  vb : Rat
  a1 : Rat
  a2 : Rat
  j : Rat
  deriving DecidableEq, Repr

/-- S1 and S2, then S3 to S5, from speed `v` and acceleration `a` ≥ 0 up to `vp` (R105, R106). -/
def riseParts (p : Shape) (v a vp : Rat) : List Stretch × List Stretch :=
  if vp ≤ v then ([], [])
  else if p.vb == 0 then trapParts p.j a p.a1 (vp - v)
  else if p.vb ≤ v then ([], trapFrom p.j a p.a2 (vp - v))
  else
    let ab := min p.a1 (sqrtFloor (2 * p.j * (p.vb - v) + a * a) : Int)
    if ab < a || vp ≤ p.vb + ab * ab / (2 * p.j) then trapParts p.j a (max a ab) (vp - v)
    else
      (rampTo p.j a ab ++ holdFor ab (p.vb - v - (ab * ab - a * a) / (2 * p.j)), trapFrom p.j ab p.a2 (vp - p.vb))
def riseRuns (p : Shape) (v a vp : Rat) : List Stretch := let r := riseParts p v a vp; r.1 ++ r.2

/-- S7 to S11 from `vp` to `v`: the time mirror of the rise from `v` to `vp` (R105). -/
def fallRuns (p : Shape) (vp v : Rat) : List Stretch := (riseRuns p v 0 vp).reverse

/-- The acceleration `a` is brought to 0 at jerk `j`, with the speed then. A final stop that is too far on for this runs to
its end. (log entry 43: DEDUCED) -/
def settle0 (j v a : Rat) : List Stretch × Rat :=
  if 0 ≤ a then (rampTo j a 0, v + a * a / (2 * j))
  else if a * a ≤ 2 * j * v then (rampTo j a 0, v - a * a / (2 * j))
  else if v ≤ 0 then ([], 0)
  else ([{ dur := 2 * v / -a, jerk := a * a / (2 * v) }], 0)

/-- A fall from acceleration 0 taken up at the time `t` into its first part, at falling acceleration. -/
def dropFall : List Stretch → Rat → Option (List Stretch)
  | [], _ => none
  | r :: rs, t => if 0 ≤ r.jerk then none else if t ≤ r.dur then some ({ r with dur := r.dur - t } :: rs) else dropFall rs (t - r.dur)

/-- From speed `v` and acceleration `a` to the steady speed `vp`, rising by `up`, falling by `dn` (R108). -/
def toSpeed (up dn : Shape) (v a vp : Rat) : List Stretch :=
  let (zero, vz) := settle0 up.j v a
  if 0 ≤ a then
    if vz ≤ vp then riseRuns up v a vp else zero ++ fallRuns dn vz vp
  else if vz ≤ vp then zero ++ riseRuns up vz 0 vp
  -- the mirror of a rise that ends at speed v with slope -a: the fall goes on from there
  else (dropFall (fallRuns dn (v + a * a / (2 * dn.j)) vp) (-a / dn.j)).getD (zero ++ fallRuns dn vz vp)

/-- The final stop S13 from `v` at jerk `jl` at most: its stretches and the distance (R105). The time of a half is rounded
up to whole µs where it is irrational. (log entry 43: DEDUCED) -/
def finalStop (v jl : Rat) : List Stretch × Rat :=
  if v ≤ 0 then ([], 0)
  else
    let sq := v / jl * 1000000000000
    let us := isqrt sq.floor.toNat
    let th : Rat := ((if ((us * us : Nat) : Int) == sq then us else us + 1 : Nat) : Int) / 1000000
    let jj := v / (th * th)
    ([{ dur := th, jerk := -jj }, { dur := th, jerk := jj }], v * th)

/-- The keys of a hoist profile (Table 06.6). -/
structure ProfKeys where
  up : Shape
  dn : Shape
  vStart : Rat
  vStop : Rat
  creep : Rat
  jLev : Rat
  deriving DecidableEq, Repr

/-- The stretches of a profile: up to `vp`, cruise, S7 to S9, S10 and S11, S12, S13. -/
structure Fit where
  first : List Stretch
  cruise : List Stretch
  high : List Stretch
  low : List Stretch
  creep : List Stretch
  stop : List Stretch
  deriving DecidableEq, Repr

/-- A stretch of `d` at speed `v`. -/
def glide (v d : Rat) : List Stretch := if v ≤ 0 || d ≤ 0 then [] else [{ dur := d / v, jerk := 0 }]

/-- The distance of a profile without cruise from speed `v` and acceleration `a` with peak `vp`. -/
def profileDist (k : ProfKeys) (v a vp : Rat) : Rat :=
  runsDist v a (toSpeed k.up k.dn v a vp) + runsDist vp 0 (fallRuns k.dn vp k.vStop) + k.creep + (finalStop k.vStop k.jLev).2

/-- A profile with peak `vp` that covers `d`. -/
def fitProfile (k : ProfKeys) (v a vp d : Rat) : Fit :=
  let fall := riseParts k.dn k.vStop 0 vp
  { first := toSpeed k.up k.dn v a vp, cruise := glide vp (d - profileDist k v a vp), high := fall.2.reverse
    low := fall.1.reverse, creep := glide k.vStop k.creep, stop := (finalStop k.vStop k.jLev).1 }

/-- The largest number from `b` to below `b` + 2^n that fits, by bit trial. (log entry 42: DESIGN CHOICE) -/
def largestFit (fits : Nat → Bool) : Nat → Nat → Nat
  | 0, b => b
  | n + 1, b => if fits (b + 2 ^ n) then largestFit fits n (b + 2 ^ n) else largestFit fits n b

/-- The largest peak speed up to `lim` that covers `d` at most (R106), none where even v_stop is too much. Above the speed
`vz` at which the acceleration has come to 0 a higher peak needs a longer way. Below it the way grows with the peak up to some
speed and then shrinks towards `vz`, so that what fits is `lim` itself or lies on the growing side. -/
def topSpeed (k : ProfKeys) (v a lim d : Rat) : Option Rat :=
  let ok := fun (r : Rat) => decide (profileDist k v a r ≤ d)
  let vz := max k.vStop (settle0 k.up.j v a).2
  let below := fun (hi : Rat) =>
    let m : Rat := (largestFit (fun n => decide (((n : Nat) : Int) ≤ hi) && ok ((n : Nat) : Int)) 25 k.vStop.floor.toNat : Int)
    if ok k.vStop then some (max m k.vStop) else none
  if vz ≤ lim then
    if ok vz then
      let m : Rat := (largestFit (fun n => decide (((n : Nat) : Int) ≤ lim) && ok ((n : Nat) : Int)) 25 vz.floor.toNat : Int)
      some (max m vz)
    else below vz
  else if ok lim then some lim
  else below lim

/-- A plan over `d` > 0 from (v, a) with speed limit `vmax`, starting at `x0` along `dir` towards `target`; `fresh` is a start
from standstill, which steps to v_start at most. Under a limit below v_stop the car creeps at the limit. A trip too short for the creep distance and the final stop from v_stop runs with
both shortened, v_start with them; a moving car's creep takes what is left. (log entry 42: DESIGN CHOICE) -/
def planTrip (k : ProfKeys) (fresh : Bool) (x0 : Rat) (dir : Int) (v a vmax d : Rat) (target : Int) : Plan :=
  let lim := max 1 vmax
  let k := if lim < k.vStop then { k with vStop := lim, vStart := min k.vStart lim } else k
  let v := if fresh then k.vStart else v
  let mk := fun (k : ProfKeys) (v0 vp d : Rat) =>
    let f := fitProfile k v0 a vp d
    let t1 := runsTime (f.first ++ f.cruise ++ f.high)
    let t2 := t1 + runsTime f.low
    let t3 := t2 + runsTime f.creep
    { x0 := x0, v0 := v0, a0 := a, dir := dir, runs := f.first ++ f.cruise ++ f.high ++ f.low ++ f.creep ++ f.stop
      target := target, vPeak := vp.floor, s10At := t1, s12At := t2, s13At := t3, endAt := t3 + runsTime f.stop : Plan }
  match topSpeed k v a lim d with
  | some vp => mk k v vp d
  | none =>
    if fresh then
      let low := fun (vp : Nat) =>
        let r : Rat := ((vp : Nat) : Int)
        { k with vStop := min k.vStop r, vStart := min k.vStart r, creep := 0 }
      let slow := fun (vp : Nat) => min v ((vp : Nat) : Int)
      let vp := max 1 (largestFit (fun n => decide (((n : Nat) : Int) ≤ k.vStop)
        && decide (profileDist (low n) (slow n) a ((n : Nat) : Int) ≤ d)) 17 0)
      mk (low vp) (slow vp) ((vp : Nat) : Int) d
    else
      let k := { k with creep := 0 }
      mk k v k.vStop (max d (profileDist k v a k.vStop))

/-- The distance of R109 that a stop needs from (v, a). -/
def minStopDist (k : ProfKeys) (v a : Rat) : Rat :=
  let (zero, vz) := settle0 k.up.j v a
  let stop := min vz k.vStop
  runsDist v a zero + runsDist vz 0 (fallRuns k.dn vz stop) + k.creep + (finalStop stop k.jLev).2

/-- A controlled stop: acceleration to 0, then to standstill wherever the car is (R117). -/
def planStop (dn : Shape) (x0 : Rat) (dir : Int) (v a : Rat) : Plan :=
  let runs := toSpeed dn dn v a 0
  let t := runsTime runs
  { x0 := x0, v0 := v, a0 := a, dir := dir, runs := runs, target := (x0 + dir * runsDist v a runs).floor, vPeak := v.floor
    s10At := t, s12At := t, s13At := t, endAt := t }

/-- The reference at time `t` of a plan, in the car's coordinates. -/
def planAt (p : Plan) (t : Rat) : Kin :=
  let k := evalRuns ⟨0, p.v0, p.a0⟩ p.runs t
  { x := p.x0 + p.dir * k.x, v := p.dir * k.v, a := p.dir * k.a }

/-! ### Doors (R136): constant acceleration per stretch; `jerk` of a stretch is its acceleration -/

/-- State after `t` at acceleration `a`. -/
def doorAfter (x v t a : Rat) : Rat × Rat := (x + v * t + a * t * t / 2, v + a * t)

/-- Position, speed and acceleration at time `t`. -/
def evalDoor : Rat → Rat → List Stretch → Rat → Rat × Rat × Rat
  | x, v, [], _ => (x, v, 0)
  | x, v, r :: rs, t =>
    if t ≤ r.dur then let e := doorAfter x v t r.jerk; (e.1, e.2, r.jerk)
    else let e := doorAfter x v r.dur r.jerk; evalDoor e.1 e.2 rs (t - r.dur)

/-- Speed from `u` up to `v`: `a1` below `vb`, `a2` above. -/
def doorRise (vb a1 a2 u v : Rat) : List Stretch :=
  if v ≤ u then []
  else if v ≤ vb then [{ dur := (v - u) / a1, jerk := a1 }]
  else if vb ≤ u then [{ dur := (v - u) / a2, jerk := a2 }]
  else [{ dur := (vb - u) / a1, jerk := a1 }, { dur := (v - vb) / a2, jerk := a2 }]

/-- Speed from `v` down to `u`: d2 above vb, d1 below. -/
def doorFall (vb d1 d2 v u : Rat) : List Stretch :=
  ((doorRise vb d1 d2 u v).reverse).map (fun r => { r with jerk := -r.jerk })

/-- Distance of a list of stretches from speed `v`. -/
def doorDist (v : Rat) (rs : List Stretch) : Rat := (evalDoor 0 v rs (runsTime rs)).1

/-- The keys of a door profile. -/
structure DoorKeys where
  vStart : Rat
  vStop : Rat
  vb : Rat
  a1 : Rat
  a2 : Rat
  d1 : Rat
  d2 : Rat
  creep : Rat
  deriving DecidableEq, Repr

/-- A door plan over the distance `d` with speed limit `vmax`: a fresh one steps to v_start, another goes on from speed `v`.
Neither v_start nor v_stop passes the limit. Up to the lower of v_stop and the first speed, and from there to that speed, a
peak costs no distance that a lower one saves, so that the peaks that fit are those up to the largest. A door with less than
that distance left creeps over what is left; one that runs out of it while it slows down ends beyond its target.
(log entry 98: DESIGN CHOICE) -/
def planDoor (k : DoorKeys) (fresh : Bool) (x0 : Rat) (dir : Int) (v vmax d : Rat) (target : Int) (capped : Bool) : DPlan :=
  let lim : Rat := max 1 vmax.floor
  let vStop := min k.vStop lim
  let v := if fresh then min k.vStart lim else v
  let firstTo := fun (vp : Rat) => if v ≤ vp then doorRise k.vb k.a1 k.a2 v vp else doorFall k.vb k.d1 k.d2 v vp
  let fallFrom := fun (vp : Rat) => doorFall k.vb k.d1 k.d2 vp (min vStop vp)
  let used := fun (vp : Rat) => doorDist v (firstTo vp) + doorDist vp (fallFrom vp)
  let fits := fun (vp : Rat) => decide (vp ≤ lim) && decide (used vp + k.creep ≤ d)
  -- a start whose first speed is 0 has to rise from it
  let lo := if v ≤ 0 then min vStop 1 else min vStop v
  let make := fun (vp creep : Rat) =>
    let cruise := glide vp (d - used vp - creep)
    let slow := glide (min vStop vp) creep
    let t6 := runsTime (firstTo vp ++ cruise ++ fallFrom vp)
    { x0 := x0, v0 := v, dir := dir, runs := firstTo vp ++ cruise ++ fallFrom vp ++ slow
      target := if used vp ≤ d then target else (x0 + dir * used vp).floor
      vPeak := vp.floor, d6At := t6, endAt := t6 + runsTime slow, capped := capped : DPlan }
  if fits lo then
    let top : Rat := (largestFit (fun n => fits ((n : Nat) : Int)) 21 lo.floor.toNat : Int)
    make (max top lo) k.creep
  else if fresh then
    { x0 := x0, v0 := lo, dir := dir, runs := glide lo d, target := target, vPeak := lo.floor, d6At := 0
      endAt := runsTime (glide lo d), capped := capped }
  else make lo (max 0 (d - used lo))

/-- Deceleration to 0 at `dec` (R137). -/
def planDoorStop (x0 : Rat) (dir : Int) (v dec : Rat) : DPlan :=
  let runs : List Stretch := if v ≤ 0 then [] else [{ dur := v / dec, jerk := -dec }]
  { x0 := x0, v0 := v, dir := dir, runs := runs, target := (x0 + dir * doorDist v runs).floor, vPeak := v.floor
    d6At := runsTime runs, endAt := runsTime runs }

/-- Reference of a door plan at time `t` in door coordinates. -/
def doorAt (p : DPlan) (t : Rat) : Rat × Rat × Rat :=
  let (x, v, a) := evalDoor 0 p.v0 p.runs t
  (p.x0 + p.dir * x, p.dir * v, p.dir * a)

end Sys2Proof.Machine
end

