-- ==== Sys2Proof/Machine/Policy.lean ====
section
/-! DEFINITION. What the policy image in force says (R397, R409, Tables 08.2 and 17.14 to 17.18), and what the
safety inputs read (R197, R200, R201). -/

namespace Sys2Proof.Machine

/-! ### Policy tables -/

/-- Slots are keyed by type × 2 + slot; the active slot of a type, state 4. -/
def State.activeSlot (s : State) (type : Nat) : Option Nat :=
  (List.range 2).find? (fun n => (s.imgSlot (type * 2 + n)).state == 4)

/-- The body of the active policy image. -/
def State.policy (s : State) : Bytes :=
  match s.activeSlot 2 with
  | some n => (s.imgSlot (4 + n)).data.drop 160
  | none => []

/-- Directory entries of a policy body: id, revision, offset, length. -/
def policyDir (b : Bytes) : List (Nat × Nat × Nat × Nat) :=
  (List.range (rd b 0 2)).map (fun i =>
    let o := 4 + 12 * i
    (rd b o 2, rd b (o + 2) 2, rd b (o + 4) 4, rd b (o + 8) 4))

/-- The bytes of a table. -/
def policyTable (b : Bytes) (id : Nat) : Bytes :=
  match (policyDir b).find? (fun e => e.1 == id) with
  | some (_, _, o, n) => (b.drop o).take n
  | none => []

/-- `count` entries of `size` bytes from offset `o`. -/
def entriesOf (t : Bytes) (o size count : Nat) : List Bytes :=
  (List.range count).map (fun i => (t.drop (o + size * i)).take size)

/-- The weight record of a group. -/
def State.weight (s : State) (group field : Nat) : Nat :=
  rd (policyTable s.policy 1) (16 * group + 2 * field) 2

/-- The served-landings entry of a board-set car. -/
def State.servedEntry (s : State) (car : Nat) : Option Bytes :=
  let t := policyTable s.policy 2
  (entriesOf t 4 68 (rd t 0 2)).find? (fun e => rd e 0 1 == car)

/-- The policy marks landing `n` of board-set car `car` served on a side (0 front, 1 rear). -/
def State.policyServes (s : State) (car n side : Nat) : Bool :=
  match s.servedEntry car with
  | some e => n < 256 && bitAt (rd e (4 + 32 * side + n / 8) 1) (n % 8)
  | none => false

/-- The board-set number of a local car. -/
def State.boardCar (s : State) (c : Nat) : Nat := 8 * s.pairNo + c

/-- A landing's position, 0x7FFFFFFF when it is not served. -/
def State.landingPos (s : State) (c n : Nat) : Int := s.par (0x3300 + n) c
def unset : Int := 0x7FFFFFFF

/-- Local car `c` serves landing `n` on a side (R409). -/
def State.serves (s : State) (c n side : Nat) : Bool :=
  s.policyServes (s.boardCar c) n side && s.landingPos c n != unset

/-- The landings a local car serves on some side. -/
def State.landings (s : State) (c : Nat) : List Nat :=
  (List.range 256).filter (fun n => s.serves c n 0 || s.serves c n 1)

/-- Transfer entries (Table 17.15). -/
def State.transfersTbl (s : State) : List Bytes :=
  let t := policyTable s.policy 3
  entriesOf t 4 8 (rd t 0 2)

/-- Regime car entry and demand entries (Tables 17.16, 17.17). -/
def State.regimeCar (s : State) (car : Nat) : Option Bytes :=
  let t := policyTable s.policy 4
  (entriesOf t 4 8 (rd t 0 2)).find? (fun e => rd e 0 1 == car)
def State.demandEntries (s : State) : List Bytes :=
  let t := policyTable s.policy 4
  entriesOf t (4 + 8 * rd t 0 2) 8 (rd t 2 2)

/-- Door timing entry of a landing and side (Table 17.18). -/
def State.doorTiming (s : State) (group landing side : Nat) : Option Bytes :=
  let t := policyTable s.policy 5
  (entriesOf t 4 8 (rd t 0 2)).find? (fun e => rd e 0 1 == group && rd e 1 1 == landing && rd e 2 1 == side)

/-- The base dwell of a landing and side in ms. -/
def State.dwellBase (s : State) (group landing side : Nat) : Nat :=
  match s.doorTiming group landing side with
  | some e => if rd e 4 2 == 0xFFFF then s.weight group 4 else rd e 4 2
  | none => s.weight group 4

/-- Two directory entries overlap. -/
def overlap (a b : Nat × Nat × Nat × Nat) : Bool :=
  a.2.2.2 != 0 && b.2.2.2 != 0 && a.2.2.1 < b.2.2.1 + b.2.2.2 && b.2.2.1 < a.2.2.1 + a.2.2.2

/-- No element of a list stands in relation `r` with a later one. -/
def noPair {α : Type} (r : α → α → Bool) : List α → Bool
  | [] => true
  | x :: xs => !(xs.any (r x)) && noPair r xs

/-- The size each table's counts give. -/
def tableSize (id : Nat) (t : Bytes) : Nat :=
  match id with
  | 1 => 64
  | 2 => 4 + 68 * rd t 0 2
  | 4 => 4 + 8 * rd t 0 2 + 8 * rd t 2 2
  | _ => 4 + 8 * rd t 0 2

/-- The entries of a table keep their ranges (R409). -/
def tableValues (s : State) (id : Nat) (t : Bytes) : Bool :=
  match id with
  | 1 => (List.range 4).all (fun g => rd t (16 * g + 14) 2 == 0)
  | 2 =>
    let es := entriesOf t 4 68 (rd t 0 2)
    rd t 2 2 == 0 && es.all (fun e => rd e 0 1 < 32 && rd e 1 1 < 4 && rd e 2 2 == 0
      && (rd e 0 1 / 8 != s.pairNo || s.com 0x5001 (rd e 0 1 % 8) == (rd e 1 1 : Nat)))
    && noPair (fun a b => rd a 0 1 == rd b 0 1) es
    && cars8.all (fun c => s.com 0x5001 c == 0xFF || es.any (fun e => rd e 0 1 == s.boardCar c))
  | 3 => rd t 2 2 == 0 && (entriesOf t 4 8 (rd t 0 2)).all (fun e =>
      rd e 0 1 < 4 && rd e 1 1 < 4 && rd e 0 1 != rd e 1 1 && rd e 4 2 ≤ 60000 && rd e 7 1 == 0)
  | 4 =>
    (entriesOf t 4 8 (rd t 0 2)).all (fun e => rd e 0 1 < 32 && rd e 2 1 < 2 && rd e 3 1 < 8 && rd e 4 4 == 0)
    && (entriesOf t (4 + 8 * rd t 0 2) 8 (rd t 2 2)).all (fun e =>
      rd e 0 4 < 1048576 && [3, 4, 6, 0x81, 0x82, 0x83].contains (rd e 4 1) && rd e 5 1 < 2 && rd e 7 1 < 4
      && (if rd e 5 1 == 0 then rd e 6 1 < 4 && rd e 4 1 < 0x80 else rd e 6 1 < 32))
  | 5 => rd t 2 2 == 0 && (entriesOf t 4 8 (rd t 0 2)).all (fun e =>
      rd e 0 1 < 4 && rd e 2 1 < 2 && rd e 3 1 == 0 && rd e 6 2 ≤ 60000)
  | _ => true

/-- R397: a policy body that may be activated. -/
def policyOk (s : State) (b : Bytes) : Bool :=
  let d := policyDir b
  rd b 2 2 == 0 && 4 + 12 * rd b 0 2 ≤ b.length
    && d.all (fun e => 4 + 12 * rd b 0 2 ≤ e.2.2.1 && e.2.2.1 + e.2.2.2 ≤ b.length)
    && noPair overlap d && noPair (fun a b => a.1 == b.1) d
    && [1, 2, 4].all (fun id => d.any (fun e => e.1 == id))
    && d.all (fun e =>
      if 1 ≤ e.1 && e.1 ≤ 5 then
        let t := (b.drop e.2.2.1).take e.2.2.2
        e.2.1 == 1 && e.2.2.2 == tableSize e.1 t && tableValues s e.1 t
      else true)

/-! ### Safety inputs -/

def inputs96 : List Nat := List.range 96

/-- A channel's level indicates permissive (R197). -/
def State.indicates (s : State) (i ch : Nat) (level : Bool) : Bool :=
  if ch == 1 && s.sf 0x6103 i == 1 then !level else level

/-- What the channels of input `i` indicate in an island. -/
def State.chans (s : State) (isl : Island) (i : Nat) : Bool × Bool :=
  let q := s.safIn i
  match isl with
  | .a => (s.indicates i 0 q.aa.level, s.indicates i 1 q.ab.level)
  | .b => (s.indicates i 0 q.ba.level, s.indicates i 1 q.bb.level)

/-- An input that failed PROVING is unusable and stands at its safe value (R48). -/
def State.inputLost (s : State) (i : Nat) : Bool := s.proving.inputsLost.contains i

/-- Input `i` is permissive in an island: both channels, and no fault, chatter or failed proving holds it safe. -/
def State.permissive (s : State) (isl : Island) (i : Nat) : Bool :=
  let q := s.safIn i
  let (a, b) := s.chans isl i
  a && b && !q.held && !q.chatter && !s.inputLost i
/-- Log entry 61: DEDUCED. -/
def State.permBoth (s : State) (i : Nat) : Bool := s.permissive .a i && s.permissive .b i

/-- The inputs of a function assigned to a car. -/
def State.inputsOf (s : State) (fn c : Nat) : List Nat :=
  inputs96.filter (fun i => s.sf 0x6100 i == fn && s.sf 0x6101 i == c)
def State.inputsIdx (s : State) (fn c idx : Nat) : List Nat :=
  (s.inputsOf fn c).filter (fun i => s.sf 0x6102 i == idx)

/-- The number of the set in force, 0 with none. -/
def setNumber (s : State) : Nat := match s.saf.set with | some q => q.number | none => 0

/-- Side `side` of a car is closed and locked (R201). (log entry 61: DEDUCED) -/
def State.sideLocked (s : State) (c side : Nat) : Bool :=
  let d := s.inputsIdx 3 c side
  let l := s.inputsIdx 4 c side
  !d.isEmpty && !l.isEmpty && d.all s.permBoth && l.all s.permBoth
/-- Every side in `sf_sides` is closed and locked. -/
def State.sidesLocked (s : State) (c : Nat) : Bool :=
  (List.range 2).all (fun k => !bitAt (s.sfN 0x6002 c) k || s.sideLocked c k)
/-- The car is in its door zone, as both islands read it. -/
def State.inZone (s : State) (c : Nat) : Bool :=
  let z := s.inputsOf 5 c
  !z.isEmpty && z.all s.permBoth
/-- R202: the inspection switch is at its safe value in either island. -/
def State.inspection (s : State) (c : Nat) : Bool := (s.inputsOf 6 c).any (fun i => !s.permBoth i)

/-- R210: an enabled car whose final limits are unset. -/
def State.provisionalCar (s : State) (c : Nat) : Bool :=
  s.safEnabled c && (s.sf 0x6011 c == unset || s.sf 0x6012 c == unset)

/-- The speed limit in force of Table 09.3: the lowest whose condition holds (R203). -/
def State.safetyLimit (s : State) (c : Nat) : Nat :=
  let r := (s.dcar c).regime
  let k := s.carSaf c
  let add := fun (cond : Bool) (key v : Nat) => if cond then min v (s.sfN key c) else v
  add k.relBridge 0x6008 (add k.advBridge 0x6007 (add (r == .rescue) 0x6006
    (add (r == .inspection || (s.hoist c).learn.state == 1 || s.provisionalCar c) 0x6005 (s.sfN 0x6003 c))))

/-- A lower limit from the safety set acts on a control value (R20, R222). -/
def State.capped (s : State) (c key : Nat) (v : Int) : Int :=
  if s.safEnabled c then min v (s.sf key c) else v

end Sys2Proof.Machine
end

