-- ==== Sys2Proof/Machine/Doors.lean ====
section
/-! DEFINITION. The door engine (chapter 07): microstep tables, the estimator, profiles, reversals, force,
obstruction and stall, locking, referencing, and the door requests. -/

namespace Sys2Proof.Machine

/-! ### Tables (R131, R132, Table 07.2) -/

/-- π times 2^96. -/
def piFix : Int := 248902613312231085230521944622

/-- Terms of the sine series from `term`, `x2` being x² (both times 2^96), after `k` terms. -/
def sinTerms : Nat → Int → Int → Nat → Int
  | 0, _, _, _ => 0
  | f + 1, term, x2, k =>
    term + sinTerms f (-(term * x2 / 2 ^ 96) / ((2 * k + 2) * (2 * k + 3) : Nat)) x2 (k + 1)

/-- sin(2π n / d) times 2^96. (log entry 47: DESIGN CHOICE) -/
def sinFix (n d : Nat) : Int :=
  let m := 4 * (n % d)
  let q := m / d
  let r : Int := (m % d : Nat)
  let r := if q % 2 == 0 then r else d - r
  let x := piFix * r / (2 * d : Nat)
  let v := sinTerms 16 x (x * x / 2 ^ 96) 0
  if q ≥ 2 then -v else v

/-- Entries of a table of `phases` phases. -/
def tableLen (phases : Nat) : Nat := if phases == 3 then 1536 else 1024

/-- round(32,767 sin(2π i / n)), a tie away from zero (DESIGN CHOICE). The 2^40 makes up for the truncated
series, whose error is far below the distance of any other entry from a tie. (log entry 47: DESIGN CHOICE) -/
def tableEntry (i n : Nat) : Int :=
  let v := sinFix i n
  let m := rndDiv (32767 * ((v.natAbs : Int) + 2 ^ 40)) (2 ^ 96)
  if v < 0 then -m else m

/-- The default table. -/
def defaultTable (phases : Nat) : List Int :=
  let n := tableLen phases
  (List.range n).map (fun i => tableEntry i n)

/-- Phase count of slot `n`: an unwritten slot is two-phase when even, three-phase when odd. -/
def State.slotPhases (s : State) (n : Nat) : Nat :=
  match (s.doorSlot n).entries with
  | some _ => (s.doorSlot n).phases
  | none => if n % 2 == 0 then 2 else 3
def State.slotTable (s : State) (n : Nat) : List Int := (s.doorSlot n).entries.getD (defaultTable (s.slotPhases n))

def tableBytes (t : List Int) : Bytes := (t.map (leI 2)).flatten
def State.slotCrc (s : State) (n : Nat) : U32 := crc32c (tableBytes (s.slotTable n))

/-- R132: the magnitude at every index, and the sum of a three-phase table. -/
def tableOkR132 (phases : Nat) (t : List Int) : Bool :=
  let n := tableLen phases
  let a := t.toArray
  let at' := fun i => a.getD (i % n) 0
  (List.range n).all (fun i =>
    if phases == 3 then
      let d := at' (i + 512) - at' (i + 1024)
      let m := 3 * at' i * at' i + d * d
      decide (3 * 16384 * 16384 ≤ m) && decide (m ≤ 3 * 32768 * 32768)
        && decide ((at' i + at' (i + 512) + at' (i + 1024)).natAbs ≤ 512)
    else
      let m := at' i * at' i + at' (i + 256) * at' (i + 256)
      decide (16384 * 16384 ≤ m) && decide (m ≤ 32768 * 32768))

/-! ### Operators -/

/-- The car and side of operator `d` (R129). -/
def doorCar (d : Nat) : Nat := d / 2
def doorSide (d : Nat) : Nat := d % 2

def State.doorPresent (s : State) (d : Nat) : Bool := s.com 0x4001 d == 1

/-- Reported state code (Table 07.6). -/
def doorCode (s : State) (d : Nat) : Nat :=
  if !s.doorPresent d then 11
  else match (s.door d).state with
    | .unreferenced => 0 | .referencing => 1 | .closedLocked => 2 | .awaitingLock => 3 | .opening => 4
    | .opened => 5 | .closing => 6 | .nudging => 7 | .reversing => 8 | .stopped => 9 | .faulted => 10
    | .absent => 11

def movingState : DState → Bool
  | .opening | .closing | .nudging | .reversing | .referencing => true
  | _ => false
def State.doorMoving (s : State) (d : Nat) : Bool := s.doorPresent d && movingState (s.door d).state

/-- R151: every present operator of the car is closed and locked. -/
def State.doorsLocked (s : State) (c : Nat) : Bool :=
  [2 * c, 2 * c + 1].all (fun d => !s.doorPresent d || (s.door d).state == .closedLocked)

/-- The operator's node, as the key of `nodes`. -/
def State.doorNode (s : State) (d : Nat) : Option (Nat × Nat) :=
  let v := s.com 0x4002 d
  if v == 0xFFFFFFFF then none else some (v.toNat / 16384, v.toNat / 64 % 256)

/-- Entries per cycle of the operator's table. -/
def State.doorN (s : State) (d : Nat) : Nat := tableLen (s.parN 0x4003 d)

/-- A door event of severity 0. -/
def doorEvent (s : State) (d code : Nat) (payload : Bytes := []) : State := event s code payload d

/-- A door finding of severity 1. -/
def doorFault (s : State) (d code : Nat) : State :=
  raise s { code := code, sev := 1, inst := d, car := some (doorCar d) }

/-! ### Plans (R136, R137) -/

/-- i_cap of R142, in mA. -/
def State.iCap (s : State) (d : Nat) : Nat :=
  (s.capped (doorCar d) 0x6042 (s.par 0x4043 d)).toNat * 1000000 / s.parN 0x4008 d

/-- √(2 E / m) in µm/s, for E in mJ and m in kg. -/
def keSpeed (mJ mass : Nat) : Nat := isqrt (2 * mJ * 1000000000 / mass)

/-- The speed limit of R136, and whether the kinetic energy sets it. -/
def doorLimit (s : State) (d : Nat) (opening nudge : Bool) : Nat × Bool :=
  let c := doorCar d
  let v := (s.capped c 0x6041 (s.par (if opening then 0x4017 else 0x4027) d)).toNat
  let v := if (s.door d).vLimit == 0 then v else min v (s.door d).vLimit
  if opening then (v, false)
  else
    let ke := keSpeed (s.capped c 0x6043 (s.par 0x4044 d)).toNat (s.parN 0x4007 d)
    let kn := keSpeed (s.capped c 0x6043 (s.par 0x4045 d)).toNat (s.parN 0x4007 d)
    let v := if nudge then min v (s.parN 0x4052 d) else v
    let k := if nudge then min ke kn else ke
    (min v k, decide (k < v))

def doorKeys (s : State) (d : Nat) (opening : Bool) : DoorKeys :=
  let b := if opening then 0x4010 else 0x4020
  { vStart := s.par b d, vStop := s.par (b + 1) d, vb := s.par (b + 2) d, a1 := s.par (b + 3) d
    a2 := s.par (b + 4) d, d1 := s.par (b + 5) d, d2 := s.par (b + 6) d
    creep := s.par (if opening then 0x4018 else 0x4031) d }

/-- A plan from the position `x0` along the move: from D0, or from speed `v`. -/
def movePlan (s : State) (d : Nat) (opening nudge fresh : Bool) (x0 v : Rat) : DPlan :=
  let (lim, ke) := doorLimit s d opening nudge
  let target : Int := if opening then (s.door d).openTarget else 0
  let dist := if opening then target - x0 else x0
  planDoor (doorKeys s d opening) fresh x0 (if opening then 1 else -1) v (lim : Int) (max 0 dist) target ke

/-- One door sample, in seconds. -/
def doorDt : Rat := 1 / 4000

/-- Position and speed of the reference at the next door sample, at which a new plan takes over (R136, R145). -/
def nextRef (x : Door) : Rat × Rat :=
  match x.plan with
  | some p =>
    let e := doorAt p (min p.endAt (x.tau + doorDt))
    (e.1, e.2.1)
  | none => (x.pos + x.refSpeed * doorDt, x.refSpeed)

/-- A run of samples above the threshold that is cut short is a near miss (R144). -/
def endRun (x : Door) : Door := { x with obstRun := 0, nearMisses := satN 32 (x.nearMisses + b2n (x.obstRun != 0)) }

/-- Event 0x4130 where nudging begins (R148). -/
def nudgeEvent (s : State) (d : Nat) (st : DState) : State :=
  if st == .nudging && (s.door d).state != .nudging then doorEvent s d 0x4130 else s

/-- A move starts at D0 in the next running sample, with the keys of "Commit, next move". -/
def startMove (s : State) (d : Nat) (st : DState) : State :=
  let s := (nudgeEvent s d st).latch' .nextMove (some d)
  let p := movePlan s d (st == .opening) (st == .nudging) true (s.door d).pos 0
  s.modDoor d (fun x =>
    { endRun x with
      state := st, plan := some p, tau := -doorDt, next := .none, blank := 0, obstPeak := 0
      stallRun := 0, openRetry := false
      cleanClose := st != .opening
      adaptSum := if st == .opening then x.adaptSum else [] })

/-- A new target or limit in the direction of travel is planned from the current reference. -/
def replanMove (s : State) (d : Nat) (st : DState) : State :=
  let (x0, v) := nextRef (s.door d)
  if v == 0 then startMove s d st
  else
    let p := movePlan s d (st == .opening) (st == .nudging) false x0 (if v < 0 then -v else v)
    (nudgeEvent s d st).modDoor d (fun x => { x with state := st, plan := some p, tau := -doorDt })

/-- The referencing close of R139: `door_ref_speed`, within the safety set's door speed (R20), until the report arrives.
(log entry 50: DEDUCED) -/
def startReferencing (s : State) (d : Nat) : State :=
  let v := s.capped (doorCar d) 0x6041 (s.par 0x4034 d)
  let forever : Rat := 1000000
  s.modDoor d (fun x =>
    { endRun x with
      state := .referencing, tau := -doorDt, next := .none, blank := 0
      plan := some { x0 := x.pos, v0 := v, dir := -1, runs := [{ dur := forever, jerk := 0 }], target := 0, vPeak := v
                     d6At := forever, endAt := forever } })

/-- Deceleration at `door_rev_dec` with what follows it (R137). -/
def decelerate (s : State) (d : Nat) (next : DNext) : State :=
  let (x0, v) := nextRef (s.door d)
  let p := planDoorStop x0 (if v < 0 then -1 else 1) (if v < 0 then -v else v) (s.par 0x4030 d)
  s.modDoor d (fun x => { endRun x with state := .reversing, plan := some p, tau := -doorDt, next := next })

/-- Bring a moving door to rest with `next` to follow; a deceleration in progress only changes what follows. -/
def redirect (s : State) (d : Nat) (next : DNext) : State :=
  if (s.door d).state == .reversing then s.modDoor d (fun x => { x with next := next })
  else decelerate s d next

/-- A command reverses or stops a moving door (cause 4 of Table 07.5). -/
def turnByCommand (s : State) (d : Nat) (next : DNext) : State :=
  let s := if (s.door d).state == .reversing then s else s.modDoor d (fun x => { x with lastCause := 4 })
  redirect s d next

/-- A closing door reverses to full open (R145, R147). -/
def reopen (s : State) (d cause : Nat) : State :=
  let s := s.modDoor d (fun x =>
    { x with lastCause := cause, cleanClose := false, openTarget := s.parN 0x4006 d, vLimit := 0 })
  redirect s d .doOpen

/-- Position loss (R143): unreferenced, at rest, with event 0x4112. -/
def losePosition (s : State) (d : Nat) : State :=
  doorFault (s.modDoor d (fun x =>
    { endRun x with
             state := .unreferenced, referenced := false, plan := none, refSpeed := 0, refAcc := 0, resync := false
             increment := 0, estValid := false, next := .none, cleanClose := false
             amplitude := s.parN 0x400D d })) d 0x4112

/-! ### Locking (R138, R139, R141) -/

/-- A changed table is downloaded while the operator is closed and locked (R133). -/
def tableDownload (s : State) (d : Nat) : State :=
  let x := s.door d
  if x.tableChange && !x.tableDown && x.state == .closedLocked then
    s.modDoor d (fun x => { x with tableDown := true, tableOk := false, tableTries := 0 })
  else s

/-- The friction table after a clean close (R141). -/
def adaptFriction (s : State) (d : Nat) : State :=
  let lim := s.par 0x4047 d * 1000000
  s.modDoor d (fun x =>
    if x.cleanClose then
      { x with
        adapt := (List.range 16).foldl (fun t b =>
          let (sum, n) := tget (dft (0, 0)) x.adaptSum b
          if n == 0 then t
          else
            let a := tget (dft 0) t b
            tset (dft 0) t b (clampI (-lim) lim (a + fdiv (fdiv sum (n : Nat) - a) 8))) x.adapt
        adaptSum := [] }
    else x)

/-- The operator stands closed and locked, with position 0 (R138, R139, R145). -/
def closedAndLocked (s : State) (d : Nat) : State :=
  tableDownload (s.modDoor d (fun x =>
    { x with state := .closedLocked, referenced := true, pos := 0, refSpeed := 0, refAcc := 0, plan := none, next := .none
             reopens := 0, lockTries := 0, openObst := 0, stalled := false, closeDemand := false, dwell := false })) d

/-- The closed-and-locked report ends a close. -/
def lockNow (s : State) (d : Nat) : State :=
  closedAndLocked ((adaptFriction s d).modDoor d (fun x => { x with closes := satN 32 (x.closes + 1) })) d

/-- The report references an operator (R139). A referencing close it ends is a closed-and-locked completion. -/
def referenceNow (s : State) (d : Nat) : State :=
  if (s.door d).state == .referencing then
    closedAndLocked (doorEvent (s.modDoor d (fun x => { x with closes := satN 32 (x.closes + 1) })) d 0x4150) d
  else closedAndLocked s d

/-- DOOR_LOCK_CONFIRMED: car door contact and landing lock of the side are reported closed. -/
def lockConfirmed (s : State) (d : Nat) : State :=
  match (s.door d).state with
  | .awaitingLock => lockNow s d
  | .unreferenced => referenceNow s d
  | .referencing => referenceNow s d
  | _ => s

/-- The unit that runs doors: the active one, and its standby in step (R135). -/
def State.doorsRun (s : State) (d : Nat) : Bool :=
  s.power == .on && (s.incharge || s.follows) && s.doorPresent d

def execDoorLockConfirmed (op : Fin 16) (s : State) : Host.Outcome State Fault Refusal :=
  .next (if s.doorsRun op then lockConfirmed s op else s)

/-- DOOR_LOCK_TIMEOUT (R138): reopen fully and close again, or after the last retry stay open. -/
def lockTimeout (s : State) (d : Nat) : State :=
  let last := decide ((s.door d).lockTries ≥ s.parN 0x4033 d)
  let s := doorEvent s d 0x4120
  let s := s.modDoor d (fun x =>
    { x with lastCause := 3, lockTries := x.lockTries + 1, openTarget := s.parN 0x4006 d, vLimit := 0
             stayOpen := x.stayOpen || last })
  let s := if last then doorFault s d 0x4121 else s
  (startMove s d .opening).modDoor d (fun x => { x with next := if last then .none else .doClose })

def execDoorLockTimeout (op : Fin 16) (s : State) : Host.Outcome State Fault Refusal :=
  .next (if s.doorsRun op && (s.door op).state == .awaitingLock then lockTimeout s op else s)

/-- REFERENCING_TIMEOUT (R139): 1.2 × `door_open_pos` / `door_ref_speed` without the report. -/
def execReferencingTimeout (op : Fin 16) (s : State) : Host.Outcome State Fault Refusal :=
  .next (if s.doorsRun op && (s.door op).state == .referencing then doorFault (decelerate s op .stop) op 0x4112 else s)

/-- OPEN_RETRY_EXPIRY (R146). -/
def execOpenRetryExpiry (op : Fin 16) (s : State) : Host.Outcome State Fault Refusal :=
  .next (if s.doorsRun op && (s.door op).openRetry && (s.door op).state == .stopped then startMove s op .opening else s)

/-! ### The estimator (R140, R141) -/

/-- Wrapped to half a cycle of 12,288. -/
def wrapCycle (x : Int) : Int := (x + 6144) % 12288 - 6144

/-- The node's reply fields: currents in mA, voltages in mV, status. -/
structure DoorReply where
  i : List Int
  v : List Int
  status : Nat
  deriving DecidableEq, Repr

/-- The reply of the operator's node, while the node is in good state (Table 15.7). -/
def doorReply (s : State) (d : Nat) : Option DoorReply :=
  match s.doorNode d with
  | none => none
  | some (p, a) =>
    let n := s.node p a
    if s.nodeState p a == 0 then
      some { i := [0, 2, 4].map (fun o => toSigned 16 (rd n.reply o 2))
             v := [8, 12, 16].map (fun o => toSigned 32 (rd n.reply o 4)), status := rd n.reply 6 2 }
    else none

/-- All the reply points of the operator's node are of good quality (R140, Table 15.2). -/
def replyGood (s : State) (d : Nat) : Bool :=
  match s.doorNode d with
  | none => false
  | some (p, a) => ((s.mapEntries p a).filter (fun e => e.dir == 1)).all (fun e => s.pointGood (pointKey p a e.point))

/-- Bin of a position (R141). -/
def doorBin (s : State) (d : Nat) (x : Int) : Nat := min 15 ((x.toNat * 16) / s.parN 0x4006 d)

/-- F_fric at position `x`, in µN. -/
def frictionAt (s : State) (d : Nat) (x : Int) : Int :=
  s.par 0x4046 d * 1000000 + tget (dft 0) (s.door d).adapt (doorBin s d x)

/-- Force of the motor less the inertial term, in µN. (log entry 48: DEDUCED) -/
def netForce (s : State) (d : Nat) (delta : Int) : Int :=
  let x := s.door d
  fdiv (s.par 0x4008 d * x.amplitude * sinFix (delta % 12288).toNat 12288) (2 ^ 96) - s.par 0x4007 d * x.refAcc

/-- One sample of R140 and R141 on the node's reply. (log entry 48: DEDUCED) -/
def estimate (s : State) (d : Nat) (r : DoorReply) : State :=
  let x := s.door d
  let e := (List.range 3).map (fun k =>
    let i := r.i.getD k 0
    1000 * r.v.getD k 0 - s.par 0x400A d * i - 4 * s.par 0x400B d * (i - x.iPrev.getD k i))
  let ea := e.getD 0 0; let eb := e.getD 1 0; let ec := e.getD 2 0
  let three := s.parN 0x4003 d == 3
  let fa : Int := if three then fineAngle (ea * 1000000000) ((eb - ec) * 577350269) else fineAngle ea eb
  let theta := 3 * fa
  let mag := if three then isqrt (ea * ea + (eb - ec) * (eb - ec) / 3).toNat else isqrt (ea * ea + eb * eb).toNat
  let step := match x.thetaPrev with | some p => wrapCycle (theta - p) | none => 0
  let sg : Int := if 0 < step then 1 else if step < 0 then -1 else 0
  let rot := theta - sg * 3072
  let cmd : Int := (x.address * (12288 / s.doorN d) : Nat)
  let delta := wrapCycle (cmd - rot)
  let speed := sg * fdiv ((mag : Int) * s.par 0x4005 d) (s.par 0x4009 d)
  let speeds := (speed :: x.speeds).take 4
  let fast := if (x.refSpeed.natAbs : Int) ≥ s.par 0x4048 d then min 5 (x.fastSamples + 1) else 0
  let valid := fast ≥ 5
  let tracked := match x.estValid && valid, x.rotPrev with
    | true, some p => x.tracked + wrapCycle (rot - p)
    | _, _ => fdiv (x.pos * 12288) (s.par 0x4005 d) - delta
  let sm : Int := if x.refSpeed < 0 then -1 else 1
  let net := sm * netForce s d delta
  let closing := (x.state == .closing || x.state == .nudging) && valid
  s.modDoor d (fun x =>
    { x with
      iPrev := r.i, thetaPrev := some theta, rotPrev := some rot, fastSamples := fast, speeds := speeds
      estValid := valid, delta := if valid then delta else 0, tracked := tracked
      estSpeed := if valid then fdiv (speeds.foldl (· + ·) 0) (speeds.length : Nat) else 0
      force := if valid then net - frictionAt s d x.pos else 0
      adaptSum := if closing then
          let b := doorBin s d x.pos
          let (sum, n) := tget (dft (0, 0)) x.adaptSum b
          tset (dft (0, 0)) x.adaptSum b (sum + net - s.par 0x4046 d * 1000000, n + 1)
        else x.adaptSum })

/-- A sample without a good reply. -/
def noEstimate (s : State) (d : Nat) : State :=
  s.modDoor d (fun x =>
    { x with estValid := false, fastSamples := 0, delta := 0, estSpeed := 0, force := 0, speeds := [], iPrev := []
             thetaPrev := none, rotPrev := none })

/-! ### Stall, obstruction, curtain (R143 to R147, R153) -/

/-- Resynchronisation: position, address and speed follow the rotor, then the door reverses or stops.
(log entry 49: DEDUCED) -/
def resynchronise (s : State) (d : Nat) : State :=
  let x := s.door d
  let n := s.doorN d
  let s := s.modDoor d (fun x =>
    { x with
      resync := false, stallRun := 0, delta := 0
      pos := fdiv (x.tracked * s.par 0x4005 d) 12288
      address := ((x.rotPrev.getD 0) % 12288).toNat * n / 12288, frac := 0
      refSpeed := x.estSpeed, plan := none })
  let s := doorEvent s d 0x4111
  match x.state with
  | .opening => decelerate s d .stop
  | .closing => reopen s d 1
  | .nudging => reopen s d 1
  | .reversing => decelerate s d x.next
  | .referencing => decelerate s d .stop
  | _ => s

/-- The second valid sample in a row beyond `door_stall_angle`. (log entry 49: DEDUCED) -/
def stallCheck (s : State) (d : Nat) : State :=
  let x := s.door d
  let bad := x.estValid && movingState x.state && decide (((x.delta.natAbs : Int)) * 3600 > s.par 0x4049 d * 12288)
  if !bad then s.modDoor d (fun x => { x with stallRun := 0 })
  else if x.stallRun == 0 then s.modDoor d (fun x => { x with stallRun := 1 })
  else
    doorEvent (s.modDoor d (fun x => { x with stallRun := 0, resync := true, stalled := true, cleanClose := false }))
      d 0x4110

/-- The obstruction check is active (R144). -/
def obstActive (s : State) (d : Nat) : Bool :=
  let x := s.door d
  (x.state == .closing || x.state == .nudging || x.state == .opening) && x.estValid
    && decide (4 * s.parN 0x4042 d < x.blank)
    && (match x.plan with | some p => decide (x.tau < p.d6At) | none => false)

/-- One sample of R144: whether this sample completes an obstruction. (log entry 49: DEDUCED) -/
def obstCount (s : State) (d : Nat) : State × Bool :=
  let x := s.door d
  if obstActive s d && decide (x.force > s.par 0x4040 d * 1000000) then
    let run := x.obstRun + 1
    (s.modDoor d (fun x => { x with obstRun := run, obstPeak := if run == 1 then x.force else max x.obstPeak x.force }),
      decide (run ≥ s.parN 0x4041 d))
  else (s.modDoor d endRun, false)

/-- Obstruction of a closing or nudging door (R145). -/
def closeObst (s : State) (d : Nat) (curtain : Bool) : State :=
  let s := s.modDoor d (fun x =>
    { x with lastObstForce := x.obstPeak, lastObstPos := x.pos, obstructions := satN 32 (x.obstructions + 1)
             reopens := satN 8 (x.reopens + 1), obstRun := 0 })
  let x := s.door d
  let s := doorEvent s d 0x4101 (leI 2 (fdiv x.obstPeak 1000000) ++ leI 4 x.pos ++ le 1 (b2n curtain))
  let s := reopen s d 0
  if x.reopens ≥ s.parN 0x404A d then
    doorFault (s.modDoor d (fun x => { x with stayOpen := true })) d 0x4103
  else s

/-- Obstruction of an opening door (R146). -/
def openObst (s : State) (d : Nat) : State :=
  let s := s.modDoor d (fun x =>
    { x with lastObstForce := x.obstPeak, lastObstPos := x.pos, obstructions := satN 32 (x.obstructions + 1)
             openObst := x.openObst + 1, obstRun := 0, lastCause := 0 })
  let x := s.door d
  let s := doorEvent s d 0x4104 (leI 2 (fdiv x.obstPeak 1000000) ++ leI 4 x.pos)
  let third := x.openObst ≥ 3
  let s := decelerate s d .stop
  s.modDoor d (fun x => { x with openRetry := !third, stayOpen := x.stayOpen || third })

/-- The curtain is interrupted (R147). -/
def curtainCut (s : State) (d : Nat) : Bool :=
  let a := s.par 0x4050 d
  if a == 0xFFFFFFFF then false
  else match s.goodPoint a with
    | some v => v != 0
    | none => true

/-- The car's stop is carried out (R152). -/
def carStopDoor (s : State) (d : Nat) : State :=
  let s := s.modDoor d (fun x => { x with carStop := false, resync := false })
  if movingState (s.door d).state then redirect s d .stop else s

/-- What one sample demands of the door, in the order of R153. -/
def doorDemands (s : State) (d : Nat) : State :=
  let cut := curtainCut s d
  let s := s.modDoor d (fun x => { x with curtain := cut, cleanClose := x.cleanClose && !(cut && (x.state == .closing || x.state == .nudging)) })
  if (s.door d).carStop then carStopDoor s d
  else if (s.door d).resync then
    if (s.door d).estValid then resynchronise s d else losePosition s d
  else
    let s := stallCheck s d
    let (s, obst) := obstCount s d
    let x := s.door d
    let d6 := match x.plan with | some p => decide (x.tau ≥ p.d6At) | none => true
    if (s.door d).resync then s
    else if obst then if x.state == .opening then openObst s d else closeObst s d cut
    else if cut && x.state == .closing && !d6 then doorEvent (reopen s d 2) d 0x4102
    else s

/-! ### The profile (R136 to R138) -/

/-- A door at rest opens, or is open where it stands at or beyond the target. -/
def openFromRest (s : State) (d : Nat) : State :=
  if (s.door d).pos < (s.door d).openTarget then startMove s d .opening
  else s.modDoor d (fun x => { x with state := if x.stayOpen then .faulted else .opened, next := .none, dwell := true })

/-- What follows a hold of speed 0, or a reopening that closes again. -/
def doorNext (s : State) (d : Nat) : State :=
  match (s.door d).next with
  | .doOpen => openFromRest s d
  | .doClose => startMove s d .closing
  | .doNudge => startMove s d .nudging
  | .doReference => startReferencing s d
  | _ => s

/-- A door that is not going to move rests in this state. -/
def restState (x : Door) : DState :=
  if x.stayOpen then .faulted else if !x.referenced then .unreferenced else .stopped

/-- The end of a plan. -/
def doorArrive (s : State) (d : Nat) (p : DPlan) : State :=
  let x := s.door d
  let halt := fun (x : Door) (pos : Int) => { x with pos := pos, refSpeed := 0, refAcc := 0, plan := none }
  match x.state with
  | .opening => s.modDoor d (fun x =>
      { halt x (min p.target (s.par 0x4006 d)) with state := if x.stayOpen then .faulted else .opened, openObst := 0, dwell := true })
  | .reversing =>
    let s := s.modDoor d (fun x => halt x p.target)
    if x.next == .stop || x.next == .none then s.modDoor d (fun x => { x with state := restState x, next := .none })
    else s
  | _ =>
    let s := s.modDoor d (fun x => { halt x 0 with state := .awaitingLock })
    if s.sideLocked (doorCar d) (doorSide d) then lockNow s d else s

/-- One sample of the reference. -/
def doorProfile (s : State) (d : Nat) : State :=
  let x := s.door d
  let s := if x.plan.isNone && (x.state == .reversing || (x.state == .opened && x.next == .doClose)) then doorNext s d
    else s
  let x := s.door d
  match x.plan with
  | none => s.modDoor d (fun x => { x with refSpeed := 0, refAcc := 0 })
  | some p =>
    let t := x.tau + doorDt
    let (pos, v, a) := doorAt p t
    -- a door that could not slow down in time stops at the end of its way
    let atEnd := ((x.state == .closing || x.state == .nudging) && decide (pos ≤ 0))
      || (x.state == .opening && decide ((s.par 0x4006 d : Rat) ≤ pos))
    if p.endAt ≤ t || atEnd then doorArrive s d p
    else
      s.modDoor d (fun x => { x with tau := t, pos := pos.floor, refSpeed := v.floor, refAcc := a.floor
                                     blank := x.blank + 1 })

/-- Electrical position of a door position, in 1/64 entry. -/
def entries64 (s : State) (d : Nat) (pos : Int) : Int := fdiv (pos * (s.doorN d * 64 : Nat)) (s.par 0x4005 d)

/-- The address follows the reference (R131, Table 07.1). -/
def doorAddress (s : State) (d : Nat) (old : Int) : State :=
  let inc := entries64 s d (s.door d).pos - entries64 s d old
  s.modDoor d (fun x =>
    let a := (((x.address * 64 + x.frac : Nat) : Int) + inc) % (s.doorN d * 64 : Nat)
    { x with increment := inc, address := a.toNat / 64, frac := a.toNat % 64 })

/-- The loop that delivers the current amplitude of an operator. -/
def State.amplitudeLoop (s : State) (d : Nat) : Option Nat :=
  (List.range 64).find? (fun l => s.loopRole l != 0 && s.par 0x210A l == (0x200 + d : Nat))

/-- The amplitude of R142. -/
def doorAmplitude (s : State) (d : Nat) : Nat :=
  let x := s.door d
  let d6 := match x.plan with | some p => decide (x.tau ≥ p.d6At) | none => false
  let closes := x.state == .closing || x.state == .nudging || x.state == .referencing
  if !movingState x.state then s.parN 0x400D d
  else
    let a := if x.state == .referencing || (x.state != .opening && x.state != .reversing && d6) then s.parN 0x400E d
      else match s.amplitudeLoop d with
        | some l => (clampI 0 65535 (s.loop l).delivered).toNat
        | none => s.parN 0x400C d
    if closes then min a (s.iCap d) else a

/-- The point named by `door_nudge_point` is set while the door nudges (R148). -/
def nudgePoint (s : State) (d : Nat) : State :=
  let a := s.par 0x4053 d
  if a == 0xFFFFFFFF then s else s.modPoint a.toNat (fun p => { p with output := b2n ((s.door d).state == .nudging) })

/-- DOOR_SAMPLE of operator `d` (R140): the estimate on the node's reply, the set-point of this sample, then what the
sample demands, which acts from the next one (R145). -/
def doorSample (s : State) (d : Nat) : State :=
  let s := match doorReply s d with
    | some r =>
      let s := if replyGood s d then estimate s d r else noEstimate s d
      if bitAt r.status 2 && (s.door d).referenced then losePosition s d else s
    | none => noEstimate s d
  let s := doorAddress (doorProfile s d) d (s.door d).pos
  let s := forEach (s.ownLoops 2 d) (fun s l => loopSample s l (!movingState (s.door d).state)) s
  let amp := doorAmplitude s d
  nudgePoint (doorDemands (s.modDoor d (fun x => { x with amplitude := amp })) d) d

/-! ### Door commands (R149, R150, R154) -/

/-- The landing nearest to the car. -/
def State.landingNear (s : State) (c : Nat) : Nat :=
  let x := s.fusedPos c
  ((s.landings c).foldl (fun (b : Nat × Option Nat) n =>
    let e := (s.landingPos c n - x).natAbs
    match b.2 with
    | some m => if e < m then (n, some e) else b
    | none => (n, some e)) (0xFF, none)).1

/-- R150, R152: 0 when the operator may open, else the reason. (log entry 50: DEDUCED) -/
def openReason (s : State) (d : Nat) : Nat :=
  let c := doorCar d
  let h := s.hoist c
  let k := s.carSaf c
  let levelling := match h.plan with | some p => decide (p.s12At ≤ h.tau) | none => false
  if h.phase == .running && levelling && k.advBridge then
    if s.serves c h.targetLanding (doorSide d) then 0 else 2
  else if k.trip || h.stopped3 then
    if s.standstill c && s.inZone c then (if s.serves c (s.landingNear c) (doorSide d) then 0 else 2)
    else if k.trip then 6 else if h.phase != .idle then 7 else 1
  else if h.left || (h.phase != .idle && (!h.levelled || h.kind == .brakeTest)) then 7
  else if h.levelled then
    if !s.inZone c then 1 else if s.serves c h.lastLanding (doorSide d) then 0 else 2
  else 1

/-- The reason that refuses any command on the operator, 0 none; an absent one takes none (R129). (log entry 50: DEDUCED) -/
def operatorReason (s : State) (d : Nat) : Nat :=
  let x := s.door d
  if !s.doorPresent d || x.state == .faulted || x.stayOpen then 8 else if x.nodeLost then 5 else if !x.tableOk then 4 else 0

/-- Open towards `openTarget`. -/
def doOpen (s : State) (d : Nat) : State :=
  match (s.door d).state with
  | .closing | .nudging | .reversing => turnByCommand s d .doOpen
  | .opening => if (s.door d).pos < (s.door d).openTarget then replanMove s d .opening else redirect s d .doOpen
  | .faulted | .absent | .unreferenced | .referencing => s
  | _ => openFromRest s d

/-- Close, or reference an unreferenced operator. -/
def doClose (s : State) (d : Nat) (nudge : Bool) : State :=
  let st : DState := if nudge then .nudging else .closing
  match (s.door d).state with
  | .unreferenced => startReferencing s d
  | .opening | .reversing =>
    turnByCommand s d (if !(s.door d).referenced then .doReference else if nudge then .doNudge else .doClose)
  | .closing | .nudging => replanMove s d st
  | .opened | .stopped => startMove s d st
  | _ => s

/-- Open to `target`, 0 being `door_open_pos`. -/
def openTo (s : State) (d target vLimit : Nat) : State :=
  doOpen (s.modDoor d (fun x =>
    { x with openTarget := if target == 0 then s.parN 0x4006 d else target, vLimit := vLimit, closeDemand := false
             next := x.next.keepOpen })) d

/-- Open demanded by the host, dispatching or a station; 0 or the reason that refuses it. -/
def demandOpen (s : State) (d target vLimit : Nat) : State × Nat :=
  let r := operatorReason s d
  let r := if r != 0 then r else if !(s.door d).referenced then 3 else openReason s d
  if r != 0 then (s, r) else (openTo s d target vLimit, 0)

/-- Close demanded; it ends a hold. -/
def demandClose (s : State) (d vLimit : Nat) (nudge : Bool) : State × Nat :=
  let r := operatorReason s d
  if r != 0 then (s, r)
  else
    let s := s.modDoor d (fun x => { x with vLimit := vLimit, closeDemand := true, holdOpen := false, dwell := false })
    (doClose s d nudge, 0)

/-- DOOR_COMMAND by action; the reason is 0 when it is accepted. (log entry 50: DEDUCED) -/
def doorCommand (s : State) (d action target vLimit : Nat) : State × Nat :=
  match action with
  | 1 => demandOpen s d target vLimit
  | 2 => demandClose s d vLimit false
  | 3 => demandClose s d vLimit true
  | 4 =>
    let r := operatorReason s d
    let (s, r) := if (s.door d).state == .opened || r != 0 then (s, r)
      else if (s.door d).state == .opening then (openTo s d target vLimit, 0)
      else demandOpen s d target vLimit
    if r != 0 then (s, r)
    else (s.modDoor d (fun x => { x with holdOpen := true, closeDemand := false, dwell := false, next := x.next.keepOpen }), 0)
  | 5 =>
    let r := operatorReason s d
    if r != 0 then (s, r)
    else (s.modDoor d (fun x => { x with holdOpen := false, dwell := x.dwell || x.holdOpen }), 0)
  | 6 =>
    let r := operatorReason s d
    if r != 0 then (s, r)
    else if (s.door d).state == .referencing then (s, 0)
    else if movingState (s.door d).state then (turnByCommand s d .doReference, 0)
    else (startReferencing s d, 0)
  | _ =>
    let r := operatorReason s d
    if r != 0 then (s, r)
    else
      let s := s.modDoor d (fun x => { x with holdOpen := false, closeDemand := false, openRetry := false })
      (if movingState (s.door d).state then turnByCommand s d .stop else s, 0)

/-- The reply of Table 07.4. -/
def doorReplyBytes (s : State) (d st reason : Nat) : Bytes :=
  le 1 st ++ le 1 (if st == stOk then doorCode s d else 0) ++ le 1 reason ++ le 1 0
    ++ (if st == stOk then leI 4 (s.door d).pos else zeros 4)

/-- R154: the host may command doors of the car. -/
def doorHostOk (s : State) (c : Nat) : Bool :=
  s.mode == .commission || (s.dcar c).regime == .independent || (s.dcar c).regime == .outOfService

def actDoor (action : Nat) (h : Hdr) (rsv : Bool) (target vLimit : U32) (s : State) : State :=
  serve s h { op := 0x28, insts := 16, len := 8, lenOk := h.len == 12, mirrored := true
              checks := [(rsv || (action != 1 && action != 4 && target != 0), stBadParam), (decide (target.toNat > s.parN 0x4006 h.inst.toNat), stRange)] }
    (fun s =>
      let d := h.inst.toNat
      if !doorHostOk s (doorCar d) || !s.doorPresent d then (s, refusal 8 stWrongMode)
      else
        let (s', r) := doorCommand s d action target.toNat vLimit.toNat
        if r == 0 then (s', doorReplyBytes s' d stOk 0) else (s, doorReplyBytes s d stWrongMode r))

def actDoorStop (h : Hdr) (rsv : Bool) (targetPos vLimit : U32) (s : State) : State :=
  actDoor 0 h rsv targetPos vLimit s
def execDoorStop (h : Hdr) (rsv : Bool) (targetPos vLimit : U32) (s : State) : Host.Outcome State Fault Refusal :=
  hostRow s (.doorStop h rsv targetPos vLimit) h 0x28 8 (actDoorStop h rsv targetPos vLimit)

def actDoorOpen (h : Hdr) (rsv : Bool) (targetPos vLimit : U32) (s : State) : State :=
  actDoor 1 h rsv targetPos vLimit s
def execDoorOpen (h : Hdr) (rsv : Bool) (targetPos vLimit : U32) (s : State) : Host.Outcome State Fault Refusal :=
  hostRow s (.doorOpen h rsv targetPos vLimit) h 0x28 8 (actDoorOpen h rsv targetPos vLimit)

def actDoorClose (h : Hdr) (rsv : Bool) (targetPos vLimit : U32) (s : State) : State :=
  actDoor 2 h rsv targetPos vLimit s
def execDoorClose (h : Hdr) (rsv : Bool) (targetPos vLimit : U32) (s : State) : Host.Outcome State Fault Refusal :=
  hostRow s (.doorClose h rsv targetPos vLimit) h 0x28 8 (actDoorClose h rsv targetPos vLimit)

def actDoorNudgeClose (h : Hdr) (rsv : Bool) (targetPos vLimit : U32) (s : State) : State :=
  actDoor 3 h rsv targetPos vLimit s
def execDoorNudgeClose (h : Hdr) (rsv : Bool) (targetPos vLimit : U32) (s : State) :
    Host.Outcome State Fault Refusal :=
  hostRow s (.doorNudgeClose h rsv targetPos vLimit) h 0x28 8 (actDoorNudgeClose h rsv targetPos vLimit)

def actDoorHoldOpen (h : Hdr) (rsv : Bool) (targetPos vLimit : U32) (s : State) : State :=
  actDoor 4 h rsv targetPos vLimit s
def execDoorHoldOpen (h : Hdr) (rsv : Bool) (targetPos vLimit : U32) (s : State) : Host.Outcome State Fault Refusal :=
  hostRow s (.doorHoldOpen h rsv targetPos vLimit) h 0x28 8 (actDoorHoldOpen h rsv targetPos vLimit)

def actDoorReleaseHold (h : Hdr) (rsv : Bool) (targetPos vLimit : U32) (s : State) : State :=
  actDoor 5 h rsv targetPos vLimit s
def execDoorReleaseHold (h : Hdr) (rsv : Bool) (targetPos vLimit : U32) (s : State) :
    Host.Outcome State Fault Refusal :=
  hostRow s (.doorReleaseHold h rsv targetPos vLimit) h 0x28 8 (actDoorReleaseHold h rsv targetPos vLimit)

def actDoorReference (h : Hdr) (rsv : Bool) (targetPos vLimit : U32) (s : State) : State :=
  actDoor 6 h rsv targetPos vLimit s
def execDoorReference (h : Hdr) (rsv : Bool) (targetPos vLimit : U32) (s : State) : Host.Outcome State Fault Refusal :=
  hostRow s (.doorReference h rsv targetPos vLimit) h 0x28 8 (actDoorReference h rsv targetPos vLimit)

/-- NUDGE_TIMER_EXPIRY (R148): `door_nudge_after_s` of accumulated curtain interruption. -/
def execNudgeTimerExpiry (op : Fin 16) (s : State) : Host.Outcome State Fault Refusal :=
  let x := s.door op
  .next (if s.doorsRun op && x.closeDemand && !x.holdOpen && x.state != .closedLocked && x.referenced
      && s.parN 0x4051 op != 0 then (demandClose s op x.vLimit true).1 else s)

/-- DOOR_DWELL_EXPIRY (R149): the dwell of the stop has run; a held door stays. -/
def execDoorDwellExpiry (op : Fin 16) (s : State) : Host.Outcome State Fault Refusal :=
  let x := s.door op
  .next (if s.doorsRun op && x.dwell && !x.holdOpen && x.state == .opened then (demandClose s op 0 false).1 else s)

/-- `DOOR_STATUS` reply (Table 07.5). -/
def doorStatusReply (s : State) (d : Nat) : Bytes :=
  let x := s.door d
  let capped := match x.plan with | some p => p.capped | none => false
  le 1 stOk ++ le 1 (doorCode s d)
    ++ le 2 (b2n x.estValid + 2 * b2n x.curtain + 4 * b2n x.holdOpen + 8 * b2n x.stalled + 16 * b2n capped
      + 32 * b2n x.nodeLost + 64 * b2n (x.tableChange || x.tableDown) + 128 * b2n (s.carSaf (doorCar d)).advBridge
      + 256 * b2n (x.state == .faulted))
    ++ leI 4 x.pos ++ leI 4 x.refSpeed ++ leI 4 x.estSpeed ++ leI 2 (rndDiv (x.delta * 3600) 12288)
    ++ le 2 x.amplitude ++ leI 2 (clampI (-32768) 32767 (fdiv x.force 1000000))
    ++ leI 2 (fdiv (frictionAt s d x.pos) 1000000) ++ leI 2 (clampI (-32768) 32767 (fdiv x.lastObstForce 1000000))
    ++ le 1 x.lastCause ++ le 1 x.reopens ++ leI 4 x.lastObstPos ++ le 2 x.address ++ le 1 (s.parN 0x4004 d) ++ le 1 0
    ++ le 4 x.tableCrc.toNat ++ le 4 x.closes ++ le 4 x.obstructions ++ le 4 x.nearMisses

def actDoorStatus (h : Hdr) (rsv : Bool) (s : State) : State :=
  serve s h { op := 0x29, insts := 16, len := 52, lenOk := h.len == 0, checks := [(rsv, stBadParam)] }
    (fun s => (s, doorStatusReply s h.inst.toNat))

def execDoorStatus (h : Hdr) (rsv : Bool) (s : State) : Host.Outcome State Fault Refusal :=
  hostRow s (.doorStatus h rsv) h 0x29 52 (actDoorStatus h rsv)

/-! ### Tables: requests and downloads (R132, R133) -/

/-- Operators whose slot is `n`. -/
def State.slotUsers (s : State) (n : Nat) : List Nat :=
  (List.range 16).filter (fun d => s.doorPresent d && s.com 0x4004 d == n)

def writeTable (s : State) (n phases : Nat) (entries : List Int) : State × Bytes :=
  if phases != s.slotPhases n && !(s.slotUsers n).isEmpty then (s, refusal 8 stBadParam)
  else if !tableOkR132 phases entries then (s, refusal 8 stRange)
  else
    let changed := decide (entries ≠ s.slotTable n)
    let s := s.modDoorSlot n (fun _ =>
      if entries = defaultTable phases ∧ phases = (if n % 2 == 0 then 2 else 3) then {}
      else { phases := phases, entries := some entries })
    let s := if changed then forEach (s.slotUsers n) (fun s d =>
        tableDownload (s.modDoor d (fun x => { x with tableChange := true })) d) s
      else s
    (s, refusal 4 stOk ++ le 4 (crc32c (tableBytes entries)).toNat)

def actDoorTableWrite (h : Hdr) (rsv : Bool) (phases : U8) (count : U16) (entries : List U16) (s : State) : State :=
  serve s h { op := 0x2A, insts := 4, len := 8, lenOk := h.len == 4 + 2 * count.toNat, mirrored := true
              checks := [(rsv || !(phases == 2 || phases == 3), stBadParam),
                (count.toNat != tableLen phases.toNat, stRange)] }
    (fun s => writeTable s h.inst.toNat phases.toNat (entries.map (fun e => e.toInt)))

def execDoorTableWrite (h : Hdr) (rsv : Bool) (phases : U8) (count : U16) (entries : List U16) (s : State) :
    Host.Outcome State Fault Refusal :=
  if Instr.wellFormed (.doorTableWrite h rsv phases count entries) then
    hostRow s (.doorTableWrite h rsv phases count entries) h 0x2A 8 (actDoorTableWrite h rsv phases count entries)
  else .fault .illFormed

def tableReply (s : State) (n : Nat) : Bytes :=
  let t := s.slotTable n
  le 1 stOk ++ le 1 (s.slotPhases n) ++ le 2 t.length ++ le 4 (s.slotCrc n).toNat ++ tableBytes t

def actDoorTableRead (h : Hdr) (rsv : Bool) (s : State) : State :=
  serve s h { op := 0x2B, insts := 4, len := 8, lenOk := h.len == 0, checks := [(rsv, stBadParam)] }
    (fun s => (s, tableReply s h.inst.toNat))

def execDoorTableRead (h : Hdr) (rsv : Bool) (s : State) : Host.Outcome State Fault Refusal :=
  hostRow s (.doorTableRead h rsv) h 0x2B 8 (actDoorTableRead h rsv)

/-- The node's confirmation of a download (R133): a match makes the operator startable, after a change
unreferenced (R139); one mismatch is retried. -/
def crcConfirm (s : State) (d : Nat) (crc : U32) : State :=
  let x := s.door d
  let s := s.modDoor d (fun x => { x with tableCrc := crc })
  if crc == s.slotCrc (s.parN 0x4004 d) then
    let s := s.modDoor d (fun x =>
      { x with tableOk := true, tableDown := false, tableTries := 0, tableChange := false
               referenced := x.referenced && !x.tableChange
               state := if x.tableChange then .unreferenced else x.state })
    if x.tableChange && s.sideLocked (doorCar d) (doorSide d) then referenceNow s d else s
  else if x.tableTries == 0 then s.modDoor d (fun x => { x with tableTries := 1 })
  else
    doorFault (s.modDoor d (fun x => { x with tableDown := false, tableOk := false, tableTries := 2
                                              tableChange := false })) d 0x4140

/-- TABLE_CRC_CONFIRM. -/
def execTableCrcConfirm (op : Fin 16) (crc : U32) (s : State) : Host.Outcome State Fault Refusal :=
  .next (if s.doorsRun op && (s.door op).tableDown then crcConfirm s op crc else s)

/-- A download of the operator's table begins, as when its node joins (R133). -/
def downloadNow (s : State) (d : Nat) : State :=
  s.modDoor d (fun x => { x with tableDown := true, tableOk := false, tableTries := 0, nodeLost := false })

/-- A commit gives the operator another node, or another table: the node in the map is downloaded to at once, a changed
table when the operator is closed and locked (R133). (log entry 98: DESIGN CHOICE) -/
def adoptTables (old s : State) : State :=
  forEach ((List.range 16).filter s.doorPresent) (fun s d =>
    let joined := match s.doorNode d with | some (p, a) => (s.node p a).profile == 3 && (s.node p a).state == 0 | none => false
    if !old.doorPresent d || old.doorNode d != s.doorNode d then if joined then downloadNow s d else s
    else if old.com 0x4004 d != s.com 0x4004 d
        && decide (old.slotTable (old.com 0x4004 d).toNat ≠ s.slotTable (s.com 0x4004 d).toNat) then
      tableDownload (s.modDoor d (fun x => { x with tableChange := true })) d
    else s) s

/-! ### What a commit checks (R155) -/

/-- "Commit at rest" is met for an operator. -/
def State.doorAtRest (s : State) (d : Nat) : Bool :=
  !s.doorPresent d || (s.door d).state == .closedLocked || (s.door d).state == .unreferenced

def doorRules (s : State) (v : Staged) : Refused :=
  eachInst 16 (fun d =>
    failIf (v 0x4003 d != (s.slotPhases (v 0x4004 d).toNat : Nat)) 0x4003 d stBadParam
    ++ failIf (decide (v 0x4040 d ≥ v 0x4043 d)) 0x4040 d stRange
    ++ failIf (decide (v 0x400E d > v 0x4043 d * 1000000 / v 0x4008 d)) 0x400E d stRange)

end Sys2Proof.Machine
end

