-- ==== Sys2Proof/Machine/Hoist.lean ====
section
/-! DEFINITION. Hoist motion (chapter 06): trips, the start and stop sequences, stop classes, jog, brake test,
learning run, and their requests. Admission of a start stands in Power.lean. -/

namespace Sys2Proof.Machine

/-! ### Limits and plans (R106, R108, R20) -/

/-- The car's speed limit in force under R20. -/
def State.speedLimit (s : State) (c : Nat) : Nat :=
  let v := s.parN 0x3001 c
  if s.safEnabled c then min v (s.safetyLimit c) else v

/-- The Inspection limit. -/
def State.inspLimit (s : State) (c v : Nat) : Nat := if s.safEnabled c then min v (s.sfN 0x6005 c) else v

/-- The limit of what the hoist is moving for. -/
def State.moveLimit (s : State) (c : Nat) : Nat :=
  let h := s.hoist c
  let v := s.speedLimit c
  match h.kind with
  | .jog => s.inspLimit c (min v (s.parN 0x3030 c))
  | .learn => s.inspLimit c (min v (s.parN 0x3040 c))
  | .relevel => min v (s.parN 0x300F c)
  | _ => if h.vLimit == 0 then v else min v h.vLimit

/-- The profile keys in force. -/
def profKeys (s : State) (c : Nat) : ProfKeys :=
  let p := fun k : Nat => (s.par k c : Rat)
  { up := { vb := p 0x3004, a1 := p 0x3005, a2 := p 0x3006, j := p 0x3009 }
    dn := { vb := p 0x3004, a1 := p 0x3007, a2 := p 0x3008, j := p 0x3009 }
    vStart := p 0x3002, vStop := p 0x3003, creep := p 0x300A, jLev := p 0x300B }

/-- The jog's shape: `jog_acc` with jerk j, to standstill without creep (R118). -/
def jogKeys (s : State) (c : Nat) : ProfKeys :=
  let sh : Shape := { vb := 0, a1 := s.par 0x3031 c, a2 := s.par 0x3031 c, j := s.par 0x3009 c }
  { up := sh, dn := sh, vStart := 0, vStop := 0, creep := 0, jLev := 1 }

def moveKeys (s : State) (c : Nat) : ProfKeys := if (s.hoist c).kind == .jog then jogKeys s c else profKeys s c

/-- A plan from `x` with speed `v` and acceleration `a` along `dir` to `target`, `fresh` from standstill. A jog has no target:
it is stopped at the end of its range (R118). -/
def planTo (s : State) (c : Nat) (fresh : Bool) (x : Rat) (dir : Int) (v a : Rat) (target : Int) (lim : Nat) : Plan :=
  let d := if (s.hoist c).kind == .jog then 1000000000 else max 1 (dir * ((target : Rat) - x))
  planTrip (moveKeys s c) fresh x dir v a (lim : Int) d target

/-- Direction from a position to a target. -/
def dirTo (x target : Int) : Int := if target < x then -1 else 1

/-- The plan of a trip that starts now. -/
def startPlan (s : State) (c : Nat) (target : Int) : Plan :=
  let x := s.fusedPos c
  planTo s c true x (dirTo x target) 0 0 target (s.moveLimit c)

/-- Direction of the move in progress, or of the last one. -/
def State.moveDir (s : State) (c : Nat) : Int :=
  match (s.hoist c).plan with
  | some p => p.dir
  | none => (s.hoist c).prevDir

/-- One hoist sample in seconds. -/
def hoistDt (s : State) (c : Nat) : Rat := 1 / ((hoistHz (s.par 0x2001 c) : Nat) : Int)

/-! ### Stopping positions and landings (R109) -/

/-- In S12 or S13. (log entry 43: DEDUCED) -/
def creeping (h : Hoist) : Bool :=
  h.phase == .running && (match h.plan with | some p => decide (p.s12At ≤ h.tau) | none => false)

/-- The reference, with its speed and acceleration along the direction of travel (R107). From S10 on its position is the
fused one (R114). -/
def refKin (h : Hoist) : Kin :=
  match h.plan with
  | none => { x := h.refPos, v := 0, a := 0 }
  | some p =>
    let k := planAt p (max 0 h.tau)
    { x := if p.s10At ≤ h.tau && p.s10At != p.endAt then (h.refPos : Rat) else k.x, v := max 0 (p.dir * k.v), a := p.dir * k.a }

/-- The minimum stopping position. -/
def State.minStopPos (s : State) (c : Nat) : Int :=
  let h := s.hoist c
  if h.phase != .running then s.fusedPos c
  else if creeping h then h.targetPos
  else
    let dir := s.moveDir c
    let k := refKin h
    let x := k.x + dir * minStopDist (moveKeys s c) k.v k.a
    if dir < 0 then x.floor else x.ceil

/-- The first served landing along `dir` at or beyond `x`, 0xFF if none. -/
def State.landingBeyond (s : State) (c : Nat) (dir x : Int) : Nat :=
  ((s.landings c).foldl (fun (b : Nat × Option Int) n =>
    let d := dir * (s.landingPos c n - x)
    if d < 0 then b
    else match b.2 with
      | some m => if d < m then (n, some d) else b
      | none => (n, some d)) (0xFF, none)).1

/-- The car stands within `level_tol` of landing `n`. -/
def State.atLanding (s : State) (c n : Nat) : Bool :=
  s.landingPos c n != unset && decide (((s.fusedPos c - s.landingPos c n).natAbs : Int) ≤ s.par 0x300C c)
/-- It stands so at some served landing. -/
def State.atSomeLanding (s : State) (c : Nat) : Bool := (s.landings c).any (fun n => s.atLanding c n)

/-! ### Demands on the outputs (Table 10.1): k = 0 contactor, 1 brake A, 2 brake B, 3 STO release -/

def setDem (s : State) (c : Nat) (d : BitVec 4) : State := s.modHoist c (fun h => { h with dem := d, demEpoch := none })
def brakesOff (d : BitVec 4) : BitVec 4 := d &&& 0b1001

/-- The brakes that a test holds applied. -/
def heldBrakes (h : Hoist) : BitVec 4 := if h.kind == .brakeTest then BitVec.ofNat 4 (2 * h.bt.brakes) else 0

/-- The loops of the car run (R112, R115): with a profile, and in the stop sequence of a move that ran. -/
def loopsRunning (h : Hoist) : Bool :=
  h.ran && (h.phase == .running || h.phase == .brakesSetting || h.phase == .torqueHold)

/-- The loop that delivers the car's torque set-point. -/
def State.torqueLoop (s : State) (c : Nat) : Option Nat :=
  (List.range 64).find? (fun l => s.loopRole l == 1 && s.par 0x210A l == (0x100 + c : Nat))

/-- R111: it takes the pre-torque as its feed-forward, and no loop of the car is left on a lost lane (R297). -/
def State.startable (s : State) (c : Nat) : Bool :=
  match s.torqueLoop c with
  | some l => s.par 0x2109 l == (0x700 + c : Nat)
      && !(List.range 64).any (fun k => s.laneLost k && s.loopCar k == some c)
  | none => false

/-! ### Load and pre-torque (R113) -/

/-- W in kg for the car. -/
def State.carLoad (s : State) (c : Nat) : Int :=
  if s.com 0x3022 c == 0xFFFFFFFF then s.par 0x3023 c
  else match (s.hoist c).load with
    | some w => w
    | none => match s.goodPoint (s.com 0x3022 c) with
      | some v => v
      | none => s.par 0x3023 c

/-- τ_pre, saturated to s16, and to the torque limit of the safety set (R222). -/
def preTorque (s : State) (c : Nat) (w : Int) : Int :=
  let t := rndDiv (8192 * s.par 0x3025 c * (w - s.par 0x3023 c) * 980665) (100 * 100000 * s.par 0x3024 c)
  let t := sat16 t
  if s.safEnabled c then clampI (-(s.sf 0x6040 c)) (s.sf 0x6040 c) t else t

/-! ### The start sequence (R110, R112) -/

/-- A demanded move waits for its admission, `admitFrame` being when the wait began. -/
def requestMove (s : State) (c : Nat) (kind : HKind) (landing : Nat) (pos : Int) (vLimit : Nat) : State :=
  s.modHoist c (fun h =>
    { h with kind := kind, targetLanding := landing, targetPos := pos, vLimit := vLimit, waiting := true
             admitFrame := if h.waiting then h.admitFrame else s.frame
             replanned := false, slowed := false })

/-- The reversal dwell still holds the move back. -/
def dwellBlocks (s : State) (c : Nat) : Bool :=
  let h := s.hoist c
  h.dwellRunning && h.kind != .brakeTest && dirTo (s.fusedPos c) h.targetPos != h.prevDir

/-- The doors allow a start (R112 step 1, R116, R151). -/
def doorsAllow (s : State) (c : Nat) : Bool :=
  s.doorsLocked c || ((s.hoist c).kind == .relevel && (s.carSaf c).relBridge)

/-- Step 1, or step 2 for a car still in its stop sequence (R115). -/
def startSequence (s : State) (c : Nat) : State :=
  let s := s.latch' .nextTrip (some c)
  let s := s.modHoist c (fun h =>
    { h with
      phase := .waitReady, waiting := false, admitFrame := s.frame, load := none, settled := false
      levelled := h.levelled && h.kind == .brakeTest, left := h.left || h.kind != .brakeTest, stopped3 := false
      ran := false, jogStop := false
      stopReq := none, stopClass := if h.stopClass == some 0 then some 0 else none
      relevels := if h.kind == .relevel || h.kind == .brakeTest then h.relevels else 0
      relevelPending := false, pretorque := 0, replanned := false
      dem := brakesOff h.dem
      demEpoch := some 0b1001 })
  (s.modPlaus c (fun p => { p with recorded := false })).modCarFb c (fun f => { f with slipWarned := false })

/-- The hoist drive node of a car: profile 4 on one of its ports. (log entry 70: DEDUCED) -/
def State.driveNode (s : State) (c : Nat) : Option (Nat × Nat) :=
  (s.links.nodes.find? (fun e => e.2.profile == 4 && s.com 0x8005 (e.1 / 256) == c)).map (fun e => (e.1 / 256, e.1 % 256))

def State.driveReady (s : State) (c : Nat) : Bool :=
  match s.driveNode c with
  | some (p, a) => s.nodeState p a == 0 && bitAt (rd (s.node p a).reply 0 2) 0
  | none => false

/-- Steps 2 and 3: contactor confirmed, drive ready, load good; then the pre-torque is placed. -/
def checkReady (s : State) (c : Nat) : State :=
  let h := s.hoist c
  if h.phase != .waitReady then s
  else
    let configured := s.com 0x3022 c != 0xFFFFFFFF
    let now := s.goodPoint (s.com 0x3022 c)
    let s := if configured && h.load.isNone && now.isSome then
        s.modHoist c (fun h => { h with load := now.map (fun v => (v : Int)) }) else s
    if (s.out (outOf c 0)).confirmed && s.driveReady c && (!configured || now.isSome) then
      s.modHoist c (fun h =>
        { h with phase := .settle, pretorque := if h.kind == .brakeTest then 0 else preTorque s c (s.carLoad c) })
    else s

/-- Step 4: the brake outputs that the move lifts are demanded. -/
def liftBrakes (s : State) (c : Nat) : State :=
  s.modHoist c (fun h =>
    { h with phase := .brakesLifting, dem := (h.dem ||| 0b0110) &&& ~~~ (heldBrakes h), settled := false })

/-- Step 5: the loops run and S0 begins at the next hoist sample. -/
def beginRun (s : State) (c : Nat) : State :=
  let h := s.hoist c
  let us := (s.frame - h.admitFrame) * 3125 / 100
  let s := s.modHoist c (fun h =>
    { h with phase := .running, ran := h.kind != .brakeTest, tau := -(hoistDt s c), trips := satN 32 (h.trips + b2n (h.kind != .brakeTest))
             ovh := if h.kind == .brakeTest then h.ovh else (h.ovh ++ [us]).drop ((h.ovh.length + 1) - 16)
             limitIn := s.moveLimit c })
  if h.kind == .brakeTest then
    s.modHoist c (fun h =>
      { h with plan := none, bt := { h.bt with phase := 1, phaseFrame := s.frame, startNm := s.motorNm c } })
  else s.modHoist c (fun h => { h with plan := some (startPlan s c h.targetPos) })

/-- The start is given up, outputs released in the order of the stop sequence; its draw counts until both brakes are
confirmed closed (R185). -/
def abandonStart (s : State) (c : Nat) : State :=
  let closed := s.brakesClosed c
  s.modHoist c (fun h =>
    { h with
      phase := if closed then .torqueRamp else .brakesSetting
      dem := brakesOff h.dem, demEpoch := none, rampFrom := h.pretorque, rampFrame := s.frame
      kind := .none, plan := none, waiting := false, admitFlag := h.admitFlag && !closed, targetLanding := 0xFF })

/-- The hoist is in its start sequence. -/
def starting (h : Hoist) : Bool := h.phase == .waitReady || h.phase == .settle || h.phase == .brakesLifting

/-- PRETORQUE_SETTLE_EXPIRY: `pt_settle_ms` after the pre-torque was placed; a dwell that has not run out keeps
the brakes applied (R110). -/
def settleExpiry (s : State) (c : Nat) : State :=
  let h := s.hoist c
  if h.phase != .settle then s
  else if dwellBlocks s c then s.modHoist c (fun h => { h with settled := true })
  else if h.kind == .brakeTest && h.bt.brakes == 3 then beginRun s c
  else liftBrakes s c

def State.hoistRuns (s : State) : Bool := s.power == .on && (s.incharge || s.follows)

def execPretorqueSettleExpiry (car : Fin 8) (s : State) : Host.Outcome State Fault Refusal :=
  .next (if s.hoistRuns then settleExpiry s car else s)

/-- BRAKES_OPEN_CONFIRMED. -/
def execBrakesOpenConfirmed (car : Fin 8) (s : State) : Host.Outcome State Fault Refusal :=
  .next (if s.hoistRuns && (s.hoist car).phase == .brakesLifting then beginRun s car else s)

/-- START_TIMEOUT: step 5 not reached within `start_timeout_ms`. -/
def execStartTimeout (car : Fin 8) (s : State) : Host.Outcome State Fault Refusal :=
  .next (if s.hoistRuns && starting (s.hoist car) then
    raise (abandonStart s car) { code := 0x3120, sev := 2, inst := car, car := some (car : Nat) } else s)

/-! ### Learning runs (R121 to R125, R430) -/

/-- A learning run aborts with a class 1 stop and event 0x3402 (R123); reasons 6 and 7 bring a stop of their own. -/
def abortLearn (s : State) (c reason : Nat) : State :=
  if (s.hoist c).learn.state != 1 then s
  else
    let s := s.modHoist c (fun h => { h with learn := { h.learn with state := 3, reason := reason } })
    let s := if reason == 6 || reason == 7 then s else s.requestStop c 1
    record s { code := 0x3402, sev := 1, inst := c, car := some c, payload := le 1 reason }

/-- The mean of positions, rounded down. (log entry 46: DEDUCED) -/
def meanPos (l : List Int) : Int := fdiv (l.foldl (· + ·) 0) (max 1 l.length : Nat)

/-- Zones passed on one channel in one pass: entry and exit edges in order. -/
def zonePairs : List (Int × Bool) → List (Int × Int)
  | (a, true) :: (b, false) :: rest => (a, b) :: zonePairs rest
  | _ :: rest => zonePairs rest
  | [] => []

/-- Edges on a channel in a pass. -/
def passEdges (l : Learn) (chan : Nat) (pass : Nat) : List (Int × Bool) :=
  let e := if chan == 0 then l.edgesA else l.edgesB
  let n := if chan == 0 then l.splitA else l.splitB
  if pass == 0 then (if l.pass == 0 then e else e.take n) else e.drop n

/-- Landing positions found: over both channels and passes; none when the counts disagree. (log entry 46: DEDUCED) -/
def learnLandings (l : Learn) (expected : Nat) (bidir : Bool) : Option (List Int) :=
  let up := [zonePairs (passEdges l 0 0), zonePairs (passEdges l 1 0)]
  let down := if bidir then [(zonePairs (passEdges l 0 1)).reverse, (zonePairs (passEdges l 1 1)).reverse] else []
  let all := up ++ down
  if all.all (fun z => z.length == expected) then
    some ((List.range expected).map (fun i =>
      meanPos ((all.map (fun z => match z[i]? with | some (a, b) => [a, b] | none => [])).flatten)))
  else none

/-- A complete run: event 0x3401, staged and learned values. (log entry 46: DEDUCED) -/
def completeLearn (s : State) (c : Nat) : State :=
  let l := (s.hoist c).learn
  match learnLandings l (s.parN 0x3041 c) (s.par 0x3043 c == 1) with
  | none => abortLearn s c 3
  | some found =>
    let sw := (List.range 8).map (fun k =>
      match (tget (dft []) l.swPos (2 * k) ++ tget (dft []) l.swPos (2 * k + 1)).map (·.1) with
      | [] => none
      | ps => some (meanPos ps))
    let land := (List.range 256).map (fun n => (kix (0x3300 + n) c, found.getD n unset))
    let swv := (List.range 8).map (fun k => (kix (0x3060 + k) c, (sw.getD k none).getD unset))
    let put := fun (t : Tbl Int) (e : Nat × Int) => tset (dft unset) t e.1 e.2
    let staged := (land.take found.length ++ swv.filter (fun e => e.2 != unset)).foldl
      (fun t e => tset paramDflt t e.1 e.2) s.params.staged.vals
    let s := { s with params := { s.params with
      learned := (land ++ swv).foldl put s.params.learned
      staged := { s.params.staged with vals := staged } } }
    let s := s.modHoist c (fun h =>
      { h with learn := { h.learn with state := 2, found := found
                                       swFound := (List.range 8).foldl (fun t k => tset (dft none) t k (sw.getD k none)) [] } })
    event s 0x3401 [] c

/-- The switch number that safety input `i` has in the run. -/
def switchNo (l : Learn) (i : Nat) : Option Nat := (List.range 8).find? (fun k => l.switches[k]? == some i)

/-- The fused position at reference cycle `t`, in µm. -/
def State.fusedAt (s : State) (c t : Nat) : Int := fdiv (motorAt s c t + (s.carFb c).c) 1000

/-- A raw edge at reference cycle `t` on a channel of an input in the run: counted, and the fused position there latched if
it is the first since the last confirmed state (R122, R123). -/
def learnRawEdge (s : State) (c input chan t : Nat) : State :=
  let l := (s.hoist c).learn
  if l.state != 1 || !(l.dz == input || (switchNo l input).isSome) then s
  else
    let k := input * 2 + chan
    let e := tget (dft {}) l.chans k
    let e : LearnChan := { e with edges := e.edges + 1, latched := some (e.latched.getD (s.fusedAt c t)) }
    let s := s.modHoist c (fun h => { h with learn := { h.learn with chans := tset (dft {}) h.learn.chans k e } })
    if e.edges > 16 then abortLearn s c 1 else s

/-- Corresponding edges of the two channels differ by more than `learn_chan_tol`. -/
def edgesDiffer (tol : Int) (a b : List (Int × Bool)) : Bool :=
  (a.zip b).any (fun p => decide (((p.1.1 - p.2.1).natAbs : Int) > tol))

/-- The filter confirms a change of state on a channel. -/
def learnConfirmed (s : State) (c input chan : Nat) (level : Bool) : State :=
  let l := (s.hoist c).learn
  if l.state != 1 then s
  else
    let k := input * 2 + chan
    let e := tget (dft {}) l.chans k
    let pos := e.latched.getD (s.fusedPos c)
    let s := s.modHoist c (fun h =>
      { h with learn := { h.learn with chans := tset (dft {}) h.learn.chans k { e with latched := none, level := level } } })
    let tol := s.par 0x3042 c
    let s :=
      if l.dz == input then
        s.modHoist c (fun h => { h with learn :=
          if chan == 0 then { h.learn with edgesA := h.learn.edgesA ++ [(pos, level)] }
          else { h.learn with edgesB := h.learn.edgesB ++ [(pos, level)] } })
      else match switchNo l input with
        | some n => s.modHoist c (fun h => { h with learn := { h.learn with
            swPos := tset (dft []) h.learn.swPos (2 * n + chan) (tget (dft []) h.learn.swPos (2 * n + chan) ++ [(pos, level)]) } })
        | none => s
    let l := (s.hoist c).learn
    let swBad := match switchNo l input with
      | some n => edgesDiffer tol (tget (dft []) l.swPos (2 * n)) (tget (dft []) l.swPos (2 * n + 1))
      | none => false
    if swBad || edgesDiffer tol (passEdges l 0 l.pass) (passEdges l 1 l.pass) then abortLearn s c 2
    else if l.dz == input && l.pass == 0 && !level
        && (zonePairs (passEdges l 0 0)).length == s.parN 0x3041 c
        && (zonePairs (passEdges l 1 0)).length == s.parN 0x3041 c && (s.hoist c).phase == .running then
      -- the exit edge of the last zone: stop `learn_margin` beyond it
      let k := refKin (s.hoist c)
      let target := pos + s.par 0x3044 c
      let dir := s.moveDir c
      if target < s.minStopPos c then
        s.modHoist c (fun h => { h with plan := some (planStop (profKeys s c).dn k.x dir k.v k.a), tau := 0 })
      else
        let p := planTo s c false k.x dir k.v k.a target (s.moveLimit c)
        s.modHoist c (fun h => { h with plan := some p, tau := 0, targetPos := target })
    else s

/-- Start of a pass: where the upward pass heads for, and the target of the downward one. -/
def learnTarget (s : State) (c pass : Nat) : Int :=
  if pass == 0 then s.fusedPos c + 1000000000
  else
    let l := (s.hoist c).learn
    match zonePairs (passEdges l 0 0) with
    | (a, _) :: _ => a - s.par 0x3044 c
    | [] => s.fusedPos c

/-- The downward pass begins. -/
def secondPass (s : State) (c : Nat) : State :=
  let target := learnTarget s c 1
  let s := s.modHoist c (fun h => { h with learn := { h.learn with
    pass := 1, splitA := h.learn.edgesA.length, splitB := h.learn.edgesB.length } })
  requestMove s c .learn 0xFF target 0

/-! ### The brake test (R120) -/

/-- τ_test. -/
def testTorque (s : State) (c : Nat) : Int := fdiv (s.par 0x3050 c * s.par 0x3051 c) 100

/-- The reply of `BRAKE_TEST`. -/
def btReply (s : State) (c st : Nat) : Bytes :=
  let b := (s.hoist c).bt
  le 1 st ++ le 1 b.state ++ le 2 0 ++ leI 2 b.peak ++ le 2 0 ++ leI 4 (fdiv b.moveUp 1000) ++ leI 4 (fdiv b.moveDown 1000)

/-- The test ends with `state`; the outputs go in the order of the stop sequence, and the completion to who asked
(R380). -/
def endTest (s : State) (c state : Nat) : State :=
  let who := (s.hoist c).bt.notify
  let s := s.modHoist c (fun h => { h with bt := { h.bt with state := state, torque := 0, notify := [] }, pretorque := 0 })
  let s := abandonStart s c
  forEach who (fun s n => notifyOn s n.1 0 0x25 c n.2.toNat (btReply s c stOk)) s

/-- Frames of a part of a move of `ms` milliseconds since `frame`, and its length in frames, at least 1. -/
def rampFrames (s : State) (frame : Nat) (ms : Int) : Int × Int :=
  let n := max 1 (32 * ms)
  (min n (s.frame - frame : Nat), n)

/-- Direction of the test phase in progress: up first. -/
def nextTestDir (b : BTest) : Option Int :=
  if b.dir == 0 then (if bitAt b.dirs 0 then some 1 else some (-1))
  else if b.dir == 1 && bitAt b.dirs 1 then some (-1) else none

/-- BRAKE_TEST_PHASE_END: ramp up, hold, ramp down of a direction, then the next direction or the pass. -/
def btPhaseEnd (s : State) (c : Nat) : State :=
  let h := s.hoist c
  if h.bt.state != 1 || h.kind != .brakeTest || h.phase != .running then s
  else if h.bt.phase < 3 then
    s.modHoist c (fun h => { h with bt := { h.bt with phase := h.bt.phase + 1, phaseFrame := s.frame } })
  else match nextTestDir h.bt with
    | some d => s.modHoist c (fun h =>
        { h with bt := { h.bt with phase := 1, dir := d, phaseFrame := s.frame, torque := 0 }, pretorque := 0 })
    | none =>
      let b := h.bt.brakes
      let s := s.modCarSaf c (fun k =>
        { k with btPassA := if bitAt b 0 then s.opTime else k.btPassA
                 btPassB := if bitAt b 1 then s.opTime else k.btPassB })
      endTest (event s 0x3301 [] c) c 2

def execBrakeTestPhaseEnd (car : Fin 8) (s : State) : Host.Outcome State Fault Refusal :=
  .next (if s.hoistRuns then btPhaseEnd s car else s)

/-- A hoist sample of a running test: the ramp, and the movement limit. -/
def testSample (s : State) (c : Nat) : State :=
  let h := s.hoist c
  let dir := if h.bt.dir == 0 then (nextTestDir h.bt).getD 1 else h.bt.dir
  let full := dir * testTorque s c
  let (el, ramp) := rampFrames s h.bt.phaseFrame (s.par 0x3052 c)
  let t := match h.bt.phase with
    | 1 => fdiv (full * el) ramp
    | 2 => full
    | _ => fdiv (full * (ramp - el)) ramp
  let move := s.motorNm c - h.bt.startNm
  let s := s.modHoist c (fun h =>
    { h with
      pretorque := t
      bt := { h.bt with
        dir := dir, torque := t, peak := if h.bt.peak.natAbs < t.natAbs then t else h.bt.peak
        moveUp := if dir == 1 && h.bt.moveUp.natAbs < move.natAbs then move else h.bt.moveUp
        moveDown := if dir == -1 && h.bt.moveDown.natAbs < move.natAbs then move else h.bt.moveDown } })
  if (move.natAbs : Int) > s.par 0x3054 c * 1000 then
    raise (endTest s c 3) { code := 0x3302, sev := 2, inst := c, car := some c }
  else s

/-- A running test is aborted by a stop. -/
def abortTest (s : State) (c : Nat) : State := if (s.hoist c).bt.state == 1 then endTest s c 4 else s

/-! ### Relevelling (R116) -/

/-- The landing at which the car stands: where it levelled, else the nearest one whose door zone it stands in. -/
def State.landingHere (s : State) (c : Nat) : Nat :=
  let h := s.hoist c
  if h.levelled then h.lastLanding else if s.inZone c then s.landingNear c else 0xFF

/-- At standstill with the brakes applied, in the stop sequence or after it (R115). -/
def stopped (h : Hoist) : Bool := h.phase == .idle || h.phase == .torqueHold || h.phase == .torqueRamp

/-- A demand to relevel at the landing where the car stands. The limit is reported once at a stop. -/
def relevelDemand (s : State) (c : Nat) : State :=
  let h := s.hoist c
  let n := s.landingHere c
  if !stopped h || h.waiting || h.learn.state == 1 || h.bt.state == 1 || n == 0xFF || s.landingPos c n == unset || !s.atRest c then s
  else if s.parN 0x3010 c < h.relevels then s
  else if h.relevels == s.parN 0x3010 c then
    raise (s.modHoist c (fun h => { h with relevelPending := false, relevels := h.relevels + 1 }))
      { code := 0x3131, sev := 2, inst := c, car := some c }
  else
    let s := s.modHoist c (fun h => { h with relevelPending := true })
    if s.doorsLocked c || (s.carSaf c).relBridge then
      let s := s.modHoist c (fun h => { h with relevels := h.relevels + 1 })
      requestMove s c .relevel n (s.landingPos c n) 0
    else
      let s := s.modCarSaf c (fun k => { k with relReq := true })
      forEach [2 * c, 2 * c + 1] (fun s d =>
        if s.doorPresent d && !(s.door d).holdOpen && !(s.door d).closeDemand then (demandClose s d 0 false).1 else s) s

/-- RELEVEL_DELAY_EXPIRY: beyond `relevel_start` for `relevel_delay_ms`. -/
def execRelevelDelayExpiry (car : Fin 8) (s : State) : Host.Outcome State Fault Refusal :=
  .next (if s.hoistRuns then relevelDemand s car else s)

/-! ### Stops (R117) -/

/-- Class 3: everything off at once. A car that stood with its brakes applied has stopped already. -/
def emergencyStop (s : State) (c : Nat) : State :=
  let rest := s.atRest c
  let s := (s.carOff c).stopDoors c
  s.modHoist c (fun h =>
    { h with
      phase := if rest then .idle else .emergency, kind := if rest then .none else h.kind, admitFlag := h.admitFlag && !rest, dem := 0, demEpoch := none, plan := none, pretorque := 0, refSpeed := 0, refAcc := 0
      prevDir := match h.plan with | some p => p.dir | none => h.prevDir
      stopClass := if rest then none else some 3, stopped3 := true, waiting := false, stopBehind := false, jogStop := false })

/-- A stop plan in the shape `dn`. -/
def stopPlan (s : State) (c : Nat) (dn : Shape) : State :=
  let k := refKin (s.hoist c)
  let p := planStop dn k.x (s.moveDir c) k.v k.a
  s.modHoist c (fun h => { h with plan := some p, tau := 0, targetPos := p.target, targetLanding := 0xFF })

/-- The deceleration of a class: the jog's, the profile's, or `quick_dec` and `quick_jerk`. -/
def stopShape (s : State) (c cls : Nat) : Shape :=
  if cls == 2 then { vb := 0, a1 := s.par 0x3012 c, a2 := s.par 0x3012 c, j := s.par 0x3013 c }
  else (moveKeys s c).dn

/-- Replan to another target in the direction of travel. -/
def retarget (s : State) (c landing : Nat) (target : Int) : State :=
  let k := refKin (s.hoist c)
  let p := planTo s c false k.x (s.moveDir c) k.v k.a target (s.moveLimit c)
  s.modHoist c (fun h => { h with plan := some p, tau := 0, targetLanding := landing, targetPos := target, replanned := true })

/-- The nearest landing of R109 for the car as it moves. -/
def State.nearestLanding (s : State) (c : Nat) : Nat := s.landingBeyond c (s.moveDir c) (s.minStopPos c)

/-- A class 0 stop of a moving car: to the nearest landing with the normal profile, a jog as well; with none, as class 1
first. -/
def landingStop (s : State) (c : Nat) : State :=
  let s := if (s.hoist c).kind == .jog then s.modHoist c (fun h => { h with kind := .trip }) else s
  let n := s.nearestLanding c
  let held := s.landingPos c n == (s.hoist c).targetPos
  let s := s.modHoist c (fun h => { h with stopClass := some 0, stopBehind := n == 0xFF, jogDir := 0, jogStop := false })
  if n == 0xFF then stopPlan s c (stopShape s c 1)
  else if held then s.modHoist c (fun h => { h with targetLanding := n })
  else retarget s c n (s.landingPos c n)

/-- A stop of class `cls` acts on the car (R117). It is in progress until the car stands with its brakes applied. A learning
run that a stop aborts stops in class 1 at least (R123). -/
def applyStop (s : State) (c cls : Nat) : State :=
  let h := s.hoist c
  let cls := if h.learn.state == 1 then max 1 cls else cls
  let merged := match h.stopClass with | some k => decide (cls ≤ k) | none => false
  if merged then s.modHoist c (fun h => { h with jogStop := false })
  else
    let s := abortTest (abortLearn s c 6) c
    let h := s.hoist c
    if cls == 3 then
      if h.phase == .idle then ((s.carOff c).stopDoors c).modHoist c (fun h =>
        { h with waiting := false, dem := 0, demEpoch := none, stopped3 := true })
      else emergencyStop s c
    else if starting h || h.phase == .brakesSetting then
      let s := if starting h then abandonStart s c else s
      s.modHoist c (fun h => { h with waiting := false, jogStop := false, stopClass := if h.phase == .brakesSetting then some cls else none })
    else if h.phase != .running then s.modHoist c (fun h => { h with waiting := false })
    else if cls == 0 then landingStop s c
    else
      let s := stopPlan s c (stopShape s c cls)
      s.modHoist c (fun h => { h with stopClass := some cls, stopBehind := false, jogStop := false })

/-- The stop requests since the last hoist sample. (log entry 62: DEDUCED) -/
def takeStop (s : State) (c : Nat) : State :=
  match (s.hoist c).stopReq with
  | some k => applyStop (s.modHoist c (fun h => { h with stopReq := none })) c k
  | none => s

/-- The nearest served landing behind a car that a class 0 stop left between landings. -/
def goBehind (s : State) (c : Nat) : State :=
  let h := s.hoist c
  let n := s.landingBeyond c (-h.prevDir) (s.fusedPos c)
  let s := s.modHoist c (fun h => { h with stopBehind := false })
  if n == 0xFF || (s.dcar c).regime == .inspection then s.modHoist c (fun h => { h with stopClass := none })
  else requestMove s c .trip n (s.landingPos c n) 0

/-! ### The stop sequence (R115) -/

/-- The end of a profile: brakes are released with references at rest. -/
def beginStopSeq (s : State) (c : Nat) : State :=
  s.modHoist c (fun h =>
    { h with
      phase := .brakesSetting, dem := brakesOff h.dem, refSpeed := 0, refAcc := 0, refPos := s.fusedPos c
      prevDir := match h.plan with | some p => p.dir | none => h.prevDir, plan := none })

/-- The end of S13: level error, "levelled", event 0x3102 (R114). A position that is no landing has a level error and no
"levelled". (log entry 97: DESIGN CHOICE) -/
def arrive (s : State) (c : Nat) : State :=
  let h := s.hoist c
  let err := s.fusedPos c - h.targetPos
  let whole := (h.kind == .trip || h.kind == .relevel || h.kind == .rescue)
    && (h.stopClass == none || h.stopClass == some 0) && !h.stopBehind
  let level := whole && h.targetLanding != 0xFF
  let s := s.modHoist c (fun h =>
    { h with levelled := level, left := h.left && !level, stopped3 := false, levelError := if whole then err else h.levelError
             lastLanding := if level then h.targetLanding else h.lastLanding
             rescueDone := h.rescueDone || (h.kind == .rescue && level) })
  let ovr := whole && decide ((err.natAbs : Int) > s.par 0x300C c)
  let s := if ovr then
      event (s.modHoist c (fun h => { h with relevelPending := level })) 0x3102 (leI 4 err ++ le 1 h.targetLanding) c
    else s
  let s := beginStopSeq s c
  if h.kind == .learn && h.learn.state == 1 && (h.learn.pass == 1 || s.par 0x3043 c != 1) then completeLearn s c else s

/-- BRAKES_CLOSED_CONFIRMED: the reversal dwell starts, the draw ends, a stop in progress ends. -/
def brakesClosedConfirmed (s : State) (c : Nat) : State :=
  let h := s.hoist c
  let closing := h.phase == .brakesSetting || h.phase == .emergency
  if !closing then s
  else
    let s := s.modHoist c (fun h =>
      { h with
        phase := if h.phase == .emergency then .idle else .torqueHold
        dwellRunning := if h.ran then h.prevDir != 0 else h.dwellRunning
        admitFlag := false, jogStop := false
        kind := if h.waiting then h.kind else .none
        stopClass := if h.stopBehind then h.stopClass else none })
    let s := s.modCarSaf c (fun k => { k with advReq := false, relReq := false })
    if h.stopBehind then goBehind s c else s

def execBrakesClosedConfirmed (car : Fin 8) (s : State) : Host.Outcome State Fault Refusal :=
  .next (if s.hoistRuns then brakesClosedConfirmed s car else s)

/-- TORQUE_HOLD_EXPIRY: the last delivered torque goes onto source 0x07cc and ramps down. -/
def execTorqueHoldExpiry (car : Fin 8) (s : State) : Host.Outcome State Fault Refusal :=
  .next (if s.hoistRuns && (s.hoist car).phase == .torqueHold then
    s.modHoist car (fun h => { h with phase := .torqueRamp, rampFrom := h.torque, pretorque := h.torque, rampFrame := s.frame })
    else s)

/-- TORQUE_RAMP_END: STO release and contactor are released; what is pending at the landing follows. -/
def torqueRampEnd (s : State) (c : Nat) : State :=
  let s := s.modHoist c (fun h => { h with phase := .idle, pretorque := 0, dem := 0, demEpoch := none })
  let h := s.hoist c
  let s := s.modCarSaf c (fun k => { k with relReq := h.relevelPending || (h.waiting && h.kind == .relevel) })
  if h.learn.state == 1 && h.learn.pass == 0 && !h.waiting then secondPass s c
  else if h.relevelPending then relevelDemand s c else s

/-- REVERSAL_DWELL_EXPIRY (R110): brakes held back by the dwell lift now. -/
def execReversalDwellExpiry (car : Fin 8) (s : State) : Host.Outcome State Fault Refusal :=
  let s' := s.modHoist car (fun h => { h with dwellRunning := false })
  .next (if s.hoistRuns && (s.hoist car).dwellRunning then
    if (s.hoist car).phase == .settle && (s.hoist car).settled then liftBrakes s' car else s' else s)

/-- A learning run or brake test occupies the hoist. -/
def hoistTaken (s : State) (c : Nat) : Bool := (s.hoist c).learn.state == 1 || (s.hoist c).bt.state == 1

/-! ### Jog (R118, R119) -/

/-- Positions of landings that are learned. -/
def State.learnedLandings (s : State) (c : Nat) : List Int :=
  ((List.range 256).map (fun n => s.landingPos c n)).filter (· != unset)

/-- Where a jog in a direction must stop. -/
def jogTarget (s : State) (c dir : Nat) : Int :=
  let ls := s.learnedLandings c
  match ls with
  | [] => if dir == 1 then s.fusedPos c + 1000000000 else s.fusedPos c - 1000000000
  | p :: ps => if dir == 1 then ps.foldl max p + s.par 0x3033 c else ps.foldl min p - s.par 0x3033 c

/-- The reference one sample on would be too fast to stop within the jog's range (R118). -/
def jogEnds (s : State) (c : Nat) : Bool :=
  let h := s.hoist c
  match h.plan with
  | none => false
  | some p =>
    let k := planAt p (h.tau + hoistDt s c)
    let room := p.dir * ((jogTarget s c (if p.dir < 0 then 2 else 1) : Rat) - k.x)
    h.kind == .jog && h.stopClass.isNone && decide (room < minStopDist (jogKeys s c) (max 0 (p.dir * k.v)) (p.dir * k.a))

/-- A direction may be jogged: the limit has not been reached. -/
def jogRoom (s : State) (c dir : Nat) : Bool :=
  if dir == 1 then decide (s.fusedPos c < jogTarget s c 1) else decide (jogTarget s c 2 < s.fusedPos c)

/-- The jog ends with a class 1 stop. -/
def endJog (s : State) (c : Nat) : State :=
  let h := s.hoist c
  if h.kind != .jog then s
  else if h.phase == .running then
    if h.stopClass.isSome then s
    else (stopPlan s c (stopShape s c 1)).modHoist c (fun h => { h with stopClass := some 1, jogStop := true })
  else if starting h then abandonStart s c
  else s.modHoist c (fun h => { h with waiting := false })

/-- The jog of a direction begins, goes on or resumes. A press that is held through the end of its jog starts no other.
(log entry 45: DEDUCED) -/
def runJog (s : State) (c dir : Nat) (host : Bool) : State :=
  let h := s.hoist c
  let target := jogTarget s c dir
  let s := s.modHoist c (fun h => { h with jogDir := dir, jogLast := dir, jogHold := true, jogHost := host })
  if h.kind == .jog && h.phase == .running then
    if h.jogStop then retarget (s.modHoist c (fun h => { h with stopClass := none, jogStop := false })) c 0xFF target else s
  else if h.jogDir == dir || (h.kind == .jog && (h.waiting || starting h)) then s
  else requestMove s c .jog 0xFF target 0

/-- A press against the direction of the jog before is ignored, once recorded (R119). -/
def ignorePress (s : State) (c dir : Nat) (host : Bool) : State :=
  event ((endJog s c).modHoist c (fun h => { h with jogIgnored := dir, jogDir := 0, jogHost := host })) 0x3201 (le 1 dir) c

/-- A demand from buttons or host: direction 0 releases. -/
def jogDemand (s : State) (c dir : Nat) (host : Bool) : State :=
  let h := s.hoist c
  if dir == 0 then endJog (s.modHoist c (fun h => { h with jogDir := 0, jogIgnored := 0 })) c
  else if h.jogIgnored == dir then s
  else
    let s := s.modHoist c (fun h => { h with jogIgnored := 0 })
    if h.jogHold && h.jogLast != 0 && h.jogLast != dir then ignorePress s c dir host
    else if h.jogDir != dir && !jogRoom s c dir then s
    else runJog s c dir host

/-- A jog has to wait for what the hoist does: a test, a learning run, a stop that is not the jog's own, or another move. -/
def jogBusy (s : State) (c : Nat) : Bool :=
  let h := s.hoist c
  hoistTaken s c || h.stopReq.isSome || (h.stopClass.isSome && !h.jogStop) || (h.kind != .jog && !stopped h)

/-- JOG_KEEPALIVE_EXPIRY. -/
def execJogKeepaliveExpiry (car : Fin 8) (s : State) : Host.Outcome State Fault Refusal :=
  .next (if s.hoistRuns && (s.hoist car).jogHost && ((s.hoist car).jogDir != 0 || (s.hoist car).jogIgnored != 0) then
    jogDemand s car 0 true else s)

/-- JOG_REVERSAL_HOLD_EXPIRY: STANDSTILL and 300 ms with both buttons released. -/
def execJogReversalHoldExpiry (car : Fin 8) (s : State) : Host.Outcome State Fault Refusal :=
  .next (if s.hoistRuns && s.standstill car && (s.hoist car).jogDir == 0 && (s.hoist car).jogIgnored == 0 then
    s.modHoist car (fun h => { h with jogHold := false, jogLast := 0 }) else s)

/-! ### The hoist sample (R105 to R108, R114) -/

/-- R108: a changed limit replans the move; from S10 on only one below the present speed. (log entry 45: DEDUCED) -/
def limitChange (s : State) (c : Nat) : State :=
  let h := s.hoist c
  let lim := s.moveLimit c
  match h.plan with
  | none => s
  | some p =>
    if h.phase != .running || lim == h.limitIn || (h.stopClass.isSome && h.stopClass != some 0) then s
    else
      let s := s.modHoist c (fun h => { h with limitIn := lim, slowed := decide ((lim : Int) < p.vPeak) })
      let k := refKin h
      if h.stopBehind || (p.s10At ≤ h.tau && (p.s13At ≤ h.tau || k.v ≤ ((lim : Nat) : Int))) then s
      else s.modHoist c (fun h => { h with plan := some (planTo s c false k.x p.dir k.v k.a h.targetPos lim), tau := 0 })

/-- The time that the profile takes next: the creep ends when the final-stop distance is left, and goes on until then. -/
def nextTau (p : Plan) (tau t : Rat) (left : Int) : Rat :=
  if t < p.s12At || p.s13At ≤ tau then t
  else
    let fin := ((planAt p p.endAt).x - (planAt p p.s13At).x) * p.dir
    if (left : Rat) ≤ fin then p.s13At else if t < p.s13At then t else tau

/-- One sample of the profile. -/
def profileSample (s : State) (c : Nat) : State :=
  let h := s.hoist c
  match h.plan with
  | none => s
  | some p =>
    let stop := p.s10At == p.endAt
    let left := p.dir * (h.targetPos - s.fusedPos c)
    let t0 := h.tau + hoistDt s c
    let t := if stop then t0 else nextTau p h.tau t0 left
    if p.endAt ≤ t && (stop || p.s13At ≤ h.tau) then arrive (s.modHoist c (fun h => { h with tau := p.endAt })) c
    else
      let k := planAt p t
      s.modHoist c (fun h =>
        { h with tau := t, refSpeed := k.v.floor, refAcc := k.a.floor
                 refPos := if p.s10At ≤ t && !stop then s.fusedPos c else k.x.floor })

/-- The pre-torque ramp of R115. -/
def rampSample (s : State) (c : Nat) : State :=
  let (el, n) := rampFrames s (s.hoist c).rampFrame (s.par 0x3027 c)
  s.modHoist c (fun h => { h with pretorque := fdiv (h.rampFrom * (n - el)) n })

/-- Requests of R150 and R116 for bridging. -/
def bridgeRequests (s : State) (c : Nat) : State :=
  let h := s.hoist c
  let adv := creeping h && h.stopClass.isNone && (h.kind == .trip || h.kind == .rescue)
  s.modCarSaf c (fun k => { k with advReq := adv || (k.advReq && h.phase == .brakesSetting) })

/-- HOIST_SAMPLE of car `c`: observer, stops, profile, loops, plausibility. The shadow computation of a block under test is
suspended (R49). -/
def hoistSample (s : State) (c : Nat) : State :=
  let hz := hoistHz (s.par 0x2001 c)
  let s := if s.suspended 0x08 then s else fbHoistSample s c hz ((s.hoist c).refSpeed != 0)
  if !s.hoistRuns || s.suspended 0x0A then s
  else
    let s := takeStop s c
    let s := if (s.hoist c).learn.state == 1 && !s.fusedOk c then abortLearn s c 4 else s
    let s := limitChange (if jogEnds s c && (s.hoist c).phase == .running then endJog s c else s) c
    let s := match (s.hoist c).phase with
      | .running => if (s.hoist c).kind == .brakeTest then testSample s c else profileSample s c
      | .torqueRamp => rampSample s c
      | .brakesSetting => s.modHoist c (fun h => { h with refPos := s.fusedPos c })
      | .torqueHold => s.modHoist c (fun h => { h with refPos := s.fusedPos c })
      | .idle => if (s.hoist c).relevelPending && (s.doorsLocked c || (s.carSaf c).relBridge)
          then relevelDemand s c else s
      | _ => s
    let s := bridgeRequests s c
    let run := loopsRunning (s.hoist c)
    let tau := (s.hoist c).torque
    let s := forEach (s.ownLoops 1 c) (fun s l => loopSample s l (!run)) s
    let out := match s.torqueLoop c with
      | some l => if (s.hoist c).phase == .emergency then 0 else sat16 (s.loop l).delivered
      | none => 0
    let s := s.modHoist c (fun h => { h with torque := out })
    endReactions (plausSample s c hz tau (s.carLoad c))

/-! ### Requests (R127) -/

/-- R127: COMMISSION, or SERVICE in one of the regimes given. -/
def motionHostOk (s : State) (c : Nat) (regimes : List Regime) : Bool :=
  s.mode == .commission || regimes.contains (s.dcar c).regime

def tripReply (st nearest reason : Nat) (minStop : Int) (us : Nat) (peak : Int) : Bytes :=
  le 1 st ++ le 1 nearest ++ le 1 reason ++ le 1 0 ++ leI 4 minStop ++ le 4 us ++ leI 4 peak

def usOf (t : Rat) : Nat := (t * 1000000).floor.toNat

/-- A start with a new target meets the reversal dwell, or is no longer held by it (R110). -/
def dwellAgain (s : State) (c : Nat) : State :=
  let h := s.hoist c
  if h.phase == .brakesLifting && dwellBlocks s c then
    s.modHoist c (fun h => { h with phase := .settle, settled := true, dem := brakesOff h.dem })
  else if h.phase == .settle && h.settled && !dwellBlocks s c then liftBrakes s c
  else s

/-- A target for a car. -/
def takeTarget (s : State) (c landing : Nat) (target : Int) (vLimit : Nat) : State × Bytes :=
  let h := s.hoist c
  let ok := fun (s : State) (p : Plan) =>
    tripReply stOk 0xFF 0 (s.minStopPos c) (usOf p.endAt) (p.dir * p.vPeak)
  if h.phase == .running then
    let dir := s.moveDir c
    let min_ := s.minStopPos c
    if target == h.targetPos then
      let s := s.modHoist c (fun h => { h with vLimit := vLimit })
      (s, ok s (h.plan.getD {}))
    else if dir * (target - min_) < 0 then
      let reason := if dir * (target - h.refPos) < 0 then 1 else 2
      (s, tripReply stUnreachable (s.landingBeyond c dir min_) reason min_ 0 0)
    else
      let s := retarget (s.modHoist c (fun h => { h with vLimit := vLimit })) c landing target
      (s, ok s ((s.hoist c).plan.getD {}))
  else if landing != 0xFF && s.atLanding c landing && s.standstill c then
    let s := if starting h || h.waiting then
        (if starting h then abandonStart s c else s.modHoist c (fun h => { h with waiting := false })) else s
    (s, tripReply stOk 0xFF 0 (s.minStopPos c) 0 0)
  else if starting h then
    let s := s.modHoist c (fun h => { h with kind := .trip, targetLanding := landing, targetPos := target, vLimit := vLimit })
    let s := dwellAgain s c
    (s, ok s (startPlan s c target))
  else
    let s := requestMove s c .trip landing target vLimit
    (s, ok s (startPlan s c target))

/-- Log entry 44: DEDUCED. -/
def tripTarget (s : State) (c kind landing : Nat) (position : Int) (vLimit : Nat) : State × Bytes :=
  let no := fun st => (s, tripReply st 0xFF 0 0 0 0)
  let target := if kind == 0 then s.landingPos c landing else position
  if !motionHostOk s c [.independent, .outOfService] || (kind == 1 && s.mode != .commission) then no stWrongMode
  else if !s.startable c || (kind == 0 && (target == unset || !(s.serves c landing 0 || s.serves c landing 1))) then
    no stBadParam
  else if (s.hoist c).stopClass.isSome || (s.hoist c).stopReq.isSome || hoistTaken s c
      || ((s.hoist c).kind == .jog && (s.hoist c).phase != .idle) then no stBusy
  else takeTarget s c (if kind == 0 then landing else 0xFF) target vLimit

def actTripTarget (h : Hdr) (rsv : Bool) (kind landing : U8) (position vLimit : U32) (s : State) : State :=
  serve s h { op := 0x20, insts := 8, len := 16, lenOk := h.len == 12, mirrored := true, fixed := [0xFF]
              checks := [(rsv || kind.toNat > 1 || (kind == 0 && position != 0) || (kind == 1 && landing != 0), stBadParam)] }
    (fun s => tripTarget s h.inst.toNat kind.toNat landing.toNat position.toInt vLimit.toNat)

def execTripTarget (h : Hdr) (rsv : Bool) (kind landing : U8) (position vLimit : U32) (s : State) :
    Host.Outcome State Fault Refusal :=
  hostRow s (.tripTarget h rsv kind landing position vLimit) h 0x20 16 (actTripTarget h rsv kind landing position vLimit)

/-- `JOG`. (log entry 44: DEDUCED) -/
def hostJog (s : State) (c dir : Nat) : State × Bytes :=
  let no := fun st => (s, refusal 8 st)
  let host := s.par 0x3034 c == 1
  if !(s.mode == .commission || ((s.dcar c).regime == .inspection && host)) then no stWrongMode
  else if !s.startable c then no stBadParam
  else if jogBusy s c then no stBusy
  else
    let s := jogDemand s c dir true
    (s, refusal 1 stOk ++ le 1 (s.hoist c).jogDir ++ le 2 0 ++ leI 4 (s.hoist c).refSpeed)

def actJog (h : Hdr) (rsv : Bool) (direction : U8) (s : State) : State :=
  serve s h { op := 0x21, insts := 8, len := 8, lenOk := h.len == 4, mirrored := true
              checks := [(rsv || direction.toNat > 2, stBadParam)] }
    (fun s => hostJog s h.inst.toNat direction.toNat)

def execJog (h : Hdr) (rsv : Bool) (direction : U8) (s : State) : Host.Outcome State Fault Refusal :=
  hostRow s (.jog h rsv direction) h 0x21 8 (actJog h rsv direction)

/-- `STOP`: class 3 acts at once, the others from the next hoist sample; the reply is what will be in force. -/
def hostStop (s : State) (c cls : Nat) : State × Bytes :=
  let after := applyStop (s.requestStop c cls) c cls
  let a := after.hoist c
  let inForce := match a.stopClass with | some k => k | none => cls
  let land := if inForce == 0 && !a.stopBehind then a.targetLanding else 0xFF
  let pos := if inForce == 3 || a.phase != .running then s.fusedPos c else a.targetPos
  let s' := if cls == 3 then after.modHoist c (fun h => { h with stopReq := none }) else s.requestStop c cls
  (s', refusal 1 stOk ++ le 1 inForce ++ le 1 land ++ le 1 0 ++ leI 4 pos)

def actStop (h : Hdr) (rsv : Bool) (cls : U8) (s : State) : State :=
  serve s h { op := 0x22, insts := 8, len := 8, lenOk := h.len == 4, mirrored := true, fixed := [0, 0xFF]
              checks := [(rsv || cls.toNat > 3, stBadParam)] }
    (fun s => hostStop s h.inst.toNat cls.toNat)

def execStop (h : Hdr) (rsv : Bool) (cls : U8) (s : State) : Host.Outcome State Fault Refusal :=
  hostRow s (.stop h rsv cls) h 0x22 8 (actStop h rsv cls)

/-- The state code of Table 06.5. -/
def motionState (s : State) (c : Nat) : Nat :=
  let h := s.hoist c
  if !s.startable c then 9
  else if h.bt.state == 1 then 8
  else if h.learn.state == 1 then 7
  else if h.phase == .idle then 0
  else if h.kind == .jog && h.phase == .running then 5
  else if h.kind == .relevel && h.phase == .running then 6
  else if starting h then 1
  else if h.phase == .running && h.stopClass.isSome then 4
  else if h.phase == .running then if creeping h then 3 else 2
  else 4

/-- The mean of the last 16 start overheads in µs; those not yet measured count as `ovh_seed_ms` (R126). -/
def startOvhUs (s : State) (c : Nat) : Nat :=
  let l := (s.hoist c).ovh
  (l.foldl (· + ·) 0 + (16 - l.length) * s.parN 0x3029 c * 1000) / 16

/-- `MOTION_STATUS` reply. -/
def motionReply (s : State) (c : Nat) : Bytes :=
  let h := s.hoist c
  let left := match h.plan with | some p => usOf (max 0 (p.endAt - h.tau)) | none => 0
  let peak := match h.plan with | some p => p.dir * p.vPeak | none => 0
  let waitLoad := h.phase == .waitReady && s.com 0x3022 c != 0xFFFFFFFF && (s.goodPoint (s.com 0x3022 c)).isNone
  le 1 stOk ++ le 1 (motionState s c) ++ le 1 (h.stopClass.getD 0xFF) ++ le 1 h.targetLanding
    ++ le 2 (b2n h.levelled + 2 * b2n (s.atSomeLanding c) + 4 * b2n h.replanned + 8 * b2n h.slowed
      + 16 * b2n h.dwellRunning + 32 * b2n h.jogHold + 64 * b2n h.relevelPending + 128 * b2n waitLoad)
    ++ le 1 h.lastLanding ++ le 1 (min h.relevels (s.parN 0x3010 c)) ++ leI 4 h.targetPos ++ leI 4 h.refPos ++ leI 4 h.refSpeed
    ++ leI 4 h.refAcc ++ leI 4 peak ++ le 4 left ++ leI 4 (s.minStopPos c) ++ leI 2 h.pretorque ++ leI 2 h.torque
    ++ leI 4 h.levelError
    ++ le 4 (startOvhUs s c) ++ le 4 h.trips

def actMotionStatus (h : Hdr) (rsv : Bool) (s : State) : State :=
  serve s h { op := 0x23, insts := 8, len := 52, lenOk := h.len == 0, checks := [(rsv, stBadParam)] }
    (fun s => (s, motionReply s h.inst.toNat))

def execMotionStatus (h : Hdr) (rsv : Bool) (s : State) : Host.Outcome State Fault Refusal :=
  hostRow s (.motionStatus h rsv) h 0x23 52 (actMotionStatus h rsv)

/-- `LEARN_RUN` reply. -/
def learnReply (s : State) (c st : Nat) : Bytes :=
  let l := (s.hoist c).learn
  let edges := fun k => match l.switches[k]? with
    | some i => if i == 0xFF then 0
        else max (tget (dft {}) l.chans (2 * i)).edges (tget (dft {}) l.chans (2 * i + 1)).edges
    | none => 0
  le 1 st ++ le 1 l.state ++ le 1 (if l.state == 3 then l.reason else 0) ++ le 1 0 ++ le 2 l.found.length ++ le 2 0
    ++ ((List.range 8).map (fun k =>
      leI 4 ((tget (dft none) l.swFound k).getD 0) ++ le 1 (satN 8 (edges k)) ++ zeros 3)).flatten
    ++ (l.found.map (leI 4)).flatten

/-- A read uses none of the fields: they are zero, or 0xFF where the layout has that for an unused switch (R376). -/
def learnReadChecks (rsv : Bool) (dz nSwitch : Nat) (sw : List Nat) : List (Bool × Nat) :=
  [(rsv || dz != 0 || nSwitch != 0 || sw.any (fun x => x != 0 && x != 0xFF), stBadParam)]

/-- What a `LEARN_RUN` request's fields must keep. -/
def learnChecks (rsv : Bool) (dz nSwitch : Nat) (sw : List Nat) (used : Bool) : List (Bool × Nat) :=
  if used then
    [(rsv || (sw.drop nSwitch).any (· != 0xFF), stBadParam),
      (dz > 95 || nSwitch > 8 || (sw.take nSwitch).any (fun i => i > 95), stRange)]
  else [(rsv, stBadParam)]

def actLearnRunRead (h : Hdr) (rsv : Bool) (dzInput nSwitch : U8) (switches : List U8) (s : State) : State :=
  serve s h { op := 0x24, insts := 8, len := 72, lenOk := h.len == 12, isRead := true
              checks := learnReadChecks rsv dzInput.toNat nSwitch.toNat (switches.map (·.toNat)) }
    (fun s => (s, learnReply s h.inst.toNat stOk))

def execLearnRunRead (h : Hdr) (rsv : Bool) (dzInput nSwitch : U8) (switches : List U8) (s : State) :
    Host.Outcome State Fault Refusal :=
  if Instr.wellFormed (.learnRunRead h rsv dzInput nSwitch switches) then
    hostRow s (.learnRunRead h rsv dzInput nSwitch switches) h 0x24 72 (actLearnRunRead h rsv dzInput nSwitch switches)
  else .fault .illFormed

/-- R121. (log entry 44: DEDUCED) -/
def startLearn (s : State) (c dz : Nat) (sw : List Nat) : State × Bytes :=
  let h := s.hoist c
  if !s.fusedOk c then (s, refusal 72 stWrongMode)
  else if !s.startable c then (s, refusal 72 stBadParam)
  else if !s.standstill c || hoistTaken s c || h.waiting || h.phase != .idle || h.stopReq.isSome then
    (s, refusal 72 stBusy)
  else
    let s := s.latch' .nextLearn (some c)
    let s := s.modHoist c (fun h => { h with learn := { state := 1, dz := dz, switches := sw } })
    let s := requestMove s c .learn 0xFF (learnTarget s c 0) 0
    (s, learnReply s c stOk)

def actLearnRunStart (h : Hdr) (rsv : Bool) (dzInput nSwitch : U8) (switches : List U8) (s : State) : State :=
  serve s h { op := 0x24, insts := 8, len := 72, lenOk := h.len == 12, mirrored := true
              checks := learnChecks rsv dzInput.toNat nSwitch.toNat (switches.map (·.toNat)) true }
    (fun s => startLearn s h.inst.toNat dzInput.toNat ((switches.map (·.toNat)).take nSwitch.toNat))

def execLearnRunStart (h : Hdr) (rsv : Bool) (dzInput nSwitch : U8) (switches : List U8) (s : State) :
    Host.Outcome State Fault Refusal :=
  if Instr.wellFormed (.learnRunStart h rsv dzInput nSwitch switches) then
    hostRow s (.learnRunStart h rsv dzInput nSwitch switches) h 0x24 72 (actLearnRunStart h rsv dzInput nSwitch switches)
  else .fault .illFormed

def actLearnRunAbort (h : Hdr) (rsv : Bool) (dzInput nSwitch : U8) (switches : List U8) (s : State) : State :=
  serve s h { op := 0x24, insts := 8, len := 72, lenOk := h.len == 12, mirrored := true
              checks := learnChecks rsv dzInput.toNat nSwitch.toNat (switches.map (·.toNat)) false }
    (fun s => let s := abortLearn s h.inst.toNat 5; (s, learnReply s h.inst.toNat stOk))

def execLearnRunAbort (h : Hdr) (rsv : Bool) (dzInput nSwitch : U8) (switches : List U8) (s : State) :
    Host.Outcome State Fault Refusal :=
  if Instr.wellFormed (.learnRunAbort h rsv dzInput nSwitch switches) then
    hostRow s (.learnRunAbort h rsv dzInput nSwitch switches) h 0x24 72 (actLearnRunAbort h rsv dzInput nSwitch switches)
  else .fault .illFormed

def actBrakeTestRead (h : Hdr) (rsv : Bool) (brakes directions : U8) (s : State) : State :=
  serve s h { op := 0x25, insts := 8, len := 16, lenOk := h.len == 4, isRead := true
              checks := [(rsv || brakes != 0 || directions != 0, stBadParam)] }
    (fun s => (s, btReply s h.inst.toNat stOk))

def execBrakeTestRead (h : Hdr) (rsv : Bool) (brakes directions : U8) (s : State) : Host.Outcome State Fault Refusal :=
  hostRow s (.brakeTestRead h rsv brakes directions) h 0x25 16 (actBrakeTestRead h rsv brakes directions)

/-- R120: where a test may start, and its torque within `u_max`. (log entry 44: DEDUCED) -/
def startTest (s : State) (who : Chan × U16) (c brakes dirs : Nat) : State × Bytes :=
  let h := s.hoist c
  if !motionHostOk s c [.outOfService] || !s.standstill c || !s.atSomeLanding c || !s.doorsLocked c then
    (s, refusal 16 stWrongMode)
  else if !s.startable c then (s, refusal 16 stBadParam)
  else if hoistTaken s c || h.waiting || h.phase != .idle || h.stopReq.isSome then (s, refusal 16 stBusy)
  else
    let s' := s.latch' .nextBrakeTest (some c)
    let umax := match s.torqueLoop c with | some l => (torqueBank s l (s.loop l).active).uMax | none => 0
    if testTorque s' c > umax then (s, refusal 16 stRange)
    else
      let s := s'.modHoist c (fun h => { h with bt := { state := 1, brakes := brakes, dirs := dirs, notify := [who] } })
      let s := requestMove s c .brakeTest 0xFF (s.fusedPos c) 0
      (s, btReply s c stPending)

def actBrakeTestStart (h : Hdr) (rsv : Bool) (brakes directions : U8) (s : State) : State :=
  serve s h { op := 0x25, insts := 8, len := 16, lenOk := h.len == 4, mirrored := true
              checks := [(rsv || brakes.toNat > 3 || directions.toNat > 3 || brakes == 0 || directions == 0, stBadParam)] }
    (fun s => startTest s (h.chan, h.seq) h.inst.toNat brakes.toNat directions.toNat)

def execBrakeTestStart (h : Hdr) (rsv : Bool) (brakes directions : U8) (s : State) : Host.Outcome State Fault Refusal :=
  hostRow s (.brakeTestStart h rsv brakes directions) h 0x25 16 (actBrakeTestStart h rsv brakes directions)

/-! ### What a commit checks (R128) -/

def hoistRules (v : Staged) : Refused :=
  eachInst 8 (fun c =>
    failIf (decide (v 0x3003 c * v 0x300B c > v 0x3007 c * v 0x3007 c)) 0x3003 c stRange
    ++ failIf (decide (v 0x300D c ≤ v 0x300C c)) 0x300D c stRange
    ++ failIf (decide (v 0x3002 c > v 0x3003 c)) 0x3002 c stRange)

end Sys2Proof.Machine
end

