-- ==== Sys2Proof/Machine/Calls.lean ====
section
/-! DEFINITION. Calls, itineraries, the evaluator and group decisions (R156 to R175, R181). -/

namespace Sys2Proof.Machine

/-! ### The call table (R156, R157) -/

def State.call? (s : State) (id : Nat) : Option Call := s.disp.calls.find? (fun c => c.id == id)

def State.modCall (s : State) (id : Nat) (f : Call → Call) : State :=
  { s with disp := { s.disp with calls := s.disp.calls.map (fun c => if c.id == id then f c else c) } }

def liveCall (c : Call) : Bool := c.state ≤ 2
def State.liveCalls (s : State) : Nat := (s.disp.calls.filter liveCall).length

/-- The lowest id of this pair with no record, else the id of its oldest record that is no live call.
(log entry 54: DESIGN CHOICE) -/
def State.freeId (s : State) : Option Nat :=
  match (List.range 4096).find? (fun n => !(s.disp.calls.any (fun c => c.id == s.pairNo * 4096 + n))) with
  | some n => some (s.pairNo * 4096 + n)
  | none => (s.disp.calls.find? (fun c => !liveCall c && c.id / 4096 == s.pairNo)).map (·.id)

/-- A call enters the table under its id; a finished call of the same id goes. (log entry 54: DESIGN CHOICE) -/
def State.putCall (s : State) (c : Call) : State :=
  { s with disp := { s.disp with calls := s.disp.calls.filter (fun x => x.id != c.id) ++ [c] } }

/-- A call waits for no evaluation any more. -/
def State.unqueue (s : State) (id : Nat) : State :=
  { s with disp := { s.disp with
    queue := s.disp.queue.filter (· != id), waiting := s.disp.waiting.filter (· != id)
    redispatch := s.disp.redispatch.filter (fun e => e.1 != id) } }

/-- A call joins the queue. -/
def State.enqueue (s : State) (id : Nat) : State :=
  { s with disp := { s.disp with queue := s.disp.queue ++ [id] } }

/-- A call leaves the table. -/
def State.dropCall (s : State) (id : Nat) : State :=
  { (s.unqueue id) with disp := { (s.unqueue id).disp with calls := s.disp.calls.filter (fun c => c.id != id) } }

/-- A call goes to another pair's table. The entering pair keeps a record of its id, in state 5.
(log entry 88: DESIGN CHOICE) -/
def State.forget (s : State) (id : Nat) : State :=
  if id / 4096 == s.pairNo then (s.unqueue id).modCall id (fun c => { c with state := 5 }) else s.dropCall id

/-- A call that this device holds in its table (R157). (log entry 88: DESIGN CHOICE) -/
def State.heldCall? (s : State) (id : Nat) : Option Call := (s.call? id).filter (fun c => c.state ≤ 4)

/-- A call as another pair takes it over: the giver's requests and fixtures are no business of its own. -/
def foreign (k : Call) : Call := { k with notify := [], point := none }

/-- An inter-pair item leaves with the next inter-pair cycle. -/
def sendItem (s : State) (pair item : Nat) (k : Call) (b : Option Candidate) : State :=
  { s with disp := { s.disp with outItems := s.disp.outItems ++ [(pair, item, k, b)] } }

/-- Another pair decides or holds the call from now on. -/
def State.sentAway (s : State) (id pair : Nat) : State :=
  { s with disp := { s.disp with away := s.disp.away.filter (fun e => e.1 != id) ++ [(id, pair)] } }
/-- It no longer does. -/
def State.cameBack (s : State) (id : Nat) : State :=
  { s with disp := { s.disp with away := s.disp.away.filter (fun e => e.1 != id) } }

/-- A call ends here, complete or cancelled. Its entering pair learns that from a decision item with the call's state.
(log entry 88: DESIGN CHOICE) -/
def endCall (s : State) (id st : Nat) : State :=
  match s.call? id with
  | none => s
  | some k =>
    let s := (s.unqueue id).modCall id (fun c => { c with state := st })
    if id / 4096 == s.pairNo || k.state == 0 then s else sendItem s (id / 4096) 3 { foreign k with state := st } none

/-- Passengers of a call: a hall, car or priority call counts as one. -/
def callPax (c : Call) : Nat := if c.kind == 2 then c.pax else 1
/-- Places that a call's passengers take in the car: a priority call brings nobody who would leave it again. -/
def seats (c : Call) : Nat := if c.kind == 3 then 0 else callPax c

/-- Side of a call at its origin and destination (0 front, 1 rear). -/
def originSide (c : Call) : Nat := b2n (bitAt c.flags 1)
def destSide (c : Call) : Nat := b2n (bitAt c.flags 2)

/-- The local car a board-set number names. -/
def State.localCar (s : State) (n : Nat) : Option Nat := if n < 32 && n / 8 == s.pairNo then some (n % 8) else none

/-! ### Itineraries (R160) -/

def stopAt (landing : Nat) (up down : Bool) (calls : List (Nat × Bool)) : Stop :=
  { landing := landing, priority := false, up := up, down := down, provisional := false, calls := calls }

/-- Passengers of the calls that use a stop as origin or as destination and are in one of the given states. -/
def stopPax (s : State) (k : Stop) (origin : Bool) (states : List Nat) : Nat :=
  (k.calls.filter (fun e => e.2 == origin)).foldl (fun n e => match s.call? e.1 with
    | some c => if states.contains c.state then n + seats c else n
    | none => n) 0

/-- Passengers who board and alight at a stop, those included who have done so at the stop being served. -/
def boardAt (s : State) (k : Stop) : Nat := stopPax s k true [0, 1, 2]
def alightAt (s : State) (k : Stop) : Nat := stopPax s k false [0, 1, 2, 3]
/-- Those who have not yet. -/
def toBoard (s : State) (k : Stop) : Nat := stopPax s k true [0, 1]
def toAlight (s : State) (k : Stop) : Nat := stopPax s k false [0, 1, 2]

/-- The stop is committed for car `c`; `first` says that it is the first of the itinerary. -/
def committed (s : State) (c : Nat) (first : Bool) (k : Stop) : Bool :=
  let h := s.hoist c
  (first && h.phase != .idle && h.targetLanding == k.landing)
    || (first && h.levelled && h.lastLanding == k.landing && !s.doorsLocked c)
    || k.calls.any (fun e => !e.2 && (match s.call? e.1 with | some x => x.state == 2 || x.kind == 1 | none => false))

/-- Stops with their committed flags. -/
def flagged (s : State) (c : Nat) : List (Stop × Bool) :=
  match (s.dcar c).itin with
  | [] => []
  | k :: ks => (k, committed s c true k) :: ks.map (fun x => (x, committed s c false x))

/-- Committed stops go ahead of the others, each part in its order. A destination at such a stop whose call still boards at
a stop behind keeps a stop of its own in its place (R160). -/
def orderItin (s : State) (c : Nat) : State :=
  let fs := flagged s c
  let origins := (((fs.filter (fun e => !e.2)).map (fun e => (e.1.calls.filter (·.2)).map (·.1))).flatten)
  let late := fun (e : Nat × Bool) => !e.2 && origins.contains e.1
  let ahead : List Stop := (fs.filter (·.2)).map (fun e => { e.1 with calls := e.1.calls.filter (fun u => !late u) })
  let behind : List Stop := fs.filterMap (fun e =>
    if !e.2 then some e.1
    else if e.1.calls.any late then some (stopAt e.1.landing false false (e.1.calls.filter late)) else none)
  let l := ahead ++ behind
  if l.length ≤ 64 then s.modDcar c (fun d => { d with itin := l }) else s

/-! ### Prediction (R126, R162) -/

def msOf (t : Rat) : Nat := (t * 1000).floor.toNat

/-- The start overhead of R126 in ms. (log entry 43: DEDUCED) -/
def startOverhead (s : State) (c : Nat) : Nat := startOvhUs s c / 1000

/-- The keys that will govern the car's next trip and its doors' next move are in force. -/
def planned (s : State) (c : Nat) : State :=
  ((s.latch' .nextTrip (some c)).latch' .nextMove (some (2 * c))).latch' .nextMove (some (2 * c + 1))

/-- Planned time of a trip from standstill, in ms. -/
def tripMs (s : State) (c : Nat) (x target : Int) : Nat :=
  if x == target then 0
  else
    let k := profKeys s c
    msOf (planTrip k true x (dirTo x target) 0 0 ((s.speedLimit c : Nat) : Int) ((target - x).natAbs : Int) target).endAt

/-- Times to open and to close an operator, in ms. -/
def doorMove (s : State) (d : Nat) (opening : Bool) : Nat :=
  let k := doorKeys s d opening
  msOf (planDoor k true 0 1 0 ((doorLimit s d opening false).1 : Int) (s.par 0x4006 d) 0 false).endAt

/-- The dwell of a stop on a side. -/
def stopDwell (s : State) (c : Nat) (k : Stop) (side : Nat) : Nat :=
  let g := s.parN 0x5001 c
  let access := k.calls.any (fun e => match s.call? e.1 with | some x => bitAt x.flags 0 | none => false)
  s.dwellBase g k.landing side + s.weight g 5 * (boardAt s k + alightAt s k) + (if access then s.weight g 6 else 0)

/-- Sides a stop's calls use. -/
def stopSides (s : State) (k : Stop) : List Nat :=
  (List.range 2).filter (fun side => k.calls.any (fun e => match s.call? e.1 with
    | some x => (if e.2 then originSide x else destSide x) == side
    | none => false))

/-- Door time of a stop: the longest of its sides. -/
def stopDoorMs (s : State) (c : Nat) (k : Stop) : Nat :=
  (stopSides s k).foldl (fun m side =>
    let d := 2 * c + side
    max m (if s.doorPresent d then doorMove s d true + stopDwell s c k side + doorMove s d false else 0)) 0

/-- Level and depart times (ms from now) of stops, from time `t` at position `x`. -/
def predictFrom (s : State) (c : Nat) : Nat → Int → List Stop → List (Nat × Nat)
  | _, _, [] => []
  | t, x, k :: ks =>
    let y := s.landingPos c k.landing
    let ms := tripMs s c x y
    let level := t + (if x == y then 0 else startOverhead s c + ms)
    let dep := level + stopDoorMs s c k
    (level, dep) :: predictFrom s c dep y ks

/-- The trip under way may go to position `y` instead of its target (R109). -/
def mayRetarget (s : State) (c : Nat) (y : Int) : Bool :=
  let h := s.hoist c
  if h.kind != .trip || h.stopClass.isSome then false
  else if h.phase == .running then !creeping h && decide (0 ≤ s.moveDir c * (y - s.minStopPos c))
  else starting h

/-- Planned time to position `y` from the position and speed of the trip under way, in ms (R126). -/
def movingMs (s : State) (c : Nat) (y : Int) : Nat :=
  let k := refKin (s.hoist c)
  msOf (planTo s c false k.x (s.moveDir c) k.v k.a y (s.moveLimit c)).endAt

/-- Predicted level and depart times of an itinerary of car `c`, from its planned state and the keys that will govern its
trips. -/
def predict (s : State) (c : Nat) (ks : List Stop) : List (Nat × Nat) :=
  let h := s.hoist c
  let s := planned s c
  match ks with
  | [] => []
  | k :: rest =>
    if h.phase == .running && h.targetLanding == k.landing then
      let level := match h.plan with | some p => msOf (max 0 (p.endAt - h.tau)) | none => 0
      let dep := level + stopDoorMs s c k
      (level, dep) :: predictFrom s c dep (s.landingPos c k.landing) rest
    else if h.phase == .running && mayRetarget s c (s.landingPos c k.landing) then
      let level := movingMs s c (s.landingPos c k.landing)
      let dep := level + stopDoorMs s c k
      (level, dep) :: predictFrom s c dep (s.landingPos c k.landing) rest
    else if h.levelled && h.lastLanding == k.landing then
      let dep := stopDoorMs s c k
      (0, dep) :: predictFrom s c dep (s.landingPos c k.landing) rest
    else
      let x := if h.levelled then s.landingPos c h.lastLanding else if h.phase == .running then h.targetPos else s.fusedPos c
      let t := if h.phase == .running then (match h.plan with | some p => msOf (max 0 (p.endAt - h.tau)) | none => 0)
        else if s.doorsLocked c then 0 else max (doorMove s (2 * c) false) (doorMove s (2 * c + 1) false)
      predictFrom s c t x ks

/-- Electrical energy of a trip of `dh` µm with load `w` kg, in mJ. (log entry 52: DEDUCED) -/
def tripEnergy (s : State) (c : Nat) (w dh : Int) : Int :=
  let e := (w - s.par 0x3023 c) * 980665 * dh
  if 0 ≤ e then fdiv (e * 100) (100000000 * s.par 0x5011 c) else fdiv (e * s.par 0x5012 c) (100000000 * 100)

/-- Energy of an itinerary, in mJ. The load of a leg is the car's load changed by `disp_pax_kg` for each passenger
who has boarded or alighted since. (log entry 52: DEDUCED) -/
def itinEnergy (s : State) (c : Nat) : Int → Int → List Stop → Int
  | _, _, [] => 0
  | w, x, k :: ks =>
    let y := s.landingPos c k.landing
    let w' := w + s.par 0x5010 0 * ((boardAt s k : Int) - alightAt s k)
    tripEnergy s c w (y - x) + itinEnergy s c w' y ks

/-- Log entry 52: DEDUCED. -/
def carEnergy (s : State) (c : Nat) (ks : List Stop) : Int :=
  let h := s.hoist c
  let x := if h.levelled then s.landingPos c h.lastLanding else if h.phase == .running then h.refPos else s.fusedPos c
  itinEnergy s c (s.carLoad c) x ks

/-- The load limit holds on every leg. -/
def capacityOk (s : State) (cap : Nat) : Nat → List Stop → Bool
  | _, [] => true
  | n, k :: ks => let m := n - toAlight s k + toBoard s k; decide (m ≤ cap) && capacityOk s cap m ks

/-! ### Insertion (R161) -/

/-- Insert at position `i`. -/
def insertAt (l : List Stop) (i : Nat) (k : Stop) : List Stop := l.take i ++ [k] ++ l.drop i

/-- Merge a call's use into stop `i`. -/
def mergeAt (l : List Stop) (i : Nat) (e : Nat × Bool) (up down : Bool) : List Stop :=
  match l[i]? with
  | some k => l.take i ++ [{ k with calls := k.calls ++ [e], up := k.up || up, down := k.down || down }] ++ l.drop (i + 1)
  | none => l

/-- Positions that a call's origin may take: (itinerary, position of the origin stop). -/
def originSpots (s : State) (c : Nat) (id landing : Nat) (up : Bool) : List (List Stop × Nat) :=
  let fs := flagged s c
  let l := fs.map (·.1)
  let lead := (fs.takeWhile (·.2)).length
  let fresh := ((List.range (l.length + 1)).filter (fun i => lead ≤ i && !((fs.drop i).any (·.2)))).map (fun i =>
    (insertAt l i (stopAt landing up (!up) [(id, true)]), i))
  let merged := ((List.range l.length).filter (fun i => match l[i]? with
      | some k => k.landing == landing && !k.provisional && (if up then k.up || !k.down else k.down || !k.up)
      | none => false)).map (fun i => (mergeAt l i (id, true) up (!up), i))
  (merged ++ fresh).filter (fun e => e.1.length ≤ 64)

/-- The position of a destination behind position `i`: the first at which the car passes it in the call's
direction, position 0 standing at `x0`. True says that the stop there is the destination itself. -/
def destSpot (s : State) (c : Nat) (x0 : Int) (dest : Nat) (up : Bool) (i : Nat) (l : List Stop) : Nat × Bool :=
  let y := s.landingPos c dest
  let at_ := fun (j : Nat) => if j == 0 then x0 else match l[j]? with | some k => s.landingPos c k.landing | none => y
  match (List.range l.length).find? (fun j =>
      i < j && (match l[j]? with
        | some k => k.landing == dest
          || (if up then at_ (j - 1) < y && y < at_ j else at_ j < y && y < at_ (j - 1))
        | none => false)) with
  | some j => (j, match l[j]? with | some k => k.landing == dest | none => false)
  | none => (l.length, false)

/-- Put a call's destination into an itinerary that holds its origin at `i` (none for a car call). -/
def putDest (s : State) (c : Nat) (x0 : Int) (id dest : Nat) (up : Bool) (i : Nat) (l : List Stop) : List Stop × Nat :=
  let (j, merge) := destSpot s c x0 dest up i l
  if merge then (mergeAt l j (id, false) false false, j) else (insertAt l j (stopAt dest false false [(id, false)]), j)

/-- R160: committed stops keep their order ahead of the others. The stop of a car call is a committed one. -/
def orderKept (s : State) (c : Nat) (carCall : Bool) (new_ : List Stop) : Bool :=
  let old := ((flagged s c).filter (·.2)).map (fun e => e.1.landing)
  if carCall then old.isSublist ((new_.take (old.length + 1)).map (·.landing))
  else (new_.take old.length).map (·.landing) == old

/-- The insertion of a car call: among the committed stops, where the car passes its landing. The car is taken where it is,
or at the end of a trip that cannot be changed to the landing (R109). -/
def carCallSpot (s : State) (c : Nat) (k : Call) : List Stop × Nat × Nat :=
  let l := (s.dcar c).itin
  let lead := ((flagged s c).takeWhile (·.2)).length
  let y := s.landingPos c k.dest
  let x := s.fusedPos c
  let next := match l with | q :: _ => s.landingPos c q.landing | [] => y
  let bound := decide (0 < lead) && (s.hoist c).phase == .running && y != next && !mayRetarget s c y
  if bound then
    let (m, j) := putDest s c next k.id k.dest (decide (next ≤ y)) 0 (l.take lead)
    (m ++ l.drop lead, j, j)
  else
    let (m, j) := putDest s c x k.id k.dest (decide (x ≤ y)) 0 (stopAt 0xFF false false [] :: l.take lead)
    (m.drop 1 ++ l.drop lead, j - 1, j - 1)

/-- The feasible itineraries of a call on a car: itinerary, origin position, destination position. -/
def spots (s : State) (c : Nat) (k : Call) : List (List Stop × Nat × Nat) :=
  let x := s.landingPos c k.origin
  let raw : List (List Stop × Nat × Nat) :=
    if k.kind == 1 then
      let l := (s.dcar c).itin
      if (s.dcar c).regime == .independent then
        let merged := l.findIdx? (fun q => q.landing == k.dest)
        match merged with
        | some j => [(mergeAt l j (k.id, false) false false, j, j)]
        | none => [(l ++ [stopAt k.dest false false [(k.id, false)]], l.length, l.length)]
      else [carCallSpot s c k]
    else
      let up := if k.kind == 2 then decide (x < s.landingPos c k.dest) else !(bitAt k.flags 3)
      (originSpots s c k.id k.origin up).map (fun e =>
        if k.kind == 2 then
          let x0 := match e.1 with | q :: _ => s.landingPos c q.landing | [] => x
          let (m, j) := putDest s c x0 k.id k.dest up e.2 e.1
          (m, e.2, j)
        else (e.1, e.2, e.2))
  raw.filter (fun e => e.1.length ≤ 64 && orderKept s c (k.kind == 1) e.1)

/-! ### Cost (R163) -/

/-- Completion of a call in predicted times: the destination levelling, or the origin levelling of a hall call. -/
def doneAt (ks : List Stop) (ts : List (Nat × Nat)) (id : Nat) (origin : Bool) : Option Nat :=
  ((ks.zip ts).find? (fun e => e.1.calls.contains (id, origin))).map (fun e => e.2.1)

def completion (ks : List Stop) (ts : List (Nat × Nat)) (id : Nat) : Option Nat :=
  match doneAt ks ts id false with
  | some t => some t
  | none => doneAt ks ts id true

/-- Added completion time of the other calls, passenger-weighted, in ms. -/
def addedDelay (s : State) (id : Nat) (old new_ : List Stop) (to_ tn : List (Nat × Nat)) : Int :=
  let ids := ((old.map (fun k => k.calls.map (·.1))).flatten).eraseDups.filter (· != id)
  ids.foldl (fun a i => match s.call? i, completion old to_ i, completion new_ tn i with
    | some c, some t0, some t1 => a + callPax c * ((t1 : Int) - t0)
    | _, _, _ => a) 0

/-- Wait and ride of a call in an itinerary. -/
def waitRide (k : Call) (ks : List Stop) (ts : List (Nat × Nat)) : Nat × Nat :=
  if k.kind == 1 then (0, (doneAt ks ts k.id false).getD 0)
  else
    let w := (doneAt ks ts k.id true).getD 0
    (w, match doneAt ks ts k.id false with | some t => t - w | none => 0)

/-- The cost of an insertion, with wait and ride. A call with an earliest wait start waits from then (R175); a
priority call without a named car counts its wait only (R179). -/
def insertionCost (s : State) (c : Nat) (k : Call) (e : List Stop × Nat × Nat) : Candidate :=
  let g := k.group
  let old := (s.dcar c).itin
  let tn := predict s c e.1
  let (w, r) := waitRide k e.1 tn
  let held := if s.frame < k.earliest then (k.earliest - s.frame) / 32 else 0
  let w' := w - held
  let only := k.kind == 3
  let pax : Int := callPax k
  let time := pax * (s.weight g 0 * w' + (if only then 0 else s.weight g 1 * r) : Nat)
  let rest := if only then 0
    else (s.weight g 2 : Int) * addedDelay s k.id old e.1 (predict s c old) tn * 1000
      + (s.weight g 3 : Int) * (carEnergy s c e.1 - carEnergy s c old)
  { car := s.boardCar c, opos := e.2.1, dpos := e.2.2, cost := rndDiv (time * 1000 + rest) 256000, wait := w', ride := r }

/-- The better of two candidates (R164). -/
def better (a b : Candidate) : Bool :=
  a.cost < b.cost || (a.cost == b.cost && (a.car < b.car || (a.car == b.car && a.opos < b.opos)))

def bestOf (l : List (Candidate × List Stop)) : Option (Candidate × List Stop) :=
  l.foldl (fun b x => match b with
    | none => some x
    | some y => if better x.1 y.1 then some x else some y) none

/-- The car may take the call: regime, service, sides, capacity, accessibility (Table 08.1, R176, R179). -/
def mayTake (s : State) (c : Nat) (k : Call) : Bool :=
  let d := s.dcar c
  let named := k.namedCar == 0xFF || k.namedCar == s.boardCar c
  let group := s.par 0x5001 c == (k.group : Int)
  let joins := d.inService && !d.joining && !d.faultOut && !d.leaving && !d.staleOut && !(s.carSaf c).trip
  let origin := s.serves c k.origin (originSide k)
  let dest := s.serves c k.dest (destSide k)
  let access := !(bitAt k.flags 0) || s.par 0x5004 c == 1
  match k.kind with
  | 0 => d.regime == .normal && joins && group && origin && access && named
  | 1 => named && dest && access && (d.regime == .normal || d.regime == .independent || (d.regime == .firefighter && d.recallDone))
  | 2 => d.regime == .normal && joins && group && origin && dest && access && named
  | _ => named && group && !(s.carSaf c).trip && origin && access
    && (if k.level == 1 then d.regime == .evacuation else if k.level == 3 then d.regime == .normal
        else d.regime == .normal || d.regime == .independent || d.regime == .firefighter)

/-- The feasible insertions of a call on a car, with cost. (log entry 53: DEDUCED) -/
def candidates (s : State) (k : Call) (c : Nat) : List (Candidate × List Stop) :=
  let here := (s.call? k.id).any liveCall
  if !mayTake s c k || (!here && 4096 ≤ s.liveCalls) then []
  else if k.kind == 3 then
    -- behind the committed stops and the priority stops it does not pre-empt; the others are re-dispatched from behind it
    let fs := flagged s c
    let lead := (fs.takeWhile (·.2)).map (·.1)
    let stays := fun (q : Stop) => q.priority && (q.calls.isEmpty || q.calls.any (fun e => match s.call? e.1 with
      | some x => x.kind == 3 && decide (x.level ≤ k.level)
      | none => false))
    let rest := (fs.filter (fun e => !e.2)).map (·.1)
    let prio := rest.filter stays
    let stop := { stopAt k.origin false false [(k.id, true)] with priority := true }
    let e := (lead ++ prio ++ [stop] ++ rest.filter (fun q => !stays q), lead.length + prio.length, lead.length + prio.length)
    if e.1.length ≤ 64 && capacityOk s (s.parN 0x5003 c) (s.dcar c).aboard e.1 then [(insertionCost s c k e, e.1)] else []
  else
    -- boarding and alighting of the new call count as if it stood in the table
    let s' := if here then s else s.putCall k
    ((spots s' c k).filter (fun e => capacityOk s' (s.parN 0x5003 c) (s.dcar c).aboard e.1)).map (fun e =>
      (insertionCost s' c k e, e.1))

/-- The best candidate among the given local cars. (log entry 53: DEDUCED) -/
def bestLocal (s : State) (k : Call) (cs : List Nat) : Option (Candidate × List Stop) :=
  bestOf ((cs.map (candidates s k)).flatten)

/-! ### Estimates for other pairs' cars (R166, R174) -/

def regimeCode : Regime → Nat
  | .normal => 0 | .independent => 1 | .inspection => 2 | .firefighter => 3 | .evacuation => 4 | .rescue => 5
  | .outOfService => 6

/-- The least energy of a trip over `dh` with any load up to the car's capacity, in mJ. -/
def leastEnergy (s : State) (c : Nat) (dh : Int) : Int :=
  min (tripEnergy s c 0 dh) (tripEnergy s c (s.par 0x5003 c * s.par 0x5010 0) dh)

/-- The most favourable energy term for a call on a car of its group, in mJ: the least energy of its own trip, with that of
an approach and, for a hall call, a ride over the whole of the group's landings, in either direction. Another pair's keys are
not known here: the least over this pair's cars of the group is taken. (log entry 52: DEDUCED) -/
def bestEnergy (s : State) (k : Call) : Int :=
  let mine := cars8.filter (fun c => s.par 0x5001 c == (k.group : Int))
  mine.foldl (fun m c =>
    let xs := (s.landings c).map (s.landingPos c)
    let span := xs.foldl max (xs.headD 0) - xs.foldl min (xs.headD 0)
    let any := min 0 (min (leastEnergy s c span) (leastEnergy s c (-span)))
    min m (any + (if k.kind == 2 then min 0 (leastEnergy s c (s.landingPos c k.dest - s.landingPos c k.origin)) else any))) 0

/-- The regimes in which a car may take a call of another car's pair. -/
def regimeTakes (k : Call) (regime : Nat) : Bool :=
  if k.kind == 3 then
    if k.level == 1 then regime == 4 else if k.level == 3 then regime == 0 else regime == 0 || regime == 1 || regime == 3
  else regime == 0

/-- The estimate of a summary: car, cost. Wait and arrival are never before the summary's times, less the 4 ms that a
summary may be old, and the weights are taken so that no ride which meets that costs less. A priority call counts its wait
only. (log entry 52: DEDUCED) -/
def estimate1 (s : State) (k : Call) (m : CarSummary) : Option (Nat × Int) :=
  let down := bitAt k.flags 3
  let at_ := fun (landing : Nat) =>
    (m.times.filter (fun t => t.1 == landing && (k.kind != 0 || t.2.1 == down))).foldl (fun b t => match b with
      | none => some (t.2.2 - 4)
      | some v => some (min v (t.2.2 - 4))) (none : Option Nat)
  let ofGroup := match s.servedEntry m.car with | some e => rd e 1 1 == k.group | none => false
  let ww := s.weight k.group 0
  let wr := s.weight k.group 1
  let time : Option Nat := match at_ k.origin, (if k.kind == 2 then at_ k.dest else at_ k.origin) with
    | some w, some d => some (if wr ≤ ww then ww * w + wr * (d - w) else ww * max w d)
    | _, _ => none
  if k.kind == 1 || !regimeTakes k m.regime || !ofGroup || !(k.namedCar == 0xFF || k.namedCar == m.car) then none
  else time.map (fun v =>
    (m.car, rndDiv (((callPax k * v : Nat) : Int) * 1000
      + (if k.kind == 3 then 0 else s.weight k.group 3 * bestEnergy s k)) 256000))

/-- The predicted time at which a car could first level at a landing in a direction: the least over the insertions of a stop
there (R166). -/
def firstLevel (s : State) (c landing : Nat) (down : Bool) : Option Nat :=
  let side := if s.serves c landing 0 then 0 else 1
  let k : Call := { id := 0xFFFF, state := 0, kind := 0, group := s.parN 0x5001 c, origin := landing, dest := 0xFF
                    destGroup := 0xFF, pax := 0, flags := 2 * side + (if down then 8 else 0), namedCar := 0xFF, level := 0
                    car := 0xFF, moves := 0, cost := 0, born := 0, notify := [], point := none, leg2 := none, earliest := 0 }
  (spots s c k).foldl (fun b e => match b, (predict s c e.1)[e.2.1]? with
    | some v, some t => some (min v t.1)
    | none, some t => some t.1
    | b, none => b) none

/-- The car takes calls of its group: in service and not on its way out (R174, R180, R181). -/
def inGroupService (s : State) (c : Nat) : Bool :=
  let d := s.dcar c
  d.inService && !d.joining && !d.faultOut && !d.leaving && !d.staleOut && !(s.carSaf c).trip

/-- The times of a car's summary for the given landings; a car that takes no calls has none. -/
def levelTimes (s : State) (c : Nat) (landings : List Nat) : List (Nat × Bool × Nat) :=
  if !inGroupService s c then []
  else ((landings.filter (fun n => s.serves c n 0 || s.serves c n 1)).map (fun n =>
    [false, true].filterMap (fun down => (firstLevel s c n down).map (fun t => (n, down, t))))).flatten

/-- Estimates of every car that other pairs in reach publish: pair, car, cost. -/
def estimates (s : State) (k : Call) : List (Nat × Nat × Int) :=
  ((List.range 4).map (fun p =>
    let v := s.pairView p
    if p == s.pairNo || !v.inReach then []
    else (v.summaries.filter (fun m => v.member.contains m.car)).filterMap (fun m =>
      (estimate1 s k m).map (fun e => (p, e.1, e.2))))).flatten

/-- The lowest estimate; ties go to the lower car. -/
def lowest (l : List (Nat × Nat × Int)) : Option (Nat × Nat × Int) :=
  l.foldl (fun b x => match b with
    | none => some x
    | some y => if x.2.2 < y.2.2 || (x.2.2 == y.2.2 && x.2.1 < y.2.1) then some x else some y) none

def bestEstimate (s : State) (k : Call) : Option (Nat × Nat × Int) := lowest (estimates s k)

/-- The receiving car of R181 for a call that leaves car `c`: the lowest estimate over this pair's other cars and those of
the others. -/
def receiver (s : State) (c : Nat) (k : Call) : Option (Nat × Nat × Int) :=
  let own := (cars8.filter (fun n => n != c && mayTake s n k)).filterMap (fun n =>
    (estimate1 s k { car := s.boardCar n, regime := regimeCode (s.dcar n).regime, load := s.carLoad n
                     times := levelTimes s n [k.origin, k.dest], domain := 0, motor := 0, regen := 0 }).map (fun e =>
      (s.pairNo, e.1, e.2)))
  lowest (own ++ estimates s k)

/-- Re-dispatch of calls that car `c` gives up: one pass chooses a receiving car for each; calls for other pairs leave with
it, the others at the next epoch boundary (R181). A call with no receiving car stays. -/
def chooseReceivers (s : State) (c : Nat) (ids : List Nat) : State :=
  forEach ids (fun s i => match s.call? i with
    | none => s
    | some k => match receiver s c k with
      | none => s
      | some (p, car, cost) =>
        if p == s.pairNo then { s with disp := { s.disp with redispatch := s.disp.redispatch ++ [(i, car)] } }
        else sendItem s p 2 k (some { car := car, opos := 0, dpos := 0, cost := cost, wait := 0, ride := 0 })) s

/-- The calls begin to be re-dispatched, with event 0x5110. -/
def redispatchCalls (s : State) (c : Nat) (ids : List Nat) : State :=
  if ids.isEmpty then s
  else event (chooseReceivers (s.modDcar c (fun d =>
      { d with removedAt := some s.frame, removing := (d.removing ++ ids).eraseDups })) c ids) 0x5110 (le 2 ids.length) c

/-! ### Serving a stop -/

/-- The fire landing of a car and the side opened there (Table 17.16). -/
def fireLanding (s : State) (c : Nat) : Option Nat := (s.regimeCar (s.boardCar c)).map (fun e => rd e 1 1)
def fireSide (s : State) (c : Nat) : Nat := match s.regimeCar (s.boardCar c) with | some e => rd e 2 1 | none => 0
/-- The recall of the Firefighter regime is still under way, and this is its stop. (log entry 55: DEDUCED) -/
def recallStop (s : State) (c : Nat) (k : Stop) : Bool :=
  (s.dcar c).regime == .firefighter && !(s.dcar c).recallDone && fireLanding s c == some k.landing

/-- A stop whose calls are all gone is removed unless it is committed (R159). -/
def pruneItin (s : State) (c : Nat) : State :=
  let fs := flagged s c
  s.modDcar c (fun d => { d with itin := (fs.filter (fun e => e.2 || !e.1.calls.isEmpty || recallStop s c e.1)).map (·.1) })

/-- A call leaves every itinerary. -/
def unassign (s : State) (id : Nat) : State :=
  forEach cars8 (fun s c =>
    if (s.dcar c).itin.any (fun k => k.calls.any (fun e => e.1 == id)) then
      pruneItin (s.modDcar c (fun d =>
        { d with itin := d.itin.map (fun k => { k with calls := k.calls.filter (fun e => e.1 != id) }) })) c
    else s) s

/-- The car stands levelled at its first stop with its outputs released, or approaches it with bridging for advanced
opening: the doors of the sides in use open. A committed stop that no call uses is passed without opening.
(log entries 51: DEDUCED, 55: DEDUCED) -/
def serveHere (s : State) (c : Nat) : State :=
  let h := s.hoist c
  match (s.dcar c).itin with
  | [] => s
  | k :: rest =>
    let adv := h.phase == .running && (s.carSaf c).advBridge && h.targetLanding == k.landing && !k.provisional
    if adv then forEach (stopSides s k) (fun s side => (demandOpen s (2 * c + side) 0 0).1) s
    else if k.provisional || !h.levelled || h.lastLanding != k.landing || h.phase != .idle then s
    else if recallStop s c k then (demandOpen s (2 * c + fireSide s c) 0 0).1
    else if k.calls.isEmpty then s.modDcar c (fun d => { d with itin := rest })
    else forEach (stopSides s k) (fun s side => (demandOpen s (2 * c + side) 0 0).1) s

/-- The doors of the first stop are open: its origin calls board, its destination calls are done (R159). -/
def boardHere (s : State) (c : Nat) : State :=
  match (s.dcar c).itin with
  | [] => s
  | k :: _ =>
    let b := stopPax s k true [1]
    let ends := k.calls.filter (fun e => !e.2 && (match s.call? e.1 with
      | some x => x.state == 2 || (x.state == 1 && x.kind == 1)
      | none => false))
    let a := stopPax s { k with calls := ends } false [1, 2]
    let s := forEach (k.calls.filter (·.2)) (fun s e =>
      s.modCall e.1 (fun x => if x.state == 1 then { x with state := 2 } else x)) s
    let s := forEach ends (fun s e => endCall s e.1 3) s
    orderItin (s.modDcar c (fun d => { d with aboard := d.aboard - a + b })) c

/-- Doors have opened at the first stop. (log entry 55: DEDUCED) -/
def doorsOpened (s : State) (c : Nat) : State :=
  let h := s.hoist c
  match (s.dcar c).itin with
  | [] => s
  | k :: _ =>
    if k.provisional || !h.levelled || h.lastLanding != k.landing || (s.dcar c).serving then s
    else
      let recalled := recallStop s c k
      boardHere (s.modDcar c (fun d => { d with serving := true, recallDone := d.recallDone || recalled })) c

/-- The doors have closed and locked again: the stop is complete, with the calls that end there.
(log entry 55: DEDUCED) -/
def stopServed (s : State) (c : Nat) : State :=
  match (s.dcar c).itin with
  | [] => s
  | k :: rest =>
    if !(s.dcar c).serving || !s.doorsLocked c then s
    else
      let s := forEach k.calls (fun s e => match s.call? e.1 with
        | some x => if e.2 && x.kind != 2 && x.state == 2 then endCall s e.1 3 else s
        | none => s) s
      -- with no stop left the car counts as empty, whatever its hall calls and car calls have counted
      s.modDcar c (fun d => { d with itin := rest, serving := false, aboard := if rest.isEmpty then 0 else d.aboard })

/-- TORQUE_RAMP_END (R115): the outputs are released; the car serves the stop at which it stands. -/
def execTorqueRampEnd (car : Fin 8) (s : State) : Host.Outcome State Fault Refusal :=
  .next (if s.hoistRuns && (s.hoist car).phase == .torqueRamp then serveHere (torqueRampEnd s car) car else s)

/-! ### Registration (R168, R171, R179) -/

/-- A priority call takes car `c`: the car's other uncommitted calls are re-dispatched, event 0x5130 naming each priority
call that it pre-empts (R179). -/
def preempt (s : State) (c : Nat) (k : Call) : State :=
  let ids := (((flagged s c).filter (fun e => !e.2)).map (fun e => e.1.calls.map (·.1))).flatten.eraseDups.filter (fun i =>
    match s.call? i with
    | some x => i != k.id && x.state == 1 && !(x.kind == 3 && x.level ≤ k.level)
    | none => false)
  let prio := ids.filter (fun i => match s.call? i with | some x => x.kind == 3 | none => false)
  forEach prio (fun s i => event s 0x5130 (le 2 i) c) (redispatchCalls s c ids)

/-- A call's state as it is shown: pending until its assignment is announced (R171). -/
def shownState (k : Call) : Nat := if k.shown == 0xFF && (k.state == 1 || k.state == 2) then 0 else k.state

/-- `CALL_QUERY` reply (Table 08.5). (log entry 54: DESIGN CHOICE) -/
def queryReply (s : State) (k : Call) : Bytes :=
  let (w, r) := match if k.shown == 0xFF then none else s.localCar k.car with
    | some c => if k.state ≤ 2 then waitRide k (s.dcar c).itin (predict s c (s.dcar c).itin) else (0, 0)
    | none => (0, 0)
  le 1 stOk ++ le 1 (shownState k) ++ le 2 k.id ++ le 1 k.kind ++ le 1 k.shown ++ le 1 k.origin ++ le 1 k.dest ++ le 1 k.pax
    ++ le 1 k.moves ++ le 2 0 ++ le 4 w ++ le 4 r ++ leI 4 k.cost ++ le 4 (s.msSince k.born)

/-- An assignment waits for the commit that carries it, with the NOTIFYs of a registration (R171, R188). -/
def announceCall (s : State) (id : Nat) : State :=
  let s := { s with disp := { s.disp with announce := s.disp.announce.filter (fun (e : Nat × Nat) => e.1 != id) ++ [(id, s.epoch + 1)] } }
  match s.call? id with
  | some k => forEach k.notify (fun s n =>
      holdNote s n.1 (note 0 0x12 k.group n.2.toNat (queryReply s { k with shown := k.car }))) s
  | none => s

/-- The transfer entry for two groups: lowest priority, then lowest origin landing. -/
def transferFor (s : State) (g h : Nat) : Option Bytes :=
  (s.transfersTbl.filter (fun e => rd e 0 1 == g && rd e 1 1 == h)).foldl (fun b x => match b with
    | none => some x
    | some y => if rd x 6 1 < rd y 6 1 || (rd x 6 1 == rd y 6 1 && rd x 2 1 < rd y 2 1) then some x else some y) none

/-- The policy gives pair `p` a car of group `g`. -/
def State.pairServes (s : State) (p g : Nat) : Bool :=
  (List.range 8).any (fun i => match s.servedEntry (8 * p + i) with | some e => rd e 1 1 == g | none => false)

/-- Leg 2 is entered with leg 1's decision: here, or at the pair in reach that serves its group. Its wait starts at leg
1's predicted arrival (`ms` from now) plus the walking time (R175). (log entry 53: DEDUCED) -/
def legDue (s : State) (leg1 ms : Nat) : State :=
  match s.call? leg1 with
  | none => s
  | some k => match k.leg2.bind s.call? with
    | none => s
    | some x =>
      if k.state == 0 || x.state != 0 || x.earliest != 0 then s
      else
        let walk := match transferFor s k.group x.group with | some e => msFrames (rd e 4 2) | none => 0
        let x := { x with born := s.frame, earliest := s.frame + msFrames ms + walk }
        let s := s.putCall x
        let peer := (List.range 4).find? (fun p => p != s.pairNo && (s.pairView p).inReach && s.pairServes p x.group)
        match (if cars8.any (fun c => s.par 0x5001 c == (x.group : Int)) then none else peer) with
        | some p => (sendItem (s.forget x.id) p 5 x none).sentAway x.id p
        | none => s.enqueue x.id

/-- A call stands on local car `c` with itinerary `itin`. -/
def assign (s : State) (c : Nat) (k : Call) (cand : Candidate) (itin : List Stop) : State :=
  let s := s.putCall { k with state := 1, car := s.boardCar c, cost := cand.cost
                              moves := if k.state == 0 then k.moves else satN 8 (k.moves + 1) }
  let s := (s.modDcar c (fun d => { d with itin := itin })).cameBack k.id
  let s := orderItin s c
  -- a call for the stop being served boards, or is done, at once
  if (s.dcar c).serving then boardHere s c else s

/-- The trip under way goes to the car's first stop, where that is a car call it can still stop for. -/
def followItin (s : State) (c : Nat) : State :=
  let h := s.hoist c
  match (s.dcar c).itin with
  | [] => s
  | k :: _ =>
    let y := s.landingPos c k.landing
    if k.provisional || h.targetLanding == k.landing || y == unset || !mayRetarget s c y then s
    else if h.phase == .running then retarget s c k.landing y
    else s.modHoist c (fun h => { h with targetLanding := k.landing, targetPos := y })

/-- The decision is registered on local car `c` with itinerary `itin`. -/
def register (s : State) (c : Nat) (k : Call) (cand : Candidate) (itin : List Stop) : State :=
  let first := k.state == 0
  let s := assign s c k cand itin
  let s := if k.kind == 3 then preempt s c k else s
  let us := (s.frame - k.born) * 3125 / 100
  let s := if first then { s with disp := { s.disp with
      decisions := (s.disp.decisions ++ [(s.frame, us)]).filter (fun d => s.frame < d.1 + 32000) } } else s
  let s := announceCall s k.id
  serveHere (followItin (if first then legDue s k.id (cand.wait + cand.ride) else s) c) c

/-- The entering pair decides its own call, or forwards it (R167). Without any candidate the call stays pending at
the end of the queue. -/
def decideOwn (s : State) (k : Call) : State :=
  match bestLocal s k cars8, bestEstimate s k with
  | some (b, l), some (p, _, cost) =>
    if cost < b.cost then (sendItem s p 2 k (some b)).sentAway k.id p else register s (b.car % 8) k b l
  | some (b, l), none => register s (b.car % 8) k b l
  | none, some (p, _, _) => (sendItem s p 2 k none).sentAway k.id p
  | none, none => s.enqueue k.id

/-- The present assignment of a call on local car `c`, at the cost of a decision now. -/
def present (s : State) (k : Call) (c : Nat) : Option Candidate :=
  let l := (s.dcar c).itin
  let at_ := fun (origin : Bool) => l.findIdx? (fun (q : Stop) => q.calls.contains (k.id, origin))
  (at_ true).map (fun i => insertionCost (unassign s k.id) c k (l, i, (at_ false).getD i))

/-- An offer costs enough less than the present assignment (R172). -/
def gains (s : State) (b : Candidate) (now : Candidate) : Bool :=
  decide (b.cost * 100 ≤ now.cost * (100 - s.par 0x5041 0)) && decide (b.cost < now.cost)

/-- A registered call of pair `p` is offered (R173): `fwd` names this pair's car chosen for its re-dispatch (R181), or its
present assignment, on which a refinement must gain (R172). It gets a provisional stop and a confirmation. -/
def takeOffer (s : State) (p : Nat) (k : Call) (fwd : Option Candidate) : State :=
  let chosen := fwd.bind (fun f => s.localCar f.car)
  if (s.call? k.id).any (fun x => x.state == 0 || x.state == 1) then s
  else match bestLocal s k (match chosen with | some c => [c] | none => cars8), fwd with
    | some (b, l), some f =>
      if chosen.isNone && !gains s b f then s
      else
        let mine := fun (q : Stop) => q.calls.any (fun e => e.1 == k.id)
        -- the entering pair's own record keeps what it knows of the call
        let own := match s.call? k.id with
          | some x => { k with notify := x.notify, point := x.point, leg2 := x.leg2 }
          | none => k
        let s := s.putCall { own with state := 0, car := 0xFF, cost := b.cost }
        let s := s.modDcar (b.car % 8) (fun d =>
          { d with itin := l.map (fun q => if mine q && q.calls.length == 1 then { q with provisional := true } else q) })
        sendItem s p 4 { k with car := b.car } none
    | _, _ => s

/-- A pair takes a call back that it no longer needs decided: R159 for a call cancelled at its entering pair. -/
def withdraw (s : State) (id : Nat) : State :=
  match s.call? id with
  | none => s
  | some k => if k.state ≤ 1 then endCall (unassign s id) id 4 else s

/-- The pair to which a call was forwarded decides (R167, R168): between its best and the forwarded candidate, which the
entering pair registers. A cancelled call is withdrawn, a registered one is an offer. -/
def decideForwarded (s : State) (p : Nat) (call : Call) (fwd : Option Candidate) : State :=
  let k := foreign call
  if k.state == 4 then withdraw s k.id
  else if k.state == 1 then takeOffer s p k fwd
  else
    let mine := fun (b : Candidate) (l : List Stop) =>
      sendItem (register s (b.car % 8) k b l) p 3 { k with state := 1, car := b.car } (some b)
    match bestLocal s k cars8, fwd with
    | some (b, l), some f => if better f b then sendItem s p 3 { k with car := f.car } (some f) else mine b l
    | some (b, l), none => mine b l
    | none, some f => sendItem s p 3 { k with car := f.car } (some f)
    | none, none => sendItem s p 3 k none

/-- The active of a pair in SERVICE dispatches. -/
def State.dispatches (s : State) : Bool := s.power == .on && s.mode == .service

/-- CALL_EVALUATION (R165): forwarded calls first, then the queue. -/
def evaluateNext (s : State) : State :=
  match s.disp.forwarded with
  | (p, k, b) :: rest => decideForwarded { s with disp := { s.disp with forwarded := rest } } p k b
  | [] =>
    match s.disp.queue with
    | [] => s
    | id :: rest =>
      let s := { s with disp := { s.disp with queue := rest } }
      match s.call? id with
      | some k => if k.state == 0 then decideOwn s k else s
      | none => s

def execCallEvaluation (s : State) : Host.Outcome State Fault Refusal :=
  .next (if s.dispatches then evaluateNext s else s)

/-! ### Inter-pair items (R166 to R168, R173 to R175, R338) -/

/-- The port that joins this pair to pair `p`. -/
def State.peerPort (s : State) (p : Nat) : Option Nat :=
  (List.range 64).find? (fun n => s.com 0x8001 n == 3 && s.com 0x8008 n == (p : Int))

/-- The inter-pair format revision of the running base image. -/
def State.ipFormat (s : State) : Nat := match s.activeSlot 1 with | some n => (s.imgSlot (2 + n)).interpair | none => 0

/-- A pair goes out of reach (R174). (log entry 56: DEDUCED) -/
def outOfReach (s : State) (p : Nat) : State :=
  if (s.pairView p).inReach then
    -- what that pair was to decide is decided among the pairs in reach
    let back := (s.disp.away.filter (fun e => e.2 == p && (s.call? e.1).any (fun k => k.state == 0))).map (·.1)
    let s := forEach back (fun s i => (s.cameBack i).enqueue i) s
    record (s.modPairView p (fun v => { v with inReach := false, lost := true, summaries := [] }))
      { code := 0x5180, sev := 1, inst := p, payload := le 1 p }
  else s

/-- An inter-pair frame arrives (R337, R338): bad and foreign-format frames are discarded; items 2 to 5 act on their
first good copy. (log entry 56: DEDUCED) -/
def onItem (s : State) (pair : Fin 4) (hd : IpHdr) (item : Nat) (act : State → State) : Host.Outcome State Fault Refusal :=
  .next (if !(s.dispatches && (pair : Nat) != s.pairNo) then s
    else match s.peerPort pair with
      | none => s
      | some p =>
        if !hd.good then s
        else if hd.format.toNat != s.ipFormat then
          let s := if (s.lport p).formatBad then s
            else record (s.modPort p (fun q => { q with formatBad := true })) { code := 0x8150, sev := 1, inst := p }
          outOfReach s pair
        else if item < 2 then act s
        else if (s.lport p).seen.contains (item, hd.seq.toNat) then s
        else act (s.modPort p (fun q => { q with seen := ((item, hd.seq.toNat) :: q.seen).take 64 })))

/-- CAR_SUMMARY_RECEIVED: a bad summary twice in a row is class L. -/
def execCarSummaryReceived (pair : Fin 4) (hd : IpHdr) (summary : CarSummary) (s : State) :
    Host.Outcome State Fault Refusal :=
  let p := (s.peerPort pair).getD 64
  let runs := (s.lport p).sumBad
  let run := tget (dft 0) runs summary.car
  let s := if s.dispatches && p < 64 && hd.good != (run == 0) then
      s.modPort p (fun q => { q with sumBad := tset (dft 0) q.sumBad summary.car (if hd.good then 0 else 1) }) else s
  let s := if s.dispatches && p < 64 && !hd.good && run == 1 then
      raise (s.modPort p (fun q => { q with sumBad := tset (dft 0) q.sumBad summary.car 2 }))
        { code := 0x8151, sev := 1, cls := 2, inst := p, payload := le 1 summary.car }
    else s
  onItem s pair hd 1 (fun s =>
    let v := s.pairView pair
    let s := s.modPairView pair (fun v =>
      { v with inReach := true, lost := false, heard := (v.heard ++ [summary.car]).eraseDups
               summaries := v.summaries.filter (fun m => m.car != summary.car) ++ [summary] })
    if v.lost then event s 0x5181 (le 1 pair) else s)

/-- PAIR_OUT_OF_REACH (R174). (log entry 56: DEDUCED) -/
def execPairOutOfReach (pair : Fin 4) (s : State) : Host.Outcome State Fault Refusal :=
  .next (if s.dispatches then outOfReach s pair else s)

/-- FORWARDED_CALL_RECEIVED: it goes ahead of local calls that have not started. -/
def execForwardedCallReceived (pair : Fin 4) (hd : IpHdr) (call : Call) (best : Option Candidate) (s : State) :
    Host.Outcome State Fault Refusal :=
  onItem s pair hd 2 (fun s =>
    { s with disp := { s.disp with forwarded := s.disp.forwarded ++ [((pair : Nat), call, best)] } })

/-- The deciding pair `p` chose this pair's candidate `b` for car `c`: it is checked against the itinerary as it stands, and
the call is decided again by that pair where it no longer fits (R168). -/
def placeChosen (s : State) (p c : Nat) (own : Call) (b : Option Candidate) : State :=
  let same := fun (e : Candidate × List Stop) => match b with
    | some f => e.1.opos == f.opos && e.1.dpos == f.dpos
    | none => true
  match bestOf ((candidates s own c).filter same) with
  | some (b, l) => register s c own b l
  | none => (sendItem (event s 0x5140 (le 2 own.id)) p 2 own none).sentAway own.id p

/-- A decision on this pair's call from pair `p` (R167, R168): another pair's car has it, this pair's candidate was chosen,
no car was found, or the call has ended there. (log entry 88: DESIGN CHOICE) -/
def decision (s : State) (p : Nat) (k : Call) (b : Option Candidate) : State :=
  match s.call? k.id with
  | none => s
  | some own =>
    let theirs := own.state == 5 || (own.state == 1 && (s.localCar own.car).isNone)
    if (k.state == 3 || k.state == 4) && theirs then (s.modCall k.id (fun x => { x with state := k.state })).cameBack k.id
    else if own.state == 4 && k.state == 1 && (s.localCar k.car).isNone then sendItem s p 2 { own with state := 4 } none
    else if !(own.state == 0 || (own.state == 5 && k.car == 0xFF)) then s
    else match s.localCar k.car with
      | some c => placeChosen s p c own b
      | none =>
        if k.car < 32 then
          announceCall ((s.modCall k.id (fun x => { x with state := 1, car := k.car, cost := k.cost })).sentAway k.id p) k.id
        else ((s.modCall k.id (fun x => { x with state := 0 })).cameBack k.id).enqueue k.id

/-- DECISION_RECEIVED. -/
def execDecisionReceived (pair : Fin 4) (hd : IpHdr) (call : Call) (best : Option Candidate) (s : State) :
    Host.Outcome State Fault Refusal :=
  onItem s pair hd 3 (fun s =>
    let s := decision s pair { call with cost := match best with | some b => b.cost | none => call.cost } best
    legDue s call.id (match best with | some b => b.wait + b.ride | none => 0))

/-- A release from pair `p`: the call becomes live at this pair, on the car that holds its stop. Where the transfer was
abandoned meanwhile the release goes back, and the giving pair puts the call back on its car (R173).
(log entry 88: DESIGN CHOICE) -/
def takeReleased (s : State) (p : Nat) (call : Call) : State :=
  let id := call.id
  match cars8.find? (fun c => (s.dcar c).itin.any (fun q => q.calls.any (fun e => e.1 == id))) with
  | some c =>
    let s := s.modCall id (fun k => { k with state := 1, car := s.boardCar c, moves := satN 8 (k.moves + 1) })
    serveHere (announceCall (s.modDcar c (fun d => { d with itin := d.itin.map (fun q =>
      if q.calls.any (fun e => e.1 == id) then { q with provisional := false } else q) })) id) c
  | none =>
    match s.localCar call.car with
    | none => sendItem s p 4 call none
    | some c =>
      let own := { (match s.call? id with | some k => k | none => foreign call) with state := 1, car := call.car }
      match bestLocal s own [c] with
      | some (b, l) => (assign s c own b l).modCall id (fun k => { k with moves := call.moves })
      | none => ((s.putCall { own with state := 0, car := 0xFF }).cameBack id).enqueue id

/-- TRANSFER_ITEM_RECEIVED (R173): a confirmation is taken at the next epoch boundary; a release makes the
provisional stops live. -/
def transferItem (s : State) (p : Nat) (t : TransferItem) : State :=
  if t.release then takeReleased s p t.call
  else { s with disp := { s.disp with transfers := s.disp.transfers ++ [(t.call.id, p)] } }

def execTransferItemReceived (pair : Fin 4) (hd : IpHdr) (item : TransferItem) (s : State) :
    Host.Outcome State Fault Refusal :=
  onItem s pair hd 4 (fun s => transferItem s pair item)

/-- TRANSFER_LEG_RECEIVED (R175): leg 2 is entered here, as a pending call of its own. A full table refuses it with event
0x5101, and the leg goes back to the pair it came from. (log entry 88: DESIGN CHOICE) -/
def execTransferLegReceived (pair : Fin 4) (hd : IpHdr) (call : Call) (s : State) : Host.Outcome State Fault Refusal :=
  onItem s pair hd 5 (fun s =>
    if s.liveCalls < 4096 then (s.putCall { foreign call with state := 0, car := 0xFF, born := s.frame }).enqueue call.id
    else sendItem (record s { code := 0x5101, sev := 1, inst := pair }) pair 3 { foreign call with state := 0, car := 0xFF } none)

/-! ### Entering calls (R157, R158, R175) -/

/-- A pending or registered hall call that a new one is merged into, one held by another pair included, or a stop a car
call is merged into. (log entry 53: DEDUCED) -/
def mergeTarget (s : State) (k : Call) : Option Nat :=
  if k.kind == 0 then
    (s.disp.calls.find? (fun c => c.kind == 0 && (c.state ≤ 1 || c.state == 5) && c.group == k.group && c.origin == k.origin
      && c.flags / 2 % 2 == k.flags / 2 % 2 && bitAt c.flags 3 == bitAt k.flags 3)).map (·.id)
  else if k.kind == 1 then
    match s.localCar k.namedCar with
    | some c =>
      match (s.dcar c).itin.find? (fun q => q.landing == k.dest && q.calls.any (fun e => !e.2)) with
      | some q => (q.calls.find? (fun e => !e.2)).map (·.1)
      | none => none
    | none => none
  else none

/-- A call from a class B ring joins the queue at once, any other at the next dispatch cycle (R170). -/
def addCall (s : State) (k : Call) : State :=
  let s := s.putCall k
  match k.point with
  | some n => if s.com 0x8002 (n / 256) == 1 then s.enqueue k.id
    else { s with disp := { s.disp with waiting := s.disp.waiting ++ [k.id] } }
  | none => { s with disp := { s.disp with waiting := s.disp.waiting ++ [k.id] } }

/-- A call is entered: its id, or the status that refuses it. A destination in another group is split in two legs.
(log entry 53: DEDUCED) -/
def enterCall (s : State) (k : Call) : State × (Nat ⊕ Nat) :=
  match mergeTarget s k with
  | some id => (s, .inl id)
  | none =>
    match (if s.liveCalls < 4096 then s.freeId else none) with
    | none => (s, .inr stFull)
    | some id =>
      let k := { k with id := id, born := s.frame }
      if k.kind == 2 && k.destGroup != 0xFF && k.destGroup != k.group then
        match transferFor s k.group k.destGroup with
        | none => (s, .inr stBadParam)
        | some e =>
          let leg1 := { k with dest := rd e 2 1, destGroup := 0xFF }
          let s := addCall s leg1
          match (if s.liveCalls < 4096 then s.freeId else none) with
          | none => (s.dropCall id, .inr stFull)
          | some id2 =>
            let leg2 : Call := { k with id := id2, group := k.destGroup, origin := rd e 3 1, destGroup := 0xFF
                                        notify := [], point := none, leg2 := none }
            let s := s.modCall id (fun c => { c with leg2 := some id2 })
            (s.putCall leg2, .inl id)
      else (addCall s k, .inl id)

def newCall (kind group origin dest destGroup pax flags car level : Nat) : Call :=
  { id := 0, state := 0, kind := kind, group := group, origin := origin, dest := dest, destGroup := destGroup, pax := pax
    flags := flags, namedCar := car, level := level, car := 0xFF, moves := 0, cost := 0, born := 0, notify := []
    point := none, leg2 := none, earliest := 0 }

/-- Checks 7 and 8 of `CALL_ENTER`'s fields. -/
def callFields (kind origin dest destGroup pax flags car level : Nat) : List (Bool × Nat) :=
  [(kind > 3 || flags > 15 || (kind == 1 && origin != 0xFF) || ((kind == 0 || kind == 3) && dest != 0xFF)
      || (kind != 2 && pax != 0) || (kind != 3 && level != 0) || ((kind == 0 || kind == 2) && car != 0xFF)
      || (kind != 2 && destGroup != 0xFF && kind != 1) || (kind == 1 && bitAt flags 1)
      || ((kind == 0 || kind == 3) && bitAt flags 2) || (kind != 0 && bitAt flags 3), stBadParam),
    ((kind == 2 && pax == 0) || (destGroup > 3 && destGroup != 0xFF) || (kind == 3 && (level == 0 || level > 3))
      || (kind == 1 && car > 31) || (kind == 3 && car > 31 && car != 0xFF), stRange)]

/-- The car that a call names may not take it now: status. -/
def namedRefusal (s : State) (k : Call) : Option Nat :=
  let reg := fun c => (s.dcar c).regime
  match k.kind with
  | 1 =>
    match s.localCar k.namedCar with
    | none => some stBadParam
    | some c =>
      if !s.serves c k.dest (destSide k) then some stBadParam
      else if reg c == .normal || reg c == .independent then none
      -- from the car station only, once recall is complete (Table 08.3)
      else if reg c == .firefighter && (s.dcar c).recallDone && k.point.isSome then none else some stWrongMode
  | 3 =>
    let cs := match s.localCar k.namedCar with
      | some c => [c]
      | none => cars8.filter (fun c => s.par 0x5001 c == (k.group : Int))
    if k.namedCar != 0xFF && (s.localCar k.namedCar).isNone then some stBadParam
    else if k.level == 3 && !cs.any (fun c => reg c == .normal) then some stWrongMode
    else if k.level == 1 && !cs.any (fun c => reg c == .evacuation) then some stWrongMode
    else none
  | _ => none

/-- A request merged into a call is told with that call, or at the next commit when the call is registered already. -/
def joinNotify (before s : State) (h : Hdr) (id : Nat) : State :=
  match before.call? id, s.call? id with
  | some _, some k =>
    if k.notify.contains (h.chan, h.seq) then s
    else if shownState k == 0 && k.state != 1 then s.modCall id (fun k => { k with notify := k.notify ++ [(h.chan, h.seq)] })
    else holdNote s h.chan (note 0 0x12 k.group h.seq.toNat
      (queryReply s { k with state := if k.state == 5 then 1 else k.state, shown := k.car }))
  | _, _ => s

def actCallEnter (h : Hdr) (rsv : Bool) (kind origin dest destGroup pax flags car level : U8) (s : State) : State :=
  serve s h { op := 0x10, insts := 4, len := 4, lenOk := h.len == 8, mirrored := true
              checks := (rsv, stBadParam) :: callFields kind.toNat origin.toNat dest.toNat destGroup.toNat pax.toNat
                flags.toNat car.toNat level.toNat }
    (fun s =>
      let k := { newCall kind.toNat h.inst.toNat origin.toNat dest.toNat destGroup.toNat pax.toNat flags.toNat car.toNat
                   level.toNat with notify := [(h.chan, h.seq)] }
      match namedRefusal s k with
      | some st => (s, refusal 4 st)
      | none =>
        match enterCall s k with
        | (s', .inl id) => (joinNotify s s' h id, le 1 stPending ++ le 1 0 ++ le 2 id)
        | (_, .inr st) => (s, refusal 4 st))

def execCallEnter (h : Hdr) (rsv : Bool) (kind origin dest destGroup pax flags car level : U8) (s : State) :
    Host.Outcome State Fault Refusal :=
  hostRow s (.callEnter h rsv kind origin dest destGroup pax flags car level) h 0x10 4
    (actCallEnter h rsv kind origin dest destGroup pax flags car level)

/-- A call that may be cancelled is removed, with its second leg (R159, R175). Another pair that decides or holds one of
them learns it from a forwarded call in state 4. (log entry 88: DESIGN CHOICE) -/
def cancelCall (s : State) (id : Nat) : State :=
  let one := fun (s : State) (i : Nat) =>
    let s := match s.disp.away.find? (fun e => e.1 == i), s.call? i with
      | some (_, p), some k => (sendItem s p 2 { foreign k with state := 4 } none).cameBack i
      | _, _ => s
    endCall (unassign s i) i 4
  match s.call? id with
  | none => s
  | some c =>
    let s := one s id
    match c.leg2 with
    | some i => match s.call? i with
      | some d => if d.state ≤ 1 || d.state == 5 then one s i else s
      | none => s
    | none => s

def actCallCancel (h : Hdr) (rsv : Bool) (callId : U16) (s : State) : State :=
  serve s h { op := 0x11, insts := 4, len := 4, lenOk := h.len == 4, checks := [(rsv, stBadParam)], mirrored := true }
    (fun s => match s.heldCall? callId.toNat with
      | none => (s, refusal 4 stBadParam)
      | some c =>
        if c.group != h.inst.toNat then (s, refusal 4 stBadParam)
        else
          let s := if c.state ≤ 1 then cancelCall s c.id else s
          (s, le 1 stOk ++ le 1 (if c.state ≤ 1 then 4 else c.state) ++ le 2 0))

def execCallCancel (h : Hdr) (rsv : Bool) (callId : U16) (s : State) : Host.Outcome State Fault Refusal :=
  hostRow s (.callCancel h rsv callId) h 0x11 4 (actCallCancel h rsv callId)

def actCallQuery (h : Hdr) (rsv : Bool) (callId : U16) (s : State) : State :=
  serve s h { op := 0x12, insts := 4, len := 28, lenOk := h.len == 4, checks := [(rsv, stBadParam)] }
    (fun s => match s.heldCall? callId.toNat with
      | none => (s, refusal 28 stBadParam)
      | some c => if c.group != h.inst.toNat then (s, refusal 28 stBadParam) else (s, queryReply s c))

def execCallQuery (h : Hdr) (rsv : Bool) (callId : U16) (s : State) : Host.Outcome State Fault Refusal :=
  hostRow s (.callQuery h rsv callId) h 0x12 28 (actCallQuery h rsv callId)

/-- A stop where a passenger changes group: leg 1's destination or leg 2's origin (R175). -/
def transferStop (s : State) (k : Stop) : Bool :=
  k.calls.any (fun e => match s.call? e.1 with | some x => if e.2 then x.earliest != 0 else x.leg2.isSome | none => false)

/-- A stop of `ITINERARY_READ` (Table 08.6). -/
def stopBytes (s : State) (e : (Stop × Bool) × (Nat × Nat)) : Bytes :=
  let k := e.1.1
  let sides := stopSides s k
  le 1 k.landing
    ++ le 1 (b2n e.1.2 + 2 * b2n k.priority + 4 * b2n (sides.contains 0) + 8 * b2n (sides.contains 1) + 16 * b2n k.up
      + 32 * b2n k.down + 64 * b2n (transferStop s k) + 128 * b2n k.provisional)
    ++ le 1 (satN 8 (boardAt s k)) ++ le 1 (satN 8 (alightAt s k)) ++ le 4 e.2.1 ++ le 4 e.2.2 ++ le 2 k.calls.length
    ++ le 2 0

def itineraryReply (s : State) (c : Nat) : Bytes :=
  let d := s.dcar c
  le 1 stOk ++ le 1 (regimeCode d.regime) ++ le 1 d.itin.length ++ le 1 (satN 8 d.aboard)
    ++ (((flagged s c).zip (predict s c d.itin)).map (stopBytes s)).flatten

def actItineraryRead (h : Hdr) (rsv : Bool) (s : State) : State :=
  serve s h { op := 0x13, insts := 8, len := 4, lenOk := h.len == 0, checks := [(rsv, stBadParam)] }
    (fun s => if s.configured h.inst.toNat then (s, itineraryReply s h.inst.toNat) else (s, refusal 4 stBadParam))

def execItineraryRead (h : Hdr) (rsv : Bool) (s : State) : Host.Outcome State Fault Refusal :=
  hostRow s (.itineraryRead h rsv) h 0x13 4 (actItineraryRead h rsv)

/-! ### Re-dispatch and refinement (R172, R181) -/

/-- Registered calls of a car that have not boarded; `committedToo` takes those at committed stops as well. -/
def movable (s : State) (c : Nat) (committedToo : Bool) : List Call :=
  let fs := flagged s c
  let ids := ((fs.filter (fun e => committedToo || !e.2)).map (fun e => e.1.calls.map (·.1))).flatten.eraseDups
  ids.filterMap (fun i => match s.call? i with
    | some k => if k.state == 1 && k.kind != 1 then some k else none
    | none => none)

/-- The state without a call's present assignment, for evaluating it anew. -/
def without (s : State) (k : Call) : State := unassign s k.id

/-- Re-dispatch of a car's calls (R181): in an orderly removal those at uncommitted stops. -/
def redispatch (s : State) (c : Nat) (asFault : Bool) : State × Nat :=
  let ids := (movable s c asFault).map (·.id)
  (redispatchCalls s c ids, ids.length)

/-- The calls of a removal that are still on their car. -/
def leftToMove (s : State) (c : Nat) : List Nat :=
  (s.dcar c).removing.filter (fun i => (s.call? i).any (fun k => k.state == 1 && k.car == s.boardCar c))

/-- At a dispatch cycle a receiving car is chosen again for calls of a removal that have none. -/
def chooseAgain (s : State) : State :=
  forEach cars8 (fun s c =>
    if (s.dcar c).removedAt.isNone then s
    else chooseReceivers s c ((leftToMove s c).filter (fun i =>
      !s.disp.redispatch.any (fun e => e.1 == i) && !s.disp.transfers.any (fun e => e.1 == i)))) s

/-- A call is placed on the local car chosen for it, by evaluating that one car (R181). -/
def placeOn (s : State) (e : Nat × Nat) : Option State :=
  match s.call? e.1, s.localCar e.2 with
  | some k, some c =>
    if k.state != 1 then none
    else (bestLocal (without s k) k [c]).map (fun b => register (without s k) c k b.1 b.2)
  | _, _ => none

/-- One move of a refinement at its boundary: to a local car, or as an offer to the pair that holds the car; none where it
no longer gains (R172, R173). -/
def refineMove (s : State) (e : Nat × Nat) : Option State :=
  match s.call? e.1 with
  | none => none
  | some k => match s.localCar k.car with
    | none => none
    | some from_ =>
      if k.state != 1 then none
      else match present s k from_ with
        | none => none
        | some now => match s.localCar e.2 with
          | some c => (bestLocal (without s k) k [c]).bind (fun b =>
              if gains s b.1 now then some (register (without s k) c k b.1 b.2) else none)
          | none => if (s.pairView (e.2 / 8)).inReach then some (sendItem s (e.2 / 8) 2 k (some now)) else none

/-- All moves, or none. -/
def allMoves : List (Nat × Nat) → State → Option State
  | [], s => some s
  | e :: es, s => (refineMove s e).bind (allMoves es)

/-- The refinement that waits for the boundary commits whole, or commits nothing (R27, R172). -/
def commitRefinement (s : State) : State :=
  let todo := s.disp.refining
  let s := { s with disp := { s.disp with refining := [] } }
  match allMoves todo s with
  | none => s
  | some t =>
    let n := (todo.filter (fun e => (s.localCar e.2).isSome)).length
    { t with disp := { t.disp with refineMoves := satN 32 (t.disp.refineMoves + n) } }

/-- At an epoch boundary the calls chosen for re-dispatch or refinement change car, and those whose transfer is confirmed
are released (R172, R173, R181). -/
def moveCalls (s : State) : State :=
  let todo := s.disp.redispatch
  let s := { s with disp := { s.disp with redispatch := [] } }
  let s := commitRefinement (forEach todo (fun s e => (placeOn s e).getD s) s)
  let given := s.disp.transfers
  let s := { s with disp := { s.disp with transfers := [] } }
  forEach given (fun s e => match s.call? e.1, (s.call? e.1).bind (fun k => s.localCar k.car) with
    | some k, some c =>
      if k.state == 1 && (s.pairView e.2).inReach then
        let s := if (s.dcar c).removing.contains e.1 then s
          else { s with disp := { s.disp with refineMoves := satN 32 (s.disp.refineMoves + 1) } }
        (sendItem ((unassign s e.1).forget e.1) e.2 4 k none).sentAway e.1 e.2
      else s
    | _, _ => s) s

/-- The end of a removal, and event 0x5111 for one beyond 5 ms and 50 µs for each call above 64. -/
def redispatchBound (s : State) : State :=
  forEach cars8 (fun s c => match (s.dcar c).removedAt with
    | none => s
    | some f =>
      let moved := s.modDcar c (fun d => { d with removedAt := none, removing := [] })
      if (leftToMove s c).isEmpty then moved
      else if s.usSince f > 5000 + 50 * ((s.dcar c).removing.length - 64) then
        record moved { code := 0x5111, sev := 1, inst := c }
      else s) s

/-- One call of the refinement: a move to another car that gains enough, of this pair or by estimate of another, which the
following calls find done. (log entry 53: DEDUCED) -/
def refineCall (t : State × List (Nat × Nat)) (k : Call) : State × List (Nat × Nat) :=
  let (s, moves) := t
  match s.localCar k.car with
  | none => t
  | some c => match present s k c with
    | none => t
    | some now =>
      let own := (bestLocal (without s k) k (cars8.filter (· != c))).filter (fun b => gains s b.1 now)
      let far := (bestEstimate s k).filter (fun e => match own with
        | some b => decide (e.2.2 < b.1.cost)
        | none => gains s { now with cost := e.2.2 } now)
      match far, own with
      | some (_, car, _), _ => (s, moves ++ [(k.id, car)])
      | none, some (b, l) => (assign (without s k) (b.car % 8) k b l, moves ++ [(k.id, b.car)])
      | none, none => t

/-- REFINE_PERIOD (R172): the registered calls that have not boarded, oldest first; what moves waits for the next epoch
boundary. -/
def refine (s : State) : State :=
  let ks := (s.disp.calls.filter (fun k => k.state == 1 && k.kind != 1)).mergeSort (fun a b => a.born ≤ b.born)
  { s with disp := { s.disp with refining := (ks.foldl refineCall (s, [])).2 } }

def execRefinePeriod (s : State) : Host.Outcome State Fault Refusal :=
  .next (if s.dispatches && s.slack.shed == 0 then refine s else s)

end Sys2Proof.Machine
end

