-- ==== Sys2Proof/Machine/Crypto.lean ====
section
/-! DEFINITION. SHA-256 (FIPS 180-4), HMAC-SHA-256, and ECDSA on P-256 (FIPS 186-4, RFC 6979) as R312, R391,
R398, R400 and R405 use them. -/

namespace Sys2Proof.Machine

/-- A big-endian integer of bytes, and its 32 bytes. -/
def ofBe (bs : Bytes) : Nat := bs.foldl (fun n b => n * 256 + b.toNat) 0
def be (n v : Nat) : Bytes := (le n v).reverse

/-- The largest r below 2^35 whose k-th power is at most v, one bit of r at a time. -/
def rootBits (k v : Nat) : Nat → Nat → Nat
  | 0, r => r
  | b + 1, r => rootBits k v b (if (r + 2 ^ b) ^ k ≤ v then r + 2 ^ b else r)

/-- FIPS 180-4, 4.2.2 and 5.3.3: the first 32 bits of the fraction of the k-th root of a prime. -/
def rootWord (k p : Nat) : BitVec 32 := BitVec.ofNat 32 (rootBits k (p * 2 ^ (32 * k)) 35 0)

/-- The primes below 312, 64 of them (no composite below 312 is free of a divisor from 2 to 17). -/
def shaPrimes : List Nat :=
  (List.range 312).filter (fun n => 2 ≤ n && (List.range 16).all (fun d => n == d + 2 || n % (d + 2) != 0))

/-- The eight words SHA-256 works on, under the names FIPS 180-4 gives them. -/
structure ShaVars where
  a : BitVec 32
  b : BitVec 32
  c : BitVec 32
  d : BitVec 32
  e : BitVec 32
  f : BitVec 32
  g : BitVec 32
  h : BitVec 32
  deriving DecidableEq, Repr

/-- The eight words in order. -/
def shaWords (v : ShaVars) : List (BitVec 32) := [v.a, v.b, v.c, v.d, v.e, v.f, v.g, v.h]

/-- FIPS 180-4, 5.3.3: the initial value, of the square roots of the first eight primes. -/
def shaStart : ShaVars :=
  { a := rootWord 2 2, b := rootWord 2 3, c := rootWord 2 5, d := rootWord 2 7,
    e := rootWord 2 11, f := rootWord 2 13, g := rootWord 2 17, h := rootWord 2 19 }

/-- The exclusive or of a word turned right by each of `rs`, the four Σ and σ functions of FIPS 180-4, 4.1.2
(the two σ add a shift). -/
def turned (x : BitVec 32) (rs : List Nat) : BitVec 32 := rs.foldl (fun y r => y ^^^ x.rotateRight r) 0

/-- FIPS 180-4, 6.2.2 step 3: one round, `kw` being the round's constant plus its schedule word. Ch picks g where e
has no bit, Maj is the bitwise majority. -/
def shaRound (v : ShaVars) (kw : BitVec 32) : ShaVars :=
  let t := v.h + turned v.e [6, 11, 25] + (v.g ^^^ (v.e &&& (v.f ^^^ v.g))) + kw
  { v with h := v.g, g := v.f, f := v.e, e := v.d + t, d := v.c, c := v.b, b := v.a,
           a := t + turned v.a [2, 13, 22] + ((v.a &&& (v.b ||| v.c)) ||| (v.b &&& v.c)) }

/-- The schedule as a window of the sixteen words from the current round on: the next round's window. -/
def slideWindow (w : List (BitVec 32)) : List (BitVec 32) :=
  let at' := fun i => w.getD i 0
  w.drop 1 ++ [at' 0 + (turned (at' 1) [7, 18] ^^^ at' 1 >>> 3) + at' 9 + (turned (at' 14) [17, 19] ^^^ at' 14 >>> 10)]

/-- The rounds that are left, one per constant. -/
def shaRounds : List (BitVec 32) → List (BitVec 32) → ShaVars → ShaVars
  | [], _, v => v
  | k :: ks, w, v => shaRounds ks (slideWindow w) (shaRound v (k + w.headD 0))

/-- The next `n` big-endian words of the bytes. -/
def beWords : Nat → Bytes → List (BitVec 32)
  | 0, _ => []
  | n + 1, bs => BitVec.ofNat 32 (ofBe (bs.take 4)) :: beWords n (bs.drop 4)

/-- FIPS 180-4, 6.2.2: one 64-byte block into the hash value. -/
def shaBlock (ks : List (BitVec 32)) (h : ShaVars) (block : Bytes) : ShaVars :=
  let v := shaRounds ks (beWords 16 block) h
  { a := h.a + v.a, b := h.b + v.b, c := h.c + v.c, d := h.d + v.d,
    e := h.e + v.e, f := h.f + v.f, g := h.g + v.g, h := h.h + v.h }

/-- The `n` blocks at the front of the bytes. -/
def shaBlocks (ks : List (BitVec 32)) : Nat → Bytes → ShaVars → ShaVars
  | 0, _, h => h
  | n + 1, bs, h => shaBlocks ks n (bs.drop 64) (shaBlock ks h bs)

/-- FIPS 180-4, 5.1.1: the message, a one bit, zeros, and the length in bits, over whole blocks. -/
def shaPadded (msg : Bytes) : Bytes :=
  let whole := 64 * ((msg.length + 72) / 64)
  fit (whole - 8) (msg ++ [0x80]) ++ be 8 (8 * msg.length)

/-- SHA-256. -/
def sha256 (msg : Bytes) : Bytes :=
  let bs := shaPadded msg
  (shaWords (shaBlocks (shaPrimes.map (rootWord 3)) (bs.length / 64) bs shaStart)).flatMap (fun w => be 4 w.toNat)

/-- HMAC-SHA-256 with a key of at most 64 bytes. -/
def hmac (key msg : Bytes) : Bytes :=
  let k := fit 64 key
  sha256 (k.map (· ^^^ 0x5c) ++ sha256 (k.map (· ^^^ 0x36) ++ msg))

/-! ### P-256 -/

def p256P : Nat := 0xffffffff00000001000000000000000000000000ffffffffffffffffffffffff
def p256N : Nat := 0xffffffff00000000ffffffffffffffffbce6faada7179e84f3b9cac2fc632551
def p256B : Nat := 0x5ac635d8aa3a93e7b3ebbd55769886bc651d06b0cc53b0f63bce3c3e27d2604b
/-- The base point. -/
def p256G : Nat × Nat :=
  (0x6b17d1f2e12c4247f8bce6e563a440f277037d812deb33a0f4a13945d898c296,
   0x4fe342e2fe1a7f9b8ee7eb4a7c0f9e162bce33576b315ececbb6406837bf51f5)

/-- b^e mod m over the low `n` bits of e. -/
def powMod (m : Nat) : Nat → Nat → Nat → Nat
  | 0, _, _ => 1 % m
  | n + 1, b, e => let r := powMod m n (b * b % m) (e / 2); if e % 2 == 1 then r * b % m else r

/-- Inverse modulo a prime. -/
def invMod (m a : Nat) : Nat := powMod m 256 a (m - 2)

/-- A point: none is the identity. -/
abbrev EcPt := Option (Nat × Nat)

/-- Point addition on P-256. -/
def ecAdd (a b : EcPt) : EcPt :=
  match a, b with
  | none, q => q
  | q, none => q
  | some (x1, y1), some (x2, y2) =>
    let p := p256P
    if x1 == x2 && (y1 + y2) % p == 0 then none
    else
      let l := if x1 == x2 then (3 * x1 * x1 + (p - 3)) * invMod p (2 * y1 % p) % p
        else (y2 + p - y1) * invMod p ((x2 + p - x1) % p) % p
      let x3 := (l * l + 2 * p - x1 - x2) % p
      some (x3, (l * (x1 + p - x3) + p - y1) % p)

/-- Scalar multiplication over the low `n` bits. -/
def ecMul : Nat → Nat → EcPt → EcPt
  | 0, _, _ => none
  | n + 1, k, q => let r := ecMul n (k / 2) (ecAdd q q); if k % 2 == 1 then ecAdd r q else r

/-- R398: a valid P-256 point other than the identity, x then y. -/
def validPoint (key : Bytes) : Bool :=
  let x := ofBe (key.take 32); let y := ofBe ((key.drop 32).take 32)
  x < p256P && y < p256P && (y * y) % p256P == (x * x * x + (p256P - 3) * x + p256B) % p256P

/-- ECDSA verification of r‖s over a 32-byte digest. -/
def ecdsaVerify (key digest sig : Bytes) : Bool :=
  let r := ofBe (sig.take 32); let s := ofBe ((sig.drop 32).take 32)
  if r == 0 || s == 0 || r ≥ p256N || s ≥ p256N || !validPoint key then false
  else
    let w := invMod p256N s
    let u1 := ofBe digest * w % p256N
    let u2 := r * w % p256N
    match ecAdd (ecMul 256 u1 (some p256G)) (ecMul 256 u2 (some (ofBe (key.take 32), ofBe ((key.drop 32).take 32)))) with
    | none => false
    | some (x, _) => x % p256N == r

/-- The first usable (r, s) from the nonces of RFC 6979, with V and K as its step h leaves them. -/
def ecdsaTry : Nat → Nat → Nat → Bytes → Bytes → Bytes
  | 0, _, _, _, _ => zeros 64
  | fuel + 1, d, z, k, v =>
    let v := hmac k v
    let t := ofBe v
    let again := fun (_ : Unit) => let k := hmac k (v ++ [0]); ecdsaTry fuel d z k (hmac k v)
    if t == 0 || t ≥ p256N then again ()
    else
      match ecMul 256 t (some p256G) with
      | none => again ()
      | some (x, _) =>
        let r := x % p256N
        let s := invMod p256N t * (z + r * d) % p256N
        if r == 0 || s == 0 then again () else be 32 r ++ be 32 s

/-- Deterministic ECDSA (RFC 6979) of a 32-byte digest with private key `d`. -/
def ecdsaSign (d : Nat) (digest : Bytes) : Bytes :=
  let z := ofBe digest % p256N
  let x := be 32 d ++ be 32 z
  let k := zeros 32; let v := List.replicate 32 (1 : U8)
  let k := hmac k (v ++ [0] ++ x); let v := hmac k v
  let k := hmac k (v ++ [1] ++ x); let v := hmac k v
  ecdsaTry 8 d (ofBe digest) k v

/-- The device's public key, x then y (Table 17.10). -/
def devicePub : Bytes :=
  match ecMul 256 (Config.devicePrivate % p256N) (some p256G) with
  | some (x, y) => be 32 x ++ be 32 y
  | none => zeros 64

end Sys2Proof.Machine
end

