-- ==== Sys2Proof/Machine/Recorder.lean ====
section
/-! DEFINITION. The event recorder's commands (chapter 13). Admission stands in Faults.lean. -/

namespace Sys2Proof.Machine

/-! ### Records as bytes, and which are available -/

/-- The 64 bytes of a record (Table 13.1). -/
def recordBytes (r : Record) : Bytes :=
  let b := le 4 r.seq ++ le 5 r.opTime ++ le 3 r.powerCycle ++ le 2 r.code ++ le 1 r.sevClass ++ le 1 r.inst
    ++ fit 40 r.payload ++ le 2 r.suppressed ++ le 2 r.flags
  b ++ le 4 (crc32c b).toNat

/-- The log is full at 32,767 records (R307). -/
def State.logFull (s : State) : Bool := decide (s.log.log.length ≥ 32767)

/-- What cursors cover (R310): the log, its reserved slot, then the ring of a full log or the buffer. -/
def State.available (s : State) : List Record :=
  s.log.log ++ s.log.reserved.toList ++ (if s.logFull then s.log.ring else s.log.buffer)

/-- Oldest and newest available sequences (Table 13.6). -/
def State.firstSeq (s : State) : Nat := match s.available.head? with | some r => r.seq | none => s.log.nextSeq
def State.lastSeq (s : State) : Nat :=
  match s.available.getLast? with
  | some r => r.seq
  | none => (s.log.nextSeq + 2 ^ 32 - 1) % 2 ^ 32

/-! ### Flushes (R304, R305, R307, R436) -/

/-- A flush may write to MRAM (R436). -/
def State.flushable (s : State) : Bool :=
  s.mode != .proving || !s.proving.running || (s.unit 13).result < 2

/-- A flush begins with what is buffered now; one already running is followed by one more. -/
def beginFlush (s : State) (pfail : Bool) : State :=
  let l := s.log
  if !s.flushable then { s with log := { l with heldTrigger := true } }
  else if l.flushing.isSome then { s with log := { l with flushAgain := true, pfailAgain := l.pfailAgain || pfail } }
  else { s with log := { l with flushing := some l.buffer.length, flushDue := false, heldTrigger := false
                                flushPfail := pfail } }

/-- The records of a full log that are not kept go into the reserved slot (R307). -/
def notKept (s : State) (rest : List Record) : State :=
  match rest with
  | [] => s
  | r :: _ =>
    let l := s.log
    let first := if l.notKept == 0 then r.seq else l.firstNotKept
    let n := l.notKept + rest.length
    let slot : Record := match l.reserved with
      | some q => { q with payload := le 4 first ++ le 4 n ++ zeros 32 }
      | none =>
        { seq := first, opTime := s.opTime, powerCycle := s.powerCycle, code := 0x9102
          sevClass := sevByte 0 0 1, inst := 0xFF, payload := le 4 first ++ le 4 n ++ zeros 32
          suppressed := 0, flags := modeCode s.mode * 256 }
    { s with log := { l with notKept := n, firstNotKept := first, reserved := some slot } }

/-- Event 0x9101, once, when the log passes `log_warn_pct` (R307). -/
def warnLog (s : State) : State :=
  if s.recording && !s.log.warned && s.log.log.length * 100 > s.parN 0x9004 0 * 32768 then
    record { s with log := { s.log with warned := true } } { code := 0x9101, sev := 1 }
  else s

/-- A flush completes: its records, the operating time and the header are in MRAM. A power-fail flush that waited for it
follows at once (R314). -/
def endFlush (s : State) (us : Nat) : State :=
  match s.log.flushing with
  | none => s
  | some n =>
    let l := s.log
    let todo := l.buffer.take n
    let later := l.buffer.drop n
    let room := 32767 - l.log.length
    let l' :=
      if s.logFull then l
      else if l.log.length + todo.length ≥ 32767 then intoRing l (todo.drop room ++ later)
      else { l with ring := [] }
    let s := { s with
      opSaved := s.opTime
      log := { l' with
        log := l.log ++ todo.take room
        buffer := later
        flushing := if l.pfailAgain then some later.length else none
        flushDue := l.flushDue || (l.flushAgain && !l.pfailAgain)
        flushAgain := false
        flushPfail := l.pfailAgain
        pfailAgain := false
        pfailUs := if l.flushPfail then satN 16 us else l.pfailUs
        lastFlush := s.opTime
        unwritten := false } }
    warnLog (notKept s (todo.drop room))

/-- FLUSH_START: within 1 ms of a trigger. -/
def execFlushStart (s : State) : Host.Outcome State Fault Refusal :=
  .next (if s.running && (s.log.flushDue || s.log.heldTrigger) then beginFlush s false else s)

/-- FLUSH_TIMER: 10 s since the last flush began. -/
def execFlushTimer (s : State) : Host.Outcome State Fault Refusal :=
  .next (if !s.running then s
    else if s.flushable then { s with log := { s.log with flushDue := true } }
    else { s with log := { s.log with heldTrigger := true } })

/-- PFAIL_FALL (R305): event 0x9120 is admitted and the power-fail flush starts. -/
def execPfailFall (s : State) : Host.Outcome State Fault Refusal :=
  .next (if s.running && s.pins.pfailN then
      let s := event { s with pins := { s.pins with pfailN := false } } 0x9120
      beginFlush s true
    else { s with pins := { s.pins with pfailN := false } })

/-- PFAIL_RISE with the supplies in range (R305). -/
def execPfailRise (s : State) : Host.Outcome State Fault Refusal :=
  .next (if s.running && !s.pins.pfailN && s.pins.supplies then
      event { s with pins := { s.pins with pfailN := true } } 0x9121
    else { s with pins := { s.pins with pfailN := true } })

/-- OPERATING_TIME_SAVE (R302). -/
def execOperatingTimeSave (s : State) : Host.Outcome State Fault Refusal :=
  .next (if s.running then { s with opSaved := s.opTime } else s)

/-- RATE_TOKEN_REFILL (R308). -/
def execRateTokenRefill (code : U16) (s : State) : Host.Outcome State Fault Refusal :=
  let b := tget (dft {}) s.log.buckets code.toNat
  .next (if s.running then
    { s with log := { s.log with buckets := tset (dft {}) s.log.buckets code.toNat { b with spent := b.spent - 1 } } }
    else s)

/-- PARTNER_FINDING_RECEIVED (R303): the active admits a finding of its in-step standby with `partner` set
and mode SHADOW. -/
def execPartnerFindingReceived (f : Finding) (s : State) : Host.Outcome State Fault Refusal :=
  .next (if s.power == .on && s.inStepActive then admitRec s f 4 4 else s)

/-! ### Cursors (R310, R311, R315) -/

/-- A cursor's next sequence, moved to a record that is there. -/
def settleSeq (s : State) (seq : Nat) : Nat :=
  match s.available.find? (fun r => seq ≤ r.seq) with
  | some r => r.seq
  | none => s.log.nextSeq

/-- Where a new cursor starts (Table 13.6). -/
def cursorStart (s : State) (from_ seq : Nat) : Nat :=
  match from_ with
  | 0 => s.firstSeq
  | 1 => settleSeq s seq
  | _ =>
    let a := s.available
    match a[a.length - 1 - seq]? with
    | some r => r.seq
    | none => s.log.nextSeq

/-- Open a cursor, or none when eight are open. -/
def freeCursor (s : State) : Option Nat := cars8.find? (fun n => !(s.cursor n).isOpen)

def openCursor (s : State) (from_ : U8) (seq : U32) : State × Bytes :=
  match freeCursor s with
  | none => (s, refusal 16 stBusy)
  | some n =>
    let next := cursorStart s from_.toNat seq.toNat
    let s' := s.modCursor n (fun _ => { isOpen := true, next := next, lastRead := s.frame })
    (s', le 1 stOk ++ le 1 n ++ le 2 0 ++ le 4 next ++ le 4 s.firstSeq ++ le 4 s.lastSeq)

def actLogCursorOpen (h : Hdr) (rsv : Bool) (from_ : U8) (seq : U32) (s : State) : State :=
  serve s h { op := 0x70, insts := 1, len := 16, lenOk := h.len == 8
              checks := [(rsv || from_.toNat > 2 || (from_ == 0 && seq != 0), stBadParam)] }
    (fun s => openCursor s from_ seq)

def execLogCursorOpen (h : Hdr) (rsv : Bool) (from_ : U8) (seq : U32) (s : State) :
    Host.Outcome State Fault Refusal :=
  hostRow s (.logCursorOpen h rsv from_ seq) h 0x70 16 (actLogCursorOpen h rsv from_ seq)

/-- The records a cursor still has before it. -/
def ahead (s : State) (c : Cursor) : List Record :=
  let a := s.available.filter (fun r => c.next ≤ r.seq)
  if c.afterRes then
    match s.log.reserved with
    | some q => a.filter (fun r => !(r.code == 0x9102 && r.seq == q.seq))
    | none => a
  else a

/-- The cursor's next record was replaced in the ring or removed by a clear, which overtakes every cursor (R311, R314). -/
def overtaken (s : State) (c : Cursor) : Bool :=
  c.passed || match s.log.ringLost with
    | some q => decide (c.next ≤ q) && (ahead s c).all (fun r => q < r.seq)
    | none => false

/-- LOG_READ's reply and the cursor it leaves. -/
def readCursor (s : State) (n maxCount : Nat) : State × Bytes :=
  let c := s.cursor n
  let a := ahead s c
  let out := a.take maxCount
  let ovr := overtaken s c
  let skipped := match a with | r :: _ => if ovr then r.seq - c.next else 0 | [] => 0
  let lastRec := out.getLast?
  let atRes := match lastRec, s.log.reserved with
    | some r, some q => r.code == 0x9102 && r.seq == q.seq
    | _, _ => false
  let next := match lastRec with
    | none => c.next
    | some r => if atRes then r.seq else (r.seq + 1) % 2 ^ 32
  let newest := decide (a.length ≤ maxCount)
  let damaged := maskOf out.length (fun i => match out[i]? with
    | some r => s.log.damagedSeqs.contains r.seq | none => false)
  let s' := s.modCursor n (fun c => { c with next := next, passed := false, afterRes := atRes, lastRead := s.frame })
  (s', le 1 stOk ++ le 1 n ++ le 1 out.length ++ le 1 (b2n ovr + 2 * b2n c.cleared + 4 * b2n newest)
    ++ le 4 skipped ++ le 4 next ++ le 8 damaged ++ (out.map recordBytes).flatten)

def actLogRead (h : Hdr) (rsv : Bool) (cursor maxCount : U8) (s : State) : State :=
  serve s h { op := 0x71, insts := 1, len := 20, lenOk := h.len == 4
              checks := [(rsv, stBadParam), (maxCount == 0 || maxCount.toNat > 63, stRange)] }
    (fun s => if cursor.toNat < 8 && (s.cursor cursor.toNat).isOpen then readCursor s cursor.toNat maxCount.toNat
      else (s, refusal 20 stBadParam))

def execLogRead (h : Hdr) (rsv : Bool) (cursor maxCount : U8) (s : State) : Host.Outcome State Fault Refusal :=
  hostRow s (.logRead h rsv cursor maxCount) h 0x71 20 (actLogRead h rsv cursor maxCount)

def actLogCursorClose (h : Hdr) (rsv : Bool) (cursor : U8) (s : State) : State :=
  serve s h { op := 0x72, insts := 1, len := 4, lenOk := h.len == 4, checks := [(rsv, stBadParam)] }
    (fun s => if cursor.toNat < 8 && (s.cursor cursor.toNat).isOpen then
        (s.modCursor cursor.toNat (fun _ => {}), refusal 4 stOk)
      else (s, refusal 4 stBadParam))

def execLogCursorClose (h : Hdr) (rsv : Bool) (cursor : U8) (s : State) : Host.Outcome State Fault Refusal :=
  hostRow s (.logCursorClose h rsv cursor) h 0x72 4 (actLogCursorClose h rsv cursor)

/-- CURSOR_IDLE_CLOSE: not read for `log_cursor_idle_s`. -/
def execCursorIdleClose (cursor : Fin 8) (s : State) : Host.Outcome State Fault Refusal :=
  .next (if s.running then s.modCursor cursor (fun _ => {}) else s)

/-- `LOG_STATUS` reply (Table 13.7). -/
def logStatusReply (s : State) : Bytes :=
  let l := s.log
  le 1 stOk ++ le 1 (b2n s.logFull) ++ le 1 (cars8.filter (fun n => (s.cursor n).isOpen)).length
    ++ le 1 (satN 8 l.rates.length)
    ++ le 4 (match l.log.head? with | some r => r.seq | none => l.nextSeq) ++ le 4 l.nextSeq
    ++ le 2 l.log.length ++ le 2 l.buffer.length ++ le 4 (satN 32 l.notKept) ++ le 4 l.suppressedTotal
    ++ le 5 s.opTime ++ le 3 s.powerCycle ++ le 5 l.lastFlush ++ le 1 0 ++ le 2 l.pfailUs

def actLogStatus (h : Hdr) (rsv : Bool) (s : State) : State :=
  serve s h { op := 0x73, insts := 1, len := 40, lenOk := h.len == 0, checks := [(rsv, stBadParam)] }
    (fun s => (s, logStatusReply s))

def execLogStatus (h : Hdr) (rsv : Bool) (s : State) : Host.Outcome State Fault Refusal :=
  hostRow s (.logStatus h rsv) h 0x73 40 (actLogStatus h rsv)

/-! ### TIME_MARK (R309) -/

/-- The mark is earlier than the one before. -/
def goesBack (prev : Option Nat) (wall : Nat) : Bool := match prev with | some p => decide (wall < p) | none => false

/-- The mark record and the reply; without space for it (and for event 0x9130 ahead of it) it is refused.
(log entry 78: DEDUCED) -/
def timeMark (s : State) (wall source accuracy : Nat) : State × Bytes :=
  match s.log.lastMark with
  | some (_, t) =>
    if s.opTime < t + 16 then (s, refusal 16 stBusy) else place (s.log.lastMark.map (·.1))
  | none => place none
where
  place (prev : Option Nat) : State × Bytes :=
    if s.log.buffer.length + b2n (s.log.discarded != 0) ≥ 1024 then (s, refusal 16 stFull)
    else
      let back := goesBack prev wall
      let s := pushOverflow s
      let seq := s.log.nextSeq
      let f : Finding :=
        { code := 0x9140, sev := 0
          payload := le 8 wall ++ le 1 source ++ le 1 accuracy ++ zeros 6 ++ le 8 (prev.getD 0) }
      let s := admitRec (countFinding s f) f (8 * b2n back) (modeCode s.mode)
      ({ s with log := { s.log with lastMark := some (wall, s.opTime) } },
        le 1 stOk ++ le 1 (b2n back) ++ le 2 0 ++ le 4 seq ++ le 5 s.opTime ++ le 3 s.powerCycle)

def actTimeMark (h : Hdr) (rsv : Bool) (wallMs : U64) (source accuracy : U8) (s : State) : State :=
  serve s h { op := 0x05, insts := 1, len := 16, lenOk := h.len == 12, checks := [(rsv, stBadParam)], mirrored := true }
    (fun s => timeMark s wallMs.toNat source.toNat accuracy.toNat)

def execTimeMark (h : Hdr) (rsv : Bool) (wallMs : U64) (source accuracy : U8) (s : State) :
    Host.Outcome State Fault Refusal :=
  hostRow s (.timeMark h rsv wallMs source accuracy) h 0x05 16 (actTimeMark h rsv wallMs source accuracy)

/-! ### Challenges and tokens, shared by R312, R399 and R401 -/

/-- The service key, if one is enrolled and loaded (Table 17.6, R402). -/
def State.serviceKey (s : State) : Option Bytes :=
  if s.img.keysLoaded then (match tget (dft []) s.img.keys 3 with | [] => none | k => some (k.take 32)) else none

/-- A token is right: the challenge is at most 60 s old and the HMAC matches (R312, R400). -/
def tokenOk (s : State) (c : Challenge) (suffix token : Bytes) : Bool :=
  match c.bytes, s.serviceKey with
  | some b, some k => (c.aged + (s.frame - c.issuedAt)) / 32 ≤ 60000 && decide (token = hmac k (b ++ suffix))
  | _, _ => false

/-- A wrong token counts; three within 10 min (9,600 counts) block challenges for 60 s. -/
def wrongToken (opTime : Nat) (c : Challenge) : Challenge × Bool :=
  let times := (c.wrongTimes ++ [opTime]).filter (fun t => opTime < t + 9600)
  if times.length ≥ 3 then ({ c with bytes := none, wrongTimes := [], blockedUntil := opTime + 960 }, true)
  else ({ c with bytes := none, wrongTimes := times }, false)

/-- The next random nonce of 16 bytes. (log entry 10: DESIGN CHOICE) -/
def drawNonce (s : State) : State × Bytes :=
  ({ s with free := s.free + 1 }, fit 16 (Config.nonce s.free))

/-- A token field is all zero. -/
def zeroToken (t : Bytes) : Bool := t.all (· == 0)

/-! ### Clearing (R312, R313) -/

def issueClearChallenge (s : State) : State × Bytes :=
  if s.opTime < s.log.clearCh.blockedUntil then (s, refusal 36 stBusy)
  else
    let (s, n) := drawNonce s
    let b := n ++ le 8 Config.unitNumber.toNat ++ le 4 s.log.nextSeq ++ le 4 s.opTime
    ({ s with log := { s.log with clearCh := { s.log.clearCh with bytes := some b, issuedAt := s.frame } } },
      refusal 4 stOk ++ b)

def actLogClearChallenge (h : Hdr) (rsv : Bool) (s : State) : State :=
  serve s h { op := 0x74, insts := 1, len := 36, lenOk := h.len == 0, checks := [(rsv, stBadParam)] } issueClearChallenge

def execLogClearChallenge (h : Hdr) (rsv : Bool) (s : State) : Host.Outcome State Fault Refusal :=
  hostRow s (.logClearChallenge h rsv) h 0x74 36 (actLogClearChallenge h rsv)

/-- Every open cursor notes that the records ahead of it are gone. -/
def passCursors (s : State) : State :=
  forEach cars8 (fun s n =>
    if (s.cursor n).isOpen then s.modCursor n (fun c => { c with cleared := true, passed := true }) else s) s

/-- The clear in one step: every record goes, the clear record is the first of the new log and is flushed. -/
def clearLog (s : State) : State × Bytes :=
  let l := s.log
  let all := l.log ++ l.buffer
  let old := all.take 32767
  let removed := if s.logFull then l.log.length + l.ring.length else all.length
  let first := match old.head? with | some r => r.seq | none => l.nextSeq
  let last := match old.getLast? with | some r => r.seq | none => (l.nextSeq + 2 ^ 32 - 1) % 2 ^ 32
  let seq := l.nextSeq
  let s := { s with log := { l with
    log := [], buffer := [], ring := [], ringLost := none, reserved := none, notKept := 0, firstNotKept := 0
    warned := false, damagedSeqs := [], clearing := none, lastClear := some seq
    clearCh := { l.clearCh with bytes := none } } }
  let s := passCursors s
  let f : Finding :=
    { code := 0x9111, sev := 0
      payload := le 4 first ++ le 4 last ++ le 4 old.length ++ le 4 (satN 32 (l.notKept + (all.length - 32767))) ++ le 1 3 }
  let s := admitNow (countFinding s f) f 0 (modeCode s.mode)
  let s := { s with opSaved := s.opTime
                    log := { s.log with log := s.log.buffer, buffer := [], lastFlush := s.opTime } }
  (s, refusal 4 stOk ++ le 4 seq ++ le 4 removed)

/-- A wrong clear token (R312). -/
def refuseClear (s : State) : State :=
  let (c, _) := wrongToken s.opTime s.log.clearCh
  record { s with log := { s.log with clearCh := c } } { code := 0x9110, sev := 1 }

/-- `LOG_CLEAR`: an accepted clear waits for a flush in progress. -/
def actLogClear (h : Hdr) (rsv : Bool) (token : Bytes) (s : State) : State :=
  match gate s h { op := 0x75, insts := 1, len := 12, lenOk := h.len == 32
                   checks := [(rsv, stBadParam), (zeroToken token, stAuthRequired)] } with
  | some p => answer s h 0x75 false p
  | none =>
    if !tokenOk s s.log.clearCh [0x75] token then answer (refuseClear s) h 0x75 false (refusal 12 stAuthFailed)
    else if s.log.flushing.isSome then
      { s with log := { s.log with clearing := some h, clearCh := { s.log.clearCh with bytes := none } } }
    else let (s, p) := clearLog s; answer s h 0x75 true p

def execLogClear (h : Hdr) (rsv : Bool) (token : Bytes) (s : State) : Host.Outcome State Fault Refusal :=
  if Instr.wellFormed (.logClear h rsv token) then
    hostRow s (.logClear h rsv token) h 0x75 12 (actLogClear h rsv token)
  else .fault .illFormed

/-! ### The rate limit list (R308) -/

/-- The list as it will stand from the next epoch boundary. -/
def State.ratesPending (s : State) : Tbl RateEntry := s.log.ratesNext.getD s.log.rates

def rateReply (s : State) (code : Nat) : Bytes :=
  let e := tget (dft {}) s.ratesPending code
  le 1 stOk ++ le 1 (if e.listed then e.burst else s.parN 0x9001 0) ++ le 1 (b2n e.listed)
    ++ le 1 (satN 8 s.ratesPending.length) ++ le 4 (if e.listed then e.refillMs else s.parN 0x9002 0)

def actRateLimitRead (h : Hdr) (rsv : Bool) (burst : U8) (code : U16) (refillMs : U32) (s : State) : State :=
  serve s h { op := 0x76, insts := 1, len := 8, isRead := true, lenOk := h.len == 8
              checks := [(rsv || burst != 0 || refillMs != 0, stBadParam)] }
    (fun s => (s, rateReply s code.toNat))

def execRateLimitRead (h : Hdr) (rsv : Bool) (burst : U8) (code : U16) (refillMs : U32) (s : State) :
    Host.Outcome State Fault Refusal :=
  hostRow s (.rateLimitRead h rsv burst code refillMs) h 0x76 8 (actRateLimitRead h rsv burst code refillMs)

def setRate (s : State) (code : Nat) (e : RateEntry) : State × Bytes :=
  let t := s.ratesPending
  if e.listed && !(tget (dft {}) t code).listed && t.length ≥ 256 then (s, refusal 8 stFull)
  else
    let t' := tset (dft {}) t code e
    let s := if t' = t then s else { s with log := { s.log with ratesNext := some t' } }
    (s, rateReply s code)

def actRateLimitSet (h : Hdr) (rsv : Bool) (burst : U8) (code : U16) (refillMs : U32) (s : State) : State :=
  serve s h { op := 0x76, insts := 1, len := 8, lenOk := h.len == 8, mirrored := true
              checks := [(rsv, stBadParam), (refillMs.toNat < 100 || refillMs.toNat > 3600000, stRange)] }
    (fun s => setRate s code.toNat { listed := true, burst := burst.toNat, refillMs := refillMs.toNat })

def execRateLimitSet (h : Hdr) (rsv : Bool) (burst : U8) (code : U16) (refillMs : U32) (s : State) :
    Host.Outcome State Fault Refusal :=
  hostRow s (.rateLimitSet h rsv burst code refillMs) h 0x76 8 (actRateLimitSet h rsv burst code refillMs)

def actRateLimitRemove (h : Hdr) (rsv : Bool) (burst : U8) (code : U16) (refillMs : U32) (s : State) : State :=
  serve s h { op := 0x76, insts := 1, len := 8, lenOk := h.len == 8, mirrored := true
              checks := [(rsv || burst != 0 || refillMs != 0, stBadParam)] }
    (fun s => setRate s code.toNat {})

def execRateLimitRemove (h : Hdr) (rsv : Bool) (burst : U8) (code : U16) (refillMs : U32) (s : State) :
    Host.Outcome State Fault Refusal :=
  hostRow s (.rateLimitRemove h rsv burst code refillMs) h 0x76 8 (actRateLimitRemove h rsv burst code refillMs)

/-- The pending list takes effect at an epoch boundary, with event 0x9141 (R308). -/
def ratesAtEpoch (s : State) : State :=
  match s.log.ratesNext with
  | none => s
  | some t => event { s with log := { s.log with rates := t, ratesNext := none } } 0x9141

end Sys2Proof.Machine
end

