-- ==== Sys2Proof/Machine/Images.lean ====
section
/-! DEFINITION. Images, activation, keys, challenges, tokens, the TAP and the identity (chapter 17). What ends an
enrolment window at the reset key switch stands in Resets.lean, the base restart in Modes.lean. -/

namespace Sys2Proof.Machine

/-! ### Tokens (R399 to R401) -/

/-- A token is used up, right or wrong; a wrong one is counted, and three in 10 min block challenges. -/
def useToken (s : State) (suffix token : Bytes) : State × Bool :=
  if tokenOk s s.img.auth suffix token then
    ({ s with img := { s.img with auth := { s.img.auth with bytes := none } } }, true)
  else
    let (c, blocked) := wrongToken s.opTime s.img.auth
    let s := record { s with img := { s.img with auth := c } } { code := 0xB120, sev := 1 }
    (if blocked then record s { code := 0xB121, sev := 1 } else s, false)

/-- A request whose token is checked ninth, ahead of its own conditions: `act` runs when the token is right. -/
def withToken (s : State) (len : Nat) (suffix token : Bytes) (act : State → State × Bytes) : State × Bytes :=
  match useToken s suffix token with
  | (s, true) => act s
  | (s, false) => (s, refusal len stAuthFailed)

/-- A challenge of 32 bytes (R399). (log entry 65: DEDUCED) -/
def issueChallenge (s : State) : State × Bytes :=
  let c := s.img.auth
  if s.opTime < c.blockedUntil then (s, refusal 36 stBusy)
  else
    let (s, n) := drawNonce s
    let k := (c.issued + 1) % 2 ^ 32
    let b := n ++ le 8 Config.unitNumber.toNat ++ le 4 s.opTime ++ le 4 k
    ({ s with img := { s.img with auth := { c with bytes := some b, issuedAt := s.frame, aged := 0, issued := k } } },
      refusal 4 stOk ++ b)

def actAuthChallenge (h : Hdr) (rsv : Bool) (s : State) : State :=
  serve s h { op := 0x85, insts := 1, len := 36, lenOk := h.len == 0, checks := [(rsv, stBadParam)] } issueChallenge

def execAuthChallenge (h : Hdr) (rsv : Bool) (s : State) : Host.Outcome State Fault Refusal :=
  hostRow s (.authChallenge h rsv) h 0x85 36 (actAuthChallenge h rsv)

/-! ### Loads (R391, R392) -/

/-- The key of a slot, and the two slots of a type. -/
def slotKey (type slot : Nat) : Nat := type * 2 + slot

/-- The largest image of a type in bytes (Table 17.1). -/
def imageMax (type : Nat) : Nat := match type with | 1 => 2097152 | 2 => 524288 | _ => 65536

def State.floor (s : State) (type : Nat) : Nat := tget (dft 0) s.img.floors type

/-- A public key by its position (Table 17.6). -/
def State.pubKey (s : State) (id : Nat) : Bytes := if id == 0 then Config.baseKey else tget (dft []) s.img.keys id

/-- R391: the first check that fails, 0 for a tadpole. -/
def verifyImage (s : State) (type : Nat) (d : Bytes) : Nat :=
  let body := d.drop 160
  let reserved := (d.drop 6).take 2 ++ (d.drop 25).take 7 ++ (d.drop 40).take 24
  let id := rd d 24 1
  let idOk := id + 1 == type
  if rd d 0 4 != 0x494D4731 || rd d 4 1 != type || rd d 5 1 != 1 || !zeroToken reserved
      || rd d 8 4 + 160 != d.length || d.length > imageMax type || (type != 1 && rd d 22 2 != 0) then 1
  else if (d.drop 64).take 32 != sha256 body then 2
  else if !idOk || s.pubKey id == [] then 3
  else if !ecdsaVerify (s.pubKey id) (sha256 (d.take 96)) ((d.drop 96).take 64) then 4
  else if rd d 12 4 < s.floor type then 5
  else if rd d 32 8 != 0 && rd d 32 8 != Config.unitNumber.toNat then 6
  else 0

/-- A loaded slot with its header fields. -/
def slotOf (d : Bytes) (state : Nat) : ImgSlot :=
  { state := state, data := d, keyId := rd d 24 1, mirrorFormat := rd d 20 2, interpair := rd d 22 2
    version := rd d 12 4, floor := rd d 16 4, length := d.length, digest := (d.drop 64).take 32 }

/-- The slot a load opens: as named, or the inactive one. (log entry 65: DEDUCED) -/
def openSlot (s : State) (type slot : Nat) : Nat :=
  if slot == 0xFF then (match s.activeSlot type with | some 0 => 1 | _ => 0) else slot

/-- The set slot whose confirmation window is open. -/
def State.stagedSlot (s : State) : Option Nat := s.saf.staged.map (·.2.1)

/-- Log entry 65: DEDUCED. -/
def beginImage (s : State) (type slot total : Nat) : State × Bytes :=
  let n := openSlot s type slot
  let no := fun (st reason : Nat) => (s, le 1 st ++ le 1 0 ++ le 1 reason ++ le 1 0)
  if s.activeSlot type == some n then no stWrongMode 1
  else if type == 3 && s.stagedSlot == some n then no stBusy 2
  else if s.img.session.isSome || s.img.verifying.isSome then no stBusy 3
  else
    let s := (s.latch' .nextSession none).modImgSlot (slotKey type n) (fun _ => { state := 1 })
    ({ s with img := { s.img with session := some { type := type, slot := n, total := total, received := 0, data := [] } } },
      le 1 stOk ++ le 1 n ++ zeros 2)

def actImageBegin (h : Hdr) (rsv : Bool) (type slot : U8) (totalLen : U32) (s : State) : State :=
  serve s h { op := 0x80, insts := 1, len := 4, lenOk := h.len == 8
              checks := [(rsv || type == 0 || type.toNat > 3 || (slot.toNat > 1 && slot != 0xFF), stBadParam),
                (decide (imageMax type.toNat < totalLen.toNat), stRange)] }
    (fun s => beginImage s type.toNat slot.toNat totalLen.toNat)

def execImageBegin (h : Hdr) (rsv : Bool) (type slot : U8) (totalLen : U32) (s : State) :
    Host.Outcome State Fault Refusal :=
  hostRow s (.imageBegin h rsv type slot totalLen) h 0x80 4 (actImageBegin h rsv type slot totalLen)

/-- Log entry 65: DEDUCED. -/
def addChunk (s : State) (offset : Nat) (data : Bytes) : State × Bytes :=
  match s.img.session with
  | none => (s, refusal 8 (if s.img.verifying.isSome then stBusy else stWrongMode))
  | some k =>
    if offset != k.received then (s, refusal 8 stBadParam)
    else if k.total < k.received + data.length then (s, refusal 8 stRange)
    else
      let k := { k with received := k.received + data.length, data := k.data ++ data }
      ({ s with img := { s.img with session := some k } }, refusal 4 stOk ++ le 4 k.received)

def actImageChunk (h : Hdr) (rsv : Bool) (offset : U32) (len : U16) (data : Bytes) (s : State) : State :=
  serve s h { op := 0x81, insts := 1, len := 8, lenOk := h.len == 8 + len.toNat
              checks := [(rsv, stBadParam), (len == 0 || len.toNat > 4064, stRange)] }
    (fun s => addChunk s offset.toNat data)

def execImageChunk (h : Hdr) (rsv : Bool) (offset : U32) (len : U16) (data : Bytes) (s : State) :
    Host.Outcome State Fault Refusal :=
  if Instr.wellFormed (.imageChunk h rsv offset len data) then
    hostRow s (.imageChunk h rsv offset len data) h 0x81 8 (actImageChunk h rsv offset len data)
  else .fault .illFormed

/-- IMAGE_END's reply. -/
def endReply (st result type slot version : Nat) (digest : Bytes) : Bytes :=
  le 1 st ++ le 1 result ++ le 1 type ++ le 1 slot ++ le 4 version ++ fit 32 digest

/-- The load ends and its verification begins. -/
def endImage (s : State) (h : Hdr) : State × Bytes :=
  match s.img.session with
  | none => (s, refusal 40 (if s.img.verifying.isSome then stBusy else stWrongMode))
  | some k =>
    let s := s.modImgSlot (slotKey k.type k.slot) (fun x => { x with data := k.data, length := k.data.length })
    ({ s with img := { s.img with session := none, verifying := some (k.type, k.slot, h) } },
      endReply stPending 0 k.type k.slot 0 [])

def actImageEnd (h : Hdr) (rsv : Bool) (s : State) : State :=
  serve s h { op := 0x82, insts := 1, len := 40, lenOk := h.len == 0, checks := [(rsv, stBadParam)] }
    (fun s => endImage s h)

def execImageEnd (h : Hdr) (rsv : Bool) (s : State) : Host.Outcome State Fault Refusal :=
  hostRow s (.imageEnd h rsv) h 0x82 40 (actImageEnd h rsv)

/-- IMAGE_VERIFY_COMPLETE: the slot is a tadpole or invalid, with event 0xB101 or 0xB102 and the completion NOTIFY.
(log entry 86: DESIGN CHOICE) -/
def execImageVerifyComplete (s : State) : Host.Outcome State Fault Refusal :=
  match (if s.running then s.img.verifying else none) with
  | none => .next s
  | some (type, slot, h) =>
    let d := (s.imgSlot (slotKey type slot)).data
    let r := verifyImage s type d
    let s := { s with img := { s.img with verifying := none } }
    let s := s.modImgSlot (slotKey type slot) (fun _ => slotOf d (if r == 0 then 3 else 2))
    let s := if r == 0 then event s 0xB101 (le 1 type ++ le 1 slot ++ zeros 2 ++ le 4 (rd d 12 4))
      else event s 0xB102 (le 1 type ++ le 1 slot ++ le 1 r)
    .next (notifyOn s h.chan 0 0x82 0 h.seq.toNat (endReply stOk r type slot (rd d 12 4) (sha256 (d.drop 160))))

/-- A load abandoned: its slot is invalid. -/
def dropSession (s : State) : State :=
  match s.img.session with
  | some k =>
    let s := s.modImgSlot (slotKey k.type k.slot) (fun x => { x with state := 2 })
    { s with img := { s.img with session := none } }
  | none => s

/-- Reset, a loss of supply and PROVING leave the slot of a load, or of its verification, invalid (R392). -/
def dropLoads (s : State) : State :=
  let s := dropSession s
  match s.img.verifying with
  | some (type, slot, _) =>
    let s := s.modImgSlot (slotKey type slot) (fun x => { x with state := 2 })
    { s with img := { s.img with verifying := none } }
  | none => s

/-- IMAGE_SESSION_IDLE: no chunk for `img_session_idle_s`. -/
def execImageSessionIdle (s : State) : Host.Outcome State Fault Refusal :=
  .next (if s.running then dropSession s else s)

/-! ### Activation (R393 to R397) -/

/-- Tadpoles below the floor of their type become invalid (R393). -/
def sinkBelow (s : State) (type : Nat) : State :=
  forEach [0, 1] (fun s n => s.modImgSlot (slotKey type n) (fun x =>
    if (x.state == 3 || x.state == 5) && x.version < s.floor type then { x with state := 2 } else x)) s

/-- A slot becomes active, the floor of its type rises, and event 0xB103 is recorded (R393, R394). -/
def activateSlot (s : State) (type slot : Nat) : State :=
  let s := forEach [0, 1] (fun s n => s.modImgSlot (slotKey type n) (fun x =>
    if n == slot then { x with state := 4 } else if x.state == 4 then { x with state := 3 } else x)) s
  let k := s.imgSlot (slotKey type slot)
  let s := { s with img := { s.img with floors := tset (dft 0) s.img.floors type (max (s.floor type) k.floor) } }
  event (sinkBelow s type) 0xB103 (le 1 type ++ le 1 slot ++ zeros 2 ++ le 4 k.version)

/-- A slot is selected for the next PROVING (state 5). -/
def selectSlot (s : State) (type slot : Nat) : State :=
  forEach [0, 1] (fun s n => s.modImgSlot (slotKey type n) (fun x =>
    if n == slot then { x with state := 5 } else if x.state == 5 then { x with state := 3 } else x)) s

/-- The digest of the confirmed set's body. -/
def State.setDigest (s : State) : Option Bytes := s.saf.set.map (·.digest)

/-- The conditions and the effect of Table 17.4. (log entries 64: DEDUCED, 65: DEDUCED) -/
def activate (s : State) (type slot : Nat) : State × Bytes :=
  let no := fun (st reason : Nat) => (s, le 1 st ++ le 1 reason ++ zeros 2)
  let yes := fun (s : State) (effect : Nat) => (s, le 1 stOk ++ le 1 0 ++ le 1 effect ++ le 1 0)
  let k := s.imgSlot (slotKey type slot)
  let locked := s.mode == .lockout
  if s.pair.hand != 0 || s.params.commit.isSome then no stBusy 0
  else if k.state != 3 then no stWrongMode 1
  else if type == 1 then
    if locked then yes (selectSlot s 1 slot) 1
    else if s.anyOutOn then no stWrongMode 2
    else
      let s := selectSlot s 1 slot
      yes { s with img := { s.img with baseRestart := some slot } } 1
  else if type == 2 then
    if !policyOk s (k.data.drop 160) then no stWrongMode 5
    else if locked then yes (selectSlot s 2 slot) 1
    else if !cars8.all s.standstill then no stWrongMode 2
    else if cars8.any (fun c => (s.hoist c).learn.state == 1 || (s.hoist c).bt.state == 1) then no stWrongMode 4
    else yes { s with img := { s.img with policyNext := some slot } } 0
  else if s.setDigest != some k.digest then no stWrongMode 3
  else yes (activateSlot s 3 slot) 0

def actImageActivate (h : Hdr) (rsv : Bool) (type slot : U8) (s : State) : State :=
  serve s h { op := 0x83, insts := 1, len := 4, lenOk := h.len == 4
              checks := [(rsv || type == 0 || type.toNat > 3 || slot.toNat > 1, stBadParam)] }
    (fun s => activate s type.toNat slot.toNat)

def execImageActivate (h : Hdr) (rsv : Bool) (type slot : U8) (s : State) : Host.Outcome State Fault Refusal :=
  hostRow s (.imageActivate h rsv type slot) h 0x83 4 (actImageActivate h rsv type slot)

/-- A policy activated in COMMISSION is in force from the epoch boundary (Table 17.4), and a standby activates what the
active has in force (R395); the second part of the answer asks for the resync. -/
def imagesAtEpoch (s : State) : State × Bool :=
  let s := match s.img.policyNext with
    | some n =>
      let s := { s with img := { s.img with policyNext := none } }
      if (s.imgSlot (slotKey 2 n)).state == 3 then activateSlot s 2 n else s
    | none => s
  if s.mode != .shadow then (s, false)
  else
    [2, 3].foldl (fun (acc : State × Bool) type =>
      let s := acc.1
      match s.pair.activeDigests.find? (fun e => e.1 == type) with
      | none => acc
      | some (_, d) =>
        match (List.range 2).find? (fun n => (s.imgSlot (slotKey type n)).state == 3
            && (s.imgSlot (slotKey type n)).digest == d) with
        | some n => (activateSlot s type n, true)
        | none => acc) (s, false)

/-! ### IMAGE_STATUS -/

def slotEntry (k : ImgSlot) : Bytes :=
  le 1 k.state ++ le 1 k.keyId ++ le 2 k.mirrorFormat ++ le 4 k.version ++ le 4 k.floor ++ le 4 k.length ++ fit 32 k.digest

def fingerprint (key : Bytes) : Bytes := if key == [] then zeros 8 else (sha256 key).take 8

def keyEntry (s : State) (id : Nat) : Bytes :=
  let k := s.pubKey id
  le 1 id ++ le 1 (b2n (k != [])) ++ zeros 2 ++ fingerprint k

/-- Log entry 65: DEDUCED. -/
def imageStatus (s : State) : Bytes :=
  refusal 4 stOk ++ ((List.range 6).map (fun i => slotEntry (s.imgSlot (2 + i)))).flatten
    ++ ((List.range 4).map (keyEntry s)).flatten

def actImageStatus (h : Hdr) (rsv : Bool) (s : State) : State :=
  serve s h { op := 0x84, insts := 1, len := 340, lenOk := h.len == 0, checks := [(rsv, stBadParam)] }
    (fun s => (s, imageStatus s))

def execImageStatus (h : Hdr) (rsv : Bool) (s : State) : Host.Outcome State Fault Refusal :=
  hostRow s (.imageStatus h rsv) h 0x84 340 (actImageStatus h rsv)

/-! ### Key enrolment (R398) -/

/-- Milliseconds left of an armed window. -/
def State.windowLeft (s : State) (w : Window) (total : Nat) : Nat := if w.state == 1 then s.msLeft total w.armedAt else 0

def enrolReply (s : State) (st : Nat) : Bytes :=
  le 1 st ++ le 1 s.saf.enrolWin.state ++ zeros 2
    ++ fingerprint (match s.img.enrolKey with | some (_, k, _) => k | none => [])
    ++ le 4 (s.windowLeft s.saf.enrolWin 120000)

/-- The bytes of a key as it is kept. -/
def keptKey (id : Nat) (key : Bytes) : Bytes := if id == 3 then key.take 32 else key

def keyValid (id : Nat) (key : Bytes) : Bool := if id == 3 then zeroToken (key.drop 32) else validPoint key

def actKeyEnrolRead (h : Hdr) (rsv : Bool) (keyId : U8) (key token : Bytes) (s : State) : State :=
  serve s h { op := 0x86, insts := 1, len := 16, isRead := true, lenOk := h.len == 100
              checks := [(rsv || !zeroToken key || !zeroToken token, stBadParam),
                (keyId == 0 || keyId.toNat > 3, stRange)] }
    (fun s => (s, enrolReply s stOk))

def execKeyEnrolRead (h : Hdr) (rsv : Bool) (keyId : U8) (key token : Bytes) (s : State) :
    Host.Outcome State Fault Refusal :=
  if Instr.wellFormed (.keyEnrolRead h rsv keyId key token) then
    hostRow s (.keyEnrolRead h rsv keyId key token) h 0x86 16 (actKeyEnrolRead h rsv keyId key token)
  else .fault .illFormed

/-- The window opens. (log entry 66: DEDUCED) -/
def armEnrol (s : State) (h : Hdr) (id : Nat) (key : Bytes) : State × Bytes :=
  if s.saf.staged.isSome || s.saf.enrolWin.state == 1 then (s, refusal 16 stBusy)
  else
    let s := { s with
      img := { s.img with enrolKey := some (id, keptKey id key, h.chan, h.seq) }
      saf := { s.saf with enrolWin := { state := 1, armedAt := s.frame } } }
    (s, enrolReply s stPending)

/-- Replacing an enrolled key needs a token; otherwise the field is zero. -/
def actKeyEnrol (h : Hdr) (rsv : Bool) (keyId : U8) (key token : Bytes) (s : State) : State :=
  let id := keyId.toNat
  let old := s.pubKey id != []
  serve s h { op := 0x86, insts := 1, len := 16, lenOk := h.len == 100
              checks := [(rsv || (!old && !zeroToken token), stBadParam),
                (id == 0 || id > 3 || !keyValid id key, stRange),
                (old && zeroToken token, stAuthRequired)] }
    (fun s => if old then withToken s 16 [0x86] token (fun s => armEnrol s h id key) else armEnrol s h id key)

def execKeyEnrol (h : Hdr) (rsv : Bool) (keyId : U8) (key token : Bytes) (s : State) :
    Host.Outcome State Fault Refusal :=
  if Instr.wellFormed (.keyEnrol h rsv keyId key token) then
    hostRow s (.keyEnrol h rsv keyId key token) h 0x86 16 (actKeyEnrol h rsv keyId key token)
  else .fault .illFormed

/-- An enrolment window ends without enrolling: 3 expired, 4 void; event 0xB111 and the completion NOTIFY of the pending
request (R380). (log entry 66: DEDUCED) -/
def closeEnrol (s : State) (state : Nat) : State :=
  if s.saf.enrolWin.state == 1 then
    let s := event { s with saf := { s.saf with enrolWin := { s.saf.enrolWin with state := state } } } 0xB111
    match s.img.enrolKey with
    | some (_, _, ch, seq) => notifyOn s ch 0 0x86 0 seq.toNat (enrolReply s stOk)
    | none => s
  else s

/-- ENROL_WINDOW_EXPIRY: 120 s without a confirmation operation. -/
def execEnrolWindowExpiry (s : State) : Host.Outcome State Fault Refusal :=
  .next (if s.running then closeEnrol s 3 else s)

/-- The key of an open window is enrolled; slots signed with the key it replaces become invalid, except the active one. -/
def enrolKey (s : State) : State :=
  match (if s.saf.enrolWin.state == 1 then s.img.enrolKey else none) with
  | none => s
  | some (id, key, ch, seq) =>
    let replaced := s.pubKey id != [] && s.pubKey id != key
    let s := { s with
      img := { s.img with keys := tset (dft []) s.img.keys id key }
      saf := { s.saf with enrolWin := { s.saf.enrolWin with state := 2 } } }
    let type := id + 1
    let s := if replaced && id != 3 then
        forEach [0, 1] (fun s n => s.modImgSlot (slotKey type n) (fun x =>
          if (x.state == 3 || x.state == 5) && x.keyId == id then { x with state := 2 } else x)) s
      else s
    notifyOn (event s 0xB110 (le 1 id)) ch 0 0x86 0 seq.toNat (enrolReply s stOk)

/-! ### Secrets and the TAP (R402, R403) -/

/-- The volatile secrets are cleared; their MRAM copies stay (R402). -/
def clearSecrets (s : State) : State :=
  if s.img.keysLoaded then
    { s with
      img := { s.img with
        keysLoaded := false, auth := { issued := s.img.auth.issued }, authCopy := s.img.auth
        pairCopy := (s.pair.paired, s.pair.pairTag, s.pair.partnerUnit) }
      pair := { s.pair with paired := false, pairTag := 0, partnerUnit := 0 } }
  else s

/-- The secrets are reloaded from their MRAM copies (R402). -/
def reloadSecrets (s : State) : State :=
  if s.img.keysLoaded then s
  else
    { s with
      img := { s.img with keysLoaded := true, auth := { s.img.authCopy with issued := s.img.auth.issued } }
      pair := { s.pair with paired := s.img.pairCopy.1, pairTag := s.img.pairCopy.2.1, partnerUnit := s.img.pairCopy.2.2 } }

/-- The instruction a 4-bit code selects: SAMPLE/PRELOAD, EXTEST and IDCODE, else BYPASS. -/
def tapOf (code : Nat) : Nat := if code < 3 then code else 15

/-- TAP_INSTRUCTION_UPDATE. Without power or in DORMANT the pins have no effect. -/
def execTapInstructionUpdate (code : BitVec 4) (s : State) : Host.Outcome State Fault Refusal :=
  .next (if !s.running then s
    else
      let t := tapOf code.toNat
      let s := { s with img := { s.img with tap := t } }
      if t == 15 then s
      else closeEnrol (clearSecrets (raise s { code := 0xB130, sev := 4, payload := le 1 t })) 4)

/-- SECRET_RELOAD: within 5 ms of the instruction register's return to BYPASS. The unwrap check fails where both copies of the
secrets are lost (R296), with a finding of severity 4 (R402). (log entry 66: DEDUCED) -/
def execSecretReload (s : State) : Host.Outcome State Fault Refusal :=
  .next (if s.running && s.img.tap == 15 && !s.img.keysLoaded then
      if s.mem.secretsLost then raise s { code := 0xA314, sev := 4, cls := 2 } else event (reloadSecrets s) 0xB131
    else s)

/-! ### Identity (R405) -/

def identityReply (s : State) (nonce : Bytes) : Bytes :=
  let body := fit 16 Config.identityHead ++ le 8 Config.unitNumber.toNat ++ zeros 8 ++ devicePub ++ fit 64 Config.certSig
    ++ le 5 s.opTime ++ zeros 3
  refusal 4 stOk ++ body ++ ecdsaSign Config.devicePrivate (sha256 (body ++ nonce))

def actIdentityRead (h : Hdr) (rsv : Bool) (nonce : Bytes) (s : State) : State :=
  serve s h { op := 0x01, insts := 1, len := 236, lenOk := h.len == 16, checks := [(rsv, stBadParam)] }
    (fun s => (s, identityReply s nonce))

def execIdentityRead (h : Hdr) (rsv : Bool) (nonce : Bytes) (s : State) : Host.Outcome State Fault Refusal :=
  if Instr.wellFormed (.identityRead h rsv nonce) then
    hostRow s (.identityRead h rsv nonce) h 0x01 236 (actIdentityRead h rsv nonce)
  else .fault .illFormed

end Sys2Proof.Machine
end

