-- ==== Sys2Proof/Machine/Power.lean ====
section
/-! DEFINITION. The power-budget governor and admission of starts (R183 to R187), car regimes (R176 to R178,
R181), group membership and group epochs (R180, R182, R184, R282). -/

namespace Sys2Proof.Machine

/-! ### Peak power (R126, R162) -/

/-- Instants within a stretch at which the power may peak: its ends and the zeros of the power's derivative.
`m` is in kg, `g` in µN along the direction of travel. (log entry 57: DESIGN CHOICE) -/
def peakTimes (m g : Rat) (k : Kin) (r : Stretch) : List Rat :=
  let f := m * k.a + g
  let a := 3 * m * r.jerk * r.jerk / 2
  let b := 2 * m * r.jerk * k.a + f * r.jerk
  let c := m * r.jerk * k.v + f * k.a
  let d := (b * b - 4 * a * c) / 1000000000000
  let mid := if a == 0 || d < 0 then [] else
    let q : Rat := ((sqrtFloor d : Nat) : Int) * 1000000
    [(-b - q) / (2 * a), (-b + q) / (2 * a)].filter (fun t => 0 < t && t < r.dur)
  [0, r.dur] ++ mid

/-- Powers (10⁻¹² W) at those instants over the stretches of a plan. -/
def powersOf (m g : Rat) : Kin → List Stretch → List Rat
  | _, [] => []
  | k, r :: rs =>
    (peakTimes m g k r).map (fun t => let x := k.after t r.jerk; (m * x.a + g) * x.v)
      ++ powersOf m g (k.after r.dur r.jerk) rs

/-- The force of the load along the plan, in µN. -/
def loadForce (s : State) (c : Nat) (p : Plan) (w : Int) : Rat := (p.dir * (w - s.par 0x3023 c) * 9806650 : Int)

/-- The mean mechanical power of a plan with load `w`, in W: the change of its kinetic energy and the work on the load, over
its time (R126). -/
def meanPower (s : State) (c : Nat) (p : Plan) (w : Int) : Rat :=
  let k := endRuns ⟨0, p.v0, p.a0⟩ p.runs
  let t := runsTime p.runs
  let m : Rat := s.par 0x3028 c
  if t ≤ 0 then 0 else ((m * (k.v * k.v - p.v0 * p.v0) / 2 + loadForce s c p w * k.x) / t) / 1000000000000

/-- What the planner returns of a plan with load `w` (R126, R185): peak motoring and regeneration draw in W, rounded up, and
the mean mechanical power. (log entry 57: DESIGN CHOICE) -/
def tripPower (s : State) (c : Nat) (p : Plan) (w : Int) : (Nat × Nat) × Rat :=
  let ps := powersOf (s.par 0x3028 c : Int) (loadForce s c p w) ⟨0, p.v0, p.a0⟩ p.runs
  let hi := ps.foldl max 0
  let lo := ps.foldl min 0
  let up := fun (x : Rat) => x.ceil.toNat
  ((up (hi * 100 / (s.par 0x5011 c : Int) / 1000000000000), up (-lo * (s.par 0x5012 c : Int) / 100 / 1000000000000)),
    meanPower s c p w)

/-! ### Budgets (R183, R184) -/

/-- A budget point of a domain: none configured, good with its value in W, or not good. -/
def budgetPoint (s : State) (key n : Nat) : Option (Option Nat) :=
  if s.com key n == 0xFFFFFFFF then none
  else some ((s.goodPoint (s.com key n)).map (fun v => v * s.parN 0x5023 n))

/-- The source in force of a domain: 0 override, 1 points, 2 fallback, 3 unlimited. -/
def budgetSource (s : State) (n : Nat) : Nat :=
  if (s.domain n).hostBudget.isSome then 0
  else match budgetPoint s 0x5020 n, budgetPoint s 0x5021 n with
    | none, none => 3
    | some none, _ => 2
    | _, some none => 2
    | _, _ => 1

/-- The limits of a domain in W; none is no limit. (log entry 57: DESIGN CHOICE) -/
def budget (s : State) (n : Nat) : Option Nat × Option Nat :=
  match budgetSource s n with
  | 0 => match (s.domain n).hostBudget with | some (m, r) => (some m, some r) | none => (none, none)
  | 1 => ((budgetPoint s 0x5020 n).bind id, (budgetPoint s 0x5021 n).bind id)
  | 2 => (some (s.parN 0x5024 n), some (s.parN 0x5025 n))
  | _ => (none, none)

/-- The part of a limit between two points of 0 to 1, so that the parts of a whole sum to the limit. -/
def partOf (limit : Option Nat) (part : Rat × Rat) : Option Nat :=
  limit.map (fun l => ((((l : Nat) : Int) * part.2 : Rat).floor - (((l : Nat) : Int) * part.1 : Rat).floor).toNat)
/-- This pair's shares of a domain's limits. -/
def shares (s : State) (n : Nat) : Option Nat × Option Nat :=
  match (s.domain n).share with
  | none => budget s n
  | some (m, r) => (partOf (budget s n).1 m, partOf (budget s n).2 r)

def carsOfDomain (s : State) (n : Nat) : List Nat := cars8.filter (fun c => s.par 0x5002 c == (n : Int))

/-- Draw admitted in a domain: admitted trips, and the standing draw of cars admitted or with the contactor
energised. -/
def admitted (s : State) (n : Nat) : Nat × Nat :=
  (carsOfDomain s n).foldl (fun (a : Nat × Nat) c =>
    let h := s.hoist c
    let stand := if h.admitFlag || s.outOn (outOf c 0) then s.parN 0x5013 c else 0
    (a.1 + stand + (if h.admitFlag then h.admMotor else 0), a.2 + (if h.admitFlag then h.admRegen else 0))) (0, 0)

def within (v : Nat) (limit : Option Nat) : Bool := match limit with | some l => decide (v ≤ l) | none => true

/-- R183, R186: what a change of budget shows: events 0x5151 and 0x5150. -/
def budgetWatch (s : State) : State :=
  forEach (List.range 4) (fun s n =>
    let fb := budgetSource s n == 2
    let s := if fb && !(s.domain n).fallback then record s { code := 0x5151, sev := 1, inst := n } else s
    let a := admitted s n
    let ovr := !(within a.1 (shares s n).1 && within a.2 (shares s n).2)
    let s := if ovr && !(s.domain n).overDraw then record s { code := 0x5150, sev := 1, inst := n } else s
    s.modDomain n (fun d => { d with fallback := fb, overDraw := ovr })) s

/-! ### Rescue moves (R187) -/

/-- The nearest served landing in a direction, at or beyond the car. -/
def nearestIn (s : State) (c : Nat) (dir : Int) : Option Nat :=
  let n := s.landingBeyond c dir (s.fusedPos c)
  if n == 0xFF then none else some n

/-- Where a Rescue move goes: landing, direction, against the safe direction, and the weight of its draw. -/
def rescueTarget (s : State) (c : Nat) : Option (Nat × Int × Bool × Int) :=
  let w := s.carLoad c
  let bal := s.par 0x3023 c
  let band := s.par 0x5006 c
  let up := nearestIn s c 1
  let down := nearestIn s c (-1)
  let x := s.fusedPos c
  if w - bal > band then
    match down, up with
    | some n, _ => some (n, -1, false, w)
    | none, some n => some (n, 1, true, w)
    | none, none => none
  else if bal - w > band then
    match up, down with
    | some n, _ => some (n, 1, false, w)
    | none, some n => some (n, -1, true, w)
    | none, none => none
  else
    match up, down with
    | some n, some m =>
      if s.landingPos c n - x < x - s.landingPos c m then some (n, 1, false, bal + band) else some (m, -1, false, bal - band)
    | some n, none => some (n, 1, false, bal + band)
    | none, some m => some (m, -1, false, bal - band)
    | none, none => none

/-- A car in Rescue demands its move, once; without a served landing it stays (event 0x5162). -/
def demandRescue (s : State) (c : Nat) : State :=
  let h := s.hoist c
  if (s.dcar c).regime != .rescue || h.phase != .idle || h.waiting || h.rescueDone || !s.atRest c then s
  else if s.atSomeLanding c then s
  else match rescueTarget s c with
    | some (n, _) => requestMove s c .rescue n (s.landingPos c n) 0
    | none => record (s.modHoist c (fun h => { h with rescueDone := true })) { code := 0x5162, sev := 1, inst := c, car := some c }

/-- A completed Rescue move: the car opens its doors for the policy dwell and stays parked. -/
def rescueArrived (s : State) (c : Nat) : State :=
  let h := s.hoist c
  let s := event s 0x5161 [] c
  forEach (List.range 2) (fun s side =>
    if s.serves c h.lastLanding side then (demandOpen s (2 * c + side) 0 0).1 else s) s

/-! ### Admission (R185, R112) -/

/-- R173: provisional stops ahead of a live one are abandoned when the car would go past them; with no live stop the
car waits. -/
def abandonOffers (s : State) (c : Nat) : State :=
  let l := (s.dcar c).itin
  let ahead := l.takeWhile (·.provisional)
  if ahead.isEmpty || ahead.length == l.length then s
  else
    let ids := ((ahead.map (fun q => q.calls.map (·.1))).flatten).eraseDups
    let s := forEach ids (fun s i => (unassign s i).forget i) s
    s.modDcar c (fun d => { d with itin := d.itin.filter (fun q => !(q.provisional && q.calls.isEmpty)) })

/-- The car serves the stop in its regime (Table 08.3): calls that still wait to be moved to another car are not served. -/
def servable (s : State) (c : Nat) (k : Stop) : Bool :=
  let has := fun (p : Call → Bool) => k.calls.any (fun e => (s.call? e.1).any p)
  match (s.dcar c).regime with
  | .normal | .independent => true
  | .firefighter => recallStop s c k || has (fun x => x.kind == 1 || x.kind == 3)
  | .evacuation => has (fun x => x.kind == 3 || x.state == 2)
  | .outOfService => has (fun x => x.state == 2)
  | _ => false

/-- The trip that an idle car's itinerary asks for. -/
def demandTrip (s : State) (c : Nat) : State :=
  let h := s.hoist c
  let d := s.dcar c
  if !s.dispatches || h.waiting || h.stopReq.isSome || h.stopClass.isSome
      || !(h.phase == .idle || h.phase == .torqueHold || h.phase == .torqueRamp)
      || d.regime == .inspection || d.regime == .rescue || h.learn.state == 1 || h.bt.state == 1 then s
  else
    let s := abandonOffers s c
    match (s.dcar c).itin.find? (servable s c) with
    | none => s
    | some k =>
      let s := s.modDcar c (fun d => { d with itin := k :: d.itin.erase k })
      if k.provisional || s.landingPos c k.landing == unset || (h.levelled && h.lastLanding == k.landing) then s
      else requestMove s c .trip k.landing (s.landingPos c k.landing) 0

/-- Every car's demands. -/
def demands (s : State) : State := forEach cars8 (fun s c => demandTrip (demandRescue s c) c) s

/-- A waiting start that lacks only its admission. (log entry 58: DEDUCED) -/
def ready (s : State) (c : Nat) : Bool :=
  let h := s.hoist c
  h.waiting && s.startable c && doorsAllow s c && !(s.carSaf c).trip && h.stopReq.isNone
    && (h.phase == .idle || h.phase == .torqueHold || h.phase == .torqueRamp)

/-- The draw of a waiting start: none for a brake test, which does not move. (log entry 57: DESIGN CHOICE) -/
def drawOf (s : State) (c : Nat) : Nat × Nat :=
  let h := s.hoist c
  if h.kind == .brakeTest then (0, 0)
  else
    let w := if h.kind == .rescue then (match rescueTarget s c with | some (_, _, _, w) => w | none => s.carLoad c)
      else s.carLoad c
    (tripPower (planned s c) c (startPlan (planned s c) c h.targetPos) w).1

/-- The order of R185 and R187: smaller first. -/
def rank (s : State) (c : Nat) : List Nat :=
  let h := s.hoist c
  let prio := match (s.dcar c).itin with | k :: _ => k.priority && k.landing == h.targetLanding | [] => false
  if h.kind == .rescue then
    let alt := match rescueTarget s c with | some (_, _, a, _) => a | none => false
    let d := drawOf s c
    [0, if alt then 2 else if s.carLoad c ≥ s.par 0x5005 c then 0 else 1, d.1 + d.2, c]
  else [if prio then 1 else 2, h.admitFrame, c]

/-- Log entry 58: DEDUCED. -/
def rankLt : List Nat → List Nat → Bool
  | a :: as, b :: bs => a < b || (a == b && rankLt as bs)
  | _, _ => false

/-- The start fits the pair's shares of the car's domain. -/
def fits (s : State) (c : Nat) : Bool :=
  let n := s.parN 0x5002 c
  let a := admitted s n
  let d := drawOf s c
  let stand := if (s.hoist c).admitFlag || s.outOn (outOf c 0) then 0 else s.parN 0x5013 c
  within (a.1 + d.1 + stand) (shares s n).1 && within (a.2 + d.2) (shares s n).2

/-- No waiting start of the domain goes before car `c`. (log entry 58: DEDUCED) -/
def headOf (s : State) (c : Nat) : Bool :=
  (carsOfDomain s (s.parN 0x5002 c)).all (fun k => k == c || !ready s k || !rankLt (rank s k) (rank s c))

/-- A start is admitted. (log entry 58: DEDUCED) -/
def admitStart (s : State) (c : Nat) : State :=
  let d := drawOf s c
  let kind := (s.hoist c).kind
  let s := s.modHoist c (fun h => { h with admitFlag := true, admMotor := d.1, admRegen := d.2 })
  let s := match (if kind == .rescue then rescueTarget s c else none) with
    | some (_, dir, alt, _) =>
      let s := s.modCarSaf c (fun k => { k with dirLatch := some (dir, s.place c) })
      event s 0x5160 (le 1 (b2n alt)) c
    | none => s
  startSequence s c

/-- TRIP_ADMISSION for car `c`. -/
def tripAdmission (s : State) (c : Nat) : State :=
  let s := budgetWatch (demands s)
  if ready s c && headOf s c && fits s c then admitStart s c else s

def execTripAdmission (car : Fin 8) (s : State) : Host.Outcome State Fault Refusal :=
  .next (if s.hoistRuns then tripAdmission s car else s)

/-! ### Regimes (R176 to R178) -/

/-- A demand entry of Table 17.17 demands now. -/
def entryDemands (s : State) (e : Bytes) : Bool :=
  let k := rd e 0 4
  let inv := bitAt (rd e 7 1) 0
  (s.pointGood k && (if inv then s.pointVal k == 0 else s.pointVal k != 0)) || (bitAt (rd e 7 1) 1 && !s.pointGood k)

/-- A demand entry names the car. -/
def entryNames (s : State) (c : Nat) (e : Bytes) : Bool :=
  if rd e 5 1 == 0 then s.par 0x5001 c == (rd e 6 1 : Nat) else rd e 6 1 == s.boardCar c

/-- A key of the car's stations is turned: bit 0 Independent, 1 Firefighter, 2 Out of service.
(log entry 59: DEDUCED) -/
def keyTurned (s : State) (c bit : Nat) : Bool :=
  (match s.regimeCar (s.boardCar c) with | some e => bitAt (rd e 3 1) bit | none => false)
    && s.links.nodes.any (fun e => e.2.profile == 2 && s.com 0x8005 (e.1 / 256) == (c : Int)
      && s.pointVal (pointKey (e.1 / 256) (e.1 % 256) (54 + bit)) != 0)

def regimeOf (n : Nat) : Option Regime :=
  match n with
  | 0 => some .normal | 1 => some .independent | 2 => some .inspection | 3 => some .firefighter
  | 4 => some .evacuation | 5 => some .rescue | 6 => some .outOfService | _ => none

/-- The UPS state point of the car's domain reads on battery. (log entry 59: DEDUCED) -/
def onBattery (s : State) (c : Nat) : Bool :=
  let a := s.com 0x5022 (s.parN 0x5002 c)
  a != 0xFFFFFFFF && s.pointVal a.toNat != 0

/-- `r` is demanded of car `c` by some source. -/
def regimeDemanded (s : State) (c : Nat) (r : Regime) : Bool :=
  (s.dcar c).hostDemand == some r
    || (match r with
      | .inspection => s.safEnabled c && s.inspection c
      | .rescue => onBattery s c
      | .independent => keyTurned s c 0
      | .firefighter => keyTurned s c 1
      | .outOfService => keyTurned s c 2
      | _ => false)
    || s.demandEntries.any (fun e => rd e 4 1 == regimeCode r && (rd e 4 1 != 0) && entryNames s c e && entryDemands s e)

/-- The regime demanded, by the order of R177. (log entry 59: DEDUCED) -/
def regimeWanted (s : State) (c : Nat) : Regime :=
  ([Regime.inspection, .rescue, .firefighter, .evacuation, .outOfService, .independent].find?
    (regimeDemanded s c)).getD .normal

/-- The change takes effect now: at once into Inspection, Rescue and Firefighter, otherwise with committed stops
served and doors closed and locked. (log entry 59: DEDUCED) -/
def regimeReady (s : State) (c : Nat) (r : Regime) : Bool :=
  r == .inspection || r == .rescue || r == .firefighter
    || (s.doorsLocked c && !((flagged s c).any (·.2)))

/-- Calls aboard, and car calls made before the recall, end with it. (log entry 59: DEDUCED) -/
def endAboard (s : State) (c : Nat) : State :=
  let ids := (((s.dcar c).itin.map (fun k => k.calls.map (·.1))).flatten).eraseDups.filter (fun i =>
    (s.call? i).any (fun k => k.state == 2 || k.kind == 1))
  forEach ids (fun s i => endCall (unassign s i) i 4) s

/-- Firefighter: the trip in progress goes to the fire landing, or by `nearest_landing`. The calls that have not boarded stay
behind that stop until they move. -/
def recallCar (s : State) (c : Nat) : State :=
  match fireLanding s c with
  | none => s
  | some n =>
    let s := endAboard s c
    let h := s.hoist c
    let y := s.landingPos c n
    let there := (s.dcar c).serving && h.levelled && h.lastLanding == n
    let s := s.modDcar c (fun d =>
      { d with itin := { stopAt n false false [] with priority := true } :: d.itin.filter (fun q => !q.calls.isEmpty)
               serving := there, recallDone := there })
    if y == unset then s
    else if h.phase == .running && h.kind == .trip && h.stopClass.isNone && !(creeping h) then
      if 0 ≤ s.moveDir c * (y - s.minStopPos c) then retarget s c n y
      else
        let m := s.landingBeyond c (s.moveDir c) (s.minStopPos c)
        if m == 0xFF then s else retarget s c m (s.landingPos c m)
    else if starting h && h.kind == .trip then
      s.modHoist c (fun h => { h with targetLanding := n, targetPos := y })
    else if h.waiting && h.kind == .trip then s.modHoist c (fun h => { h with waiting := false, kind := .none })
    else s

/-- The regime of car `c` becomes `r`. (log entry 59: DEDUCED) -/
def changeRegime (s : State) (c : Nat) (r : Regime) : State :=
  let old := (s.dcar c).regime
  let s := event s 0x5120 (le 1 (regimeCode old) ++ le 1 (regimeCode r)) c
  let s := match r with
    | .normal => s
    | .independent => (redispatch s c false).1
    | _ => (redispatch s c true).1
  let s := s.modDcar c (fun d =>
    { d with regime := r, recallDone := false, joining := d.joining || r == .normal
             removedAt := if r == .normal then none else d.removedAt, removing := if r == .normal then [] else d.removing
             faultOut := d.faultOut && r != .normal, leaving := d.leaving && r != .normal })
  let s := forEach [2 * c, 2 * c + 1] (fun s d => s.modDoor d (fun x => { x with holdOpen := false })) s
  let s := if s.mode == .service && r != .outOfService then endInjOn s 5 (fun l => s.loopCar l == some c) else s
  let s := s.modHoist c (fun h => { h with rescueDone := false })
  match r with
  | .inspection => s.requestStop c 1
  | .firefighter => recallCar s c
  | _ => s

def execRegimeChange (car : Fin 8) (s : State) : Host.Outcome State Fault Refusal :=
  let r := regimeWanted s car
  .next (if s.power == .on && s.incharge && r != (s.dcar car).regime && regimeReady s car r then
    changeRegime s car r else s)

/-- `CAR_REGIME_SET` reply: a demand not in force, the host's first. -/
def regimeReply (s : State) (c : Nat) : Bytes :=
  let d := s.dcar c
  let pend := match d.hostDemand with
    | some r => if r != d.regime then regimeCode r else if regimeWanted s c != d.regime then regimeCode (regimeWanted s c) else 0xFF
    | none => if regimeWanted s c != d.regime then regimeCode (regimeWanted s c) else 0xFF
  le 1 stOk ++ le 1 (regimeCode d.regime) ++ le 1 pend ++ le 1 0

def actCarRegimeSet (h : Hdr) (rsv : Bool) (regime : U8) (s : State) : State :=
  serve s h { op := 0x14, insts := 8, len := 4, lenOk := h.len == 4, mirrored := true
              checks := [(rsv || regime == 2 || (regime.toNat > 6 && regime != 0xFF) || !s.configured h.inst.toNat, stBadParam)] }
    (fun s =>
      let c := h.inst.toNat
      let s := s.modDcar c (fun d => { d with hostDemand := regimeOf regime.toNat })
      (s, regimeReply s c))

def execCarRegimeSet (h : Hdr) (rsv : Bool) (regime : U8) (s : State) : Host.Outcome State Fault Refusal :=
  hostRow s (.carRegimeSet h rsv regime) h 0x14 4 (actCarRegimeSet h rsv regime)

/-! ### Cars joining and leaving (R180, R181) -/

/-- Orderly removal of a car: status, committed stops kept, calls re-dispatched. -/
def removeCar (s : State) (c : Nat) : State × Nat :=
  redispatch (s.modDcar c (fun d => { d with inService := false })) c false

def keptStops (s : State) (c : Nat) : Nat := ((flagged s c).filter (·.2)).length

def actCarServiceRemove (h : Hdr) (rsv : Bool) (s : State) : State :=
  serve s h { op := 0x15, insts := 8, len := 4, lenOk := h.len == 4, mirrored := true
              checks := [(rsv || !s.configured h.inst.toNat, stBadParam)] }
    (fun s =>
      let (s', n) := removeCar s h.inst.toNat
      (s', le 1 stOk ++ le 1 (keptStops s' h.inst.toNat) ++ le 2 n))

def execCarServiceRemove (h : Hdr) (rsv : Bool) (s : State) : Host.Outcome State Fault Refusal :=
  hostRow s (.carServiceRemove h rsv) h 0x15 4 (actCarServiceRemove h rsv)

def actCarServiceAdd (h : Hdr) (rsv : Bool) (s : State) : State :=
  serve s h { op := 0x15, insts := 8, len := 4, lenOk := h.len == 4, mirrored := true
              checks := [(rsv || !s.configured h.inst.toNat, stBadParam)] }
    (fun s =>
      let c := h.inst.toNat
      let s := s.modDcar c (fun d =>
        { d with inService := true, faultOut := false, leaving := false, joining := true, removedAt := none, removing := [] })
      (s, le 1 stOk ++ le 1 (keptStops s c) ++ le 2 0))

def execCarServiceAdd (h : Hdr) (rsv : Bool) (s : State) : Host.Outcome State Fault Refusal :=
  hostRow s (.carServiceAdd h rsv) h 0x15 4 (actCarServiceAdd h rsv)

/-- The class B phase of the landing rings and the inter-pair ports (R169). (log entry 56: DEDUCED) -/
def State.dispatchPhase (s : State) : Nat :=
  let port := fun (use : Int) => (List.range 64).find? (fun p => s.com 0x8001 p == use && s.com 0x8002 p == 1)
  match port 1, port 3 with
  | some p, _ => (s.com 0x8006 p).toNat
  | none, some p => (s.com 0x8006 p).toNat
  | none, none => 0

/-- The boundary begins a dispatch cycle: waiting calls join the queue (R170), cars become candidates (R180). -/
def dispatchCycle (s : State) : State :=
  if s.epoch % 8 != s.dispatchPhase then s
  else
    let s := { s with disp := { s.disp with queue := s.disp.queue ++ s.disp.waiting, waiting := [] } }
    chooseAgain (forEach cars8 (fun s c =>
      if (s.dcar c).joining then s.modDcar c (fun d => { d with joining := false }) else s) s)

/-- A demand entry of the policy that begins to demand a priority call enters one for its car, with that car's fire landing as
origin (Table 17.17, R179); one that the call's rules refuse enters none. -/
def policyCalls (s : State) : State :=
  let es := s.demandEntries
  let on := (List.range es.length).filter (fun i => match es[i]? with
    | some e => 0x81 ≤ rd e 4 1 && entryDemands s e
    | none => false)
  let s' := forEach (on.filter (fun i => !s.disp.demandsOn.contains i)) (fun s i =>
    match es[i]?, (es[i]?).bind (fun e => s.localCar (rd e 6 1)) with
    | some e, some c => match fireLanding s c with
      | some n =>
        let k := newCall 3 (s.parN 0x5001 c) n 0xFF 0xFF 0 (2 * fireSide s c) (s.boardCar c) (rd e 4 1 - 0x80)
        if (namedRefusal s k).isSome then s else (enterCall s k).1
      | none => s
    | _, _ => s) s
  if on == s.disp.demandsOn then s else { s' with disp := { s'.disp with demandsOn := on } }

/-- The dispatching part of an epoch boundary: fault removals begin, calls change car. -/
def dispatchEpoch (s : State) : State :=
  let s := dispatchCycle (policyCalls s)
  let s := forEach cars8 (fun s c =>
    if (s.dcar c).leaving then
      (redispatch (s.modDcar c (fun d => { d with leaving := false })) c true).1
    else s) s
  budgetWatch (redispatchBound (moveCalls s))

/-! ### Budgets and group status -/

/-- A limit on the wire: no limit reads as all ones. -/
def limitWord (l : Option Nat) : Bytes := le 4 (match l with | some v => satN 32 v | none => 0xFFFFFFFF)

def budgetReply (s : State) (n : Nat) : Bytes :=
  let a := admitted s n
  le 1 stOk ++ le 1 (budgetSource s n) ++ le 2 ((carsOfDomain s n).filter (fun c => (s.hoist c).waiting)).length
    ++ limitWord (shares s n).1 ++ limitWord (shares s n).2 ++ le 4 (satN 32 a.1) ++ le 4 (satN 32 a.2)

def actPowerBudgetOverrideSet (h : Hdr) (rsv : Bool) (motorW regenW : U32) (s : State) : State :=
  serve s h { op := 0x16, insts := 4, len := 20, lenOk := h.len == 12, checks := [(rsv, stBadParam)], mirrored := true }
    (fun s =>
      let n := h.inst.toNat
      let s := budgetWatch (s.modDomain n (fun d => { d with hostBudget := some (motorW.toNat, regenW.toNat) }))
      (s, budgetReply s n))

def execPowerBudgetOverrideSet (h : Hdr) (rsv : Bool) (motorW regenW : U32) (s : State) :
    Host.Outcome State Fault Refusal :=
  hostRow s (.powerBudgetOverrideSet h rsv motorW regenW) h 0x16 20 (actPowerBudgetOverrideSet h rsv motorW regenW)

def actPowerBudgetOverrideRelease (h : Hdr) (rsv : Bool) (s : State) : State :=
  serve s h { op := 0x16, insts := 4, len := 20, lenOk := h.len == 12, checks := [(rsv, stBadParam)], mirrored := true }
    (fun s =>
      let n := h.inst.toNat
      let s := budgetWatch (s.modDomain n (fun d => { d with hostBudget := none }))
      (s, budgetReply s n))

def execPowerBudgetOverrideRelease (h : Hdr) (rsv : Bool) (motorW regenW : U32) (s : State) :
    Host.Outcome State Fault Refusal :=
  hostRow s (.powerBudgetOverrideRelease h rsv motorW regenW) h 0x16 20 (actPowerBudgetOverrideRelease h rsv)

/-- Board-set cars that the policy lists for a group. (log entry 56: DEDUCED) -/
def policyCars (s : State) (g : Nat) : List Nat :=
  let t := policyTable s.policy 2
  ((entriesOf t 4 68 (rd t 0 2)).filter (fun e => rd e 1 1 == g)).map (fun e => rd e 0 1)

/-- Cars of the group: this pair's by key, other pairs' by the policy image and their summaries (R182). -/
def groupCar (s : State) (g n : Nat) : Bool :=
  if n / 8 == s.pairNo then s.disp.joined && s.par 0x5001 (n % 8) == (g : Int)
  else (s.pairView (n / 8)).member.contains n && (policyCars s g).contains n

/-- The car is a candidate for group calls. (log entry 56: DEDUCED) -/
def candidateCar (s : State) (n : Nat) : Bool :=
  if n / 8 == s.pairNo then
    (s.dcar (n % 8)).regime == .normal && inGroupService s (n % 8)
  else (s.pairView (n / 8)).inReach && (s.pairView (n / 8)).summaries.any (fun m => m.car == n && m.regime == 0)

def groupReply (s : State) (g : Nat) : Bytes :=
  let mine := s.disp.calls.filter (fun k => k.group == g)
  le 1 stOk ++ le 1 (maskOf 4 (fun p => (List.range 8).any (fun i => groupCar s g (8 * p + i))))
    ++ le 1 (maskOf 4 (fun p => p == s.pairNo || (s.pairView p).inReach)) ++ le 1 (b2n (s.slack.shed ≥ 1))
    ++ le 4 (maskOf 32 (groupCar s g)) ++ le 4 (maskOf 32 (fun n => groupCar s g n && candidateCar s n))
    ++ le 2 (mine.filter (fun k => (k.state == 1 || k.state == 2) && (s.localCar k.car).isSome)).length
    ++ le 2 (mine.filter (fun k => k.state == 0)).length ++ le 4 s.disp.groupEpoch
    ++ le 4 (((s.disp.decisions.filter (fun d => s.frame < d.1 + 32000)).map (·.2)).foldl max 0) ++ le 4 s.disp.refineMoves

def actGroupStatus (h : Hdr) (rsv : Bool) (s : State) : State :=
  serve s h { op := 0x17, insts := 4, len := 28, lenOk := h.len == 0, checks := [(rsv, stBadParam)] }
    (fun s => (s, groupReply s h.inst.toNat))

def execGroupStatus (h : Hdr) (rsv : Bool) (s : State) : Host.Outcome State Fault Refusal :=
  hostRow s (.groupStatus h rsv) h 0x17 28 (actGroupStatus h rsv)

/-! ### Group epochs (R182, R184, R282) -/

/-- A lower-numbered pair is in reach. -/
def lowerPair (s : State) : Bool := (List.range 4).any (fun p => p < s.pairNo && (s.pairView p).inReach)

def execGroupEpochReceived (pair : Fin 4) (hd : IpHdr) (number : Nat) (s : State) : Host.Outcome State Fault Refusal :=
  onItem s pair hd 0 (fun s =>
    { s with disp := { s.disp with groupNext := some (number % 2 ^ 32)
                                   timekeeper := s.disp.timekeeper && decide (s.pairNo < pair) } })

/-- The draw that a car has admitted or waits for, with its standing draw. -/
def carDraw (s : State) (c : Nat) : Nat × Nat :=
  let h := s.hoist c
  let stand := if h.admitFlag || h.waiting || s.outOn (outOf c 0) then s.parN 0x5013 c else 0
  if h.admitFlag then (h.admMotor + stand, h.admRegen)
  else if h.waiting then ((drawOf s c).1 + stand, (drawOf s c).2)
  else (stand, 0)

/-- What a pair publishes of a car (R166). -/
def carSummary (s : State) (c : Nat) : CarSummary :=
  let d := carDraw s c
  { car := s.boardCar c, regime := regimeCode (s.dcar c).regime, load := s.carLoad c
    times := levelTimes s c (s.landings c), domain := s.parN 0x5002 c, motor := d.1, regen := d.2 }

/-- The cars of a domain in pair `p`, with their draws. -/
def pairCarDraws (s : State) (n p : Nat) : List (Nat × Nat) :=
  if p == s.pairNo then ((carsOfDomain s n).filter (fun c => s.par 0x5001 c != 0xFF)).map (carDraw s)
  else
    let v := s.pairView p
    (v.summaries.filter (fun m => v.member.contains m.car && m.domain == n)).map (fun m => (m.motor, m.regen))

/-- Parts of a whole in proportion to draws, each at least its floor: those below it get it, the others share the rest in
proportion. An entry is floor, draw, and whether it stands at its floor. -/
def shareOut : Nat → List (Rat × Rat × Bool) → List Rat
  | 0, l => l.map (·.1)
  | n + 1, l =>
    let left := l.foldl (fun (a : Rat) e => if e.2.2 then a - e.1 else a) 1
    let sum := l.foldl (fun (a : Rat) e => if e.2.2 then a else a + e.2.1) 0
    let part := fun (e : Rat × Rat × Bool) => if e.2.2 then e.1 else if sum == 0 then 0 else left * e.2.1 / sum
    if l.any (fun e => !e.2.2 && part e < e.1) then
      shareOut n (l.map (fun e => (e.1, e.2.1, e.2.2 || decide (part e < e.1))))
    else l.map part

/-- Where the part of the `i`-th of a list of parts begins and ends. -/
def partAt (l : List Rat) (i : Nat) : Rat × Rat :=
  let a := (l.take i).foldl (· + ·) 0
  (a, a + l.getD i 0)

/-- This pair's parts of a domain's limits (R184): in proportion to the draw that each pair has admitted and waiting, with
`pg_share_min_pct` of its cars' fraction as floor. Without any draw the parts follow the cars. -/
def ownParts (s : State) (n : Nat) : (Rat × Rat) × (Rat × Rat) :=
  let pairs := (List.range 4).map (pairCarDraws s n)
  let count := fun (l : List (Nat × Nat)) => ((l.length : Nat) : Int)
  let cars : Rat := (pairs.foldl (fun a l => a + count l) 0 : Int)
  let parts := fun (f : Nat × Nat → Nat) =>
    let draw := fun (l : List (Nat × Nat)) => (((l.map f).foldl (· + ·) 0 : Nat) : Int)
    let none_ := pairs.all (fun l => draw l == 0)
    partAt (shareOut 5 (pairs.map (fun l =>
      ((s.parN 0x5026 n : Int) * count l / 100 / cars, if none_ then (count l : Rat) else (draw l : Rat), false)))) s.pairNo
  (parts (·.1), parts (·.2))

/-- R184: a domain whose cars all lie in this pair is its own whole. -/
def setShares (s : State) : State :=
  forEach (List.range 4) (fun s n =>
    let alone := (List.range 4).all (fun p => p == s.pairNo || (pairCarDraws s n p).isEmpty)
    let part := if alone then none else some (ownParts s n)
    s.modDomain n (fun d => { d with share := part })) s

/-- A change of `car_group` is an orderly removal and an addition (R189). -/
def regroup (s : State) : State :=
  let moved := cars8.filter (fun c => s.com 0x5001 c != s.par 0x5001 c)
  let s := forEach moved (fun s c => (redispatch s c false).1) s
  s.latch' .groupEpoch none

def groupBoundary (s : State) : State :=
  let keeper := !lowerPair s
  let s := if keeper && !s.disp.timekeeper then
      event { s with disp := { s.disp with timekeeper := true } } 0x7160
    else { s with disp := { s.disp with timekeeper := keeper } }
  let n := s.disp.groupNext.getD s.disp.groupEpoch + b2n keeper
  let s := { s with disp := { s.disp with groupEpoch := n % 2 ^ 32, groupNext := none, joined := true } }
  -- a pair in reach has in the groups what it publishes; one out of reach does not leave them (R174, R182)
  let s := forEach (List.range 4) (fun s p =>
    s.modPairView p (fun v => { v with member := if v.inReach then v.heard else v.member, heard := [] })) s
  budgetWatch (setShares (regroup s))

def execGroupEpochBoundary (s : State) : Host.Outcome State Fault Refusal :=
  .next (if s.dispatches then groupBoundary s else s)

end Sys2Proof.Machine
end

