-- ==== Sys2Proof/Machine/Modes.lean ====
section
/-! DEFINITION. Power, pins, mode changes, PROVING and background proving (chapter 03, R414, R427, R429). -/

namespace Sys2Proof.Machine

/-! ### The start of PROVING and of DORMANT -/

/-- What survives a reset of a car's supervision: its trip with the causes (R244), its brake tests (R219).
(log entry 17: DESIGN CHOICE) -/
def keptSaf (k : CarSaf) : CarSaf :=
  { trip := k.trip, causes := k.causes, tripTime := k.tripTime, btPassA := k.btPassA, btPassB := k.btPassB, btNagged := k.btNagged }

/-- Assigned inputs stay held until their car's trip is reset (R198). -/
def keptHolds (s : State) : Tbl SafIn :=
  tmap (dft {}) (s.saf.inputs.filter (fun e => s.sf 0x6101 e.1 != 0xFF)) (fun q => { held := q.held })

/-- What survives in the recorder: the MRAM log with its reserved slot and limits, and the buffer.
(log entry 17: DESIGN CHOICE) -/
def keptRec (l : Rec) : Rec :=
  { log := l.log, buffer := l.buffer, ring := l.ring, ringLost := l.ringLost, gapNext := l.gapNext, jumpNext := l.jumpNext
    reserved := l.reserved, notKept := l.notKept
    firstNotKept := l.firstNotKept, nextSeq := l.nextSeq, lastFlush := l.lastFlush, pfailUs := l.pfailUs
    unwritten := l.unwritten, discarded := l.discarded, warned := l.warned, damagedSeqs := l.damagedSeqs
    rates := l.rates, lastMark := l.lastMark, lastClear := l.lastClear
    heldTrigger := l.flushDue || l.heldTrigger || l.flushing.isSome }

/-- What survives of the images and keys. (log entry 17: DESIGN CHOICE) -/
def keptImg (frame : Nat) (m : Img) : Img :=
  let aged := fun (c : Challenge) => { c with aged := c.aged + (frame - c.issuedAt), issuedAt := 0, issued := 0 }
  { slots := m.slots, floors := m.floors, keys := m.keys, keysLoaded := m.keysLoaded, tap := m.tap
    auth := aged m.auth, authCopy := aged m.authCopy, pairCopy := m.pairCopy }

/-- PROVING begins; banks that wait for it count as failed (R293, R48). (log entry 29: DEDUCED) -/
def pendingBanks (banks : List Nat) : Proving :=
  { running := true, banksBad := banks, noCapture := banks.length ≥ 3, blocked := banks.length ≥ 5 }

/-- The state in which unit 0x00 starts: MRAM is kept, everything volatile is as after reset, the staging copy equals the
committed set (R389), the straps are sampled (R427). (log entry 17: DESIGN CHOICE) -/
def provingFrom (s : State) : State :=
  { power := .on, mode := .proving
    pins := { s.pins with pos := s.pins.posNow, posChanged := false, wakeHeld := false, wakeWasLow := !s.pins.wake }
    latch := s.latch, opTime := s.opTime, opSaved := s.opSaved, powerCycle := s.powerCycle, entryRecs := s.entryRecs
    loops := { cap := s.loops.cap, loops := tmap (dft {}) s.loops.loops (fun k => { active := k.active, staged := k.active, stageSeq := k.active.seq }) }
    motion := { slots := s.motion.slots }
    saf := { set := s.saf.set, cars := tmap (dft {}) s.saf.cars keptSaf, inputs := keptHolds s }
    pair := { paired := s.pair.paired, pairTag := s.pair.pairTag, partnerUnit := s.pair.partnerUnit }
    proving := pendingBanks s.mem.pending
    mem := { journal := s.mem.journal, itemLost := s.mem.itemLost, secretsLost := s.mem.secretsLost }
    log := keptRec s.log
    params := { committed := s.params.committed, force := s.params.committed.vals, staged := s.params.committed
                learned := s.params.learned }
    img := keptImg s.frame s.img
    free := s.free, pending := s.pending }

/-- PROVING by a transition of a running device (MODE_REQUEST, lockout reset, base restart). -/
def startProving (s : State) (cause : Nat) : State :=
  let s := event s 0xA100 (le 1 (modeCode s.mode) ++ le 1 1 ++ le 1 cause)
  provingFrom (dropLoads s.allOff)

/-- The unit due next: the first that has not run. -/
def State.dueUnit (s : State) : Option Nat := (List.range 21).find? (fun u => (s.unit u).result == 3)

/-- Everything that stops when power or reset takes the device: gates, host port, session, secrets, capture data. An
MRAM test that is interrupted leaves its word in the journal (R44). -/
def halt (s : State) : State :=
  let s := clearSecrets (dropLoads s.allOff)
  let testing := s.mode == .proving && s.proving.running && s.dueUnit == some 0x0D
  { s with host := {}, transition := none, loops := { s.loops with cap := {} }
           mem := { s.mem with journal := s.mem.journal || testing }
           img := { s.img with verifying := none, enrolKey := none, baseRestart := none } }

/-- The power-fail flush of RST_N and DORMANT entry (R39, R40, R304); where no flush may run, what is buffered is lost.
(log entry 24: DEDUCED) -/
def lastFlushOf (s : State) : State :=
  if s.flushable then { s with log := { s.log with flushing := some s.log.buffer.length, flushPfail := false, flushAgain := false } }
  else { s with log := { s.log with unwritten := s.log.unwritten || !s.log.buffer.isEmpty, buffer := [], ring := [], flushing := none } }

/-- A loss of the supplies cuts a flush short: its header stays unwritten (R305). (log entry 24: DEDUCED) -/
def loseBuffer (s : State) : State :=
  { s with log := { s.log with unwritten := s.log.unwritten || !s.log.buffer.isEmpty, buffer := [], ring := [], flushing := none } }

/-- DORMANT entry (R39). -/
def enterDormant (s : State) (cause : Nat) : State :=
  let s := if s.mode == .shadow then ownFindings s else s
  let s := event s 0xA100 (le 1 (modeCode s.mode) ++ le 1 0 ++ le 1 cause)
  let s := lastFlushOf (halt s)
  { s with mode := .dormant, pins := { s.pins with wakeHeld := false, wakeWasLow := !s.pins.wake }
           img := { s.img with tap := 15 }
           pair := {} }

/-- Unit 0x00 starts once every condition of Table 03.2 holds. -/
def tryStart (s : State) : State :=
  if s.power == .startWait && s.pins.supplies && s.pins.vaon && s.pins.rstN then
    provingFrom { s with entryRecs := s.entryRecs ++ [(s.resetFrom.1, 1, s.resetFrom.2)] }
  else s

/-- Reset ends: the supplies are in range, RST_N is high and no flush is left; WAKE decides (R40, R414).
(log entry 25: DEDUCED) -/
def tryRelease (s : State) : State :=
  if s.power == .inReset && s.pins.supplies && s.pins.vaon && s.pins.rstN && s.log.flushing.isNone then
    if s.pins.wake then provingFrom { s with entryRecs := s.entryRecs ++ [(s.resetFrom.1, 1, s.resetFrom.2)] }
    else { s with power := .on, mode := .dormant, pins := { s.pins with wakeWasLow := true }
                  entryRecs := s.entryRecs ++ [(s.resetFrom.1, 0, s.resetFrom.2)] }
  else s

/-- VAON_ENTERS_RANGE. -/
def execVaonEntersRange (s : State) : Host.Outcome State Fault Refusal :=
  .next (if s.power == .off then
      { s with power := .wakeFilter, pins := { s.pins with vaon := true }, resetFrom := (0xFF, 0), entryRecs := [] }
    else s)

/-- WAKE_HIGH: WAKE has read high for 1 ms. -/
def execWakeHigh (s : State) : Host.Outcome State Fault Refusal :=
  let s' := { s with pins := { s.pins with wake := true, wakeHeld := false } }
  .next (if s.power == .wakeFilter then tryStart { s' with power := .startWait }
    else if s.power == .on && s.mode == .dormant && s.pins.wakeWasLow then
      tryStart { s' with power := .startWait, resetFrom := (0, 1) }
    else s')

/-- A hand-over in which this device takes part is in progress. -/
def State.handing (s : State) : Bool := s.pair.hand != 0 || s.pair.incoming || s.pair.yielding

/-- WAKE_LOW: WAKE has read low for 1 ms (R37, R431, R432). (log entry 6: PRESUMED) -/
def execWakeLow (s : State) : Host.Outcome State Fault Refusal :=
  let s' := { s with pins := { s.pins with wake := false } }
  let held := event { s' with pins := { s'.pins with wakeHeld := true } } 0xA105
  .next (match s.power with
    | .wakeFilter => { s' with power := .on, mode := .dormant, entryRecs := [(0xFF, 0, 0)]
                               pins := { s'.pins with wakeWasLow := true } }
    | .startWait => if s.mode == .dormant && s.resetFrom.2 == 1 then
        { s' with power := .on, pins := { s'.pins with wakeWasLow := true } } else s'
    | .on =>
      match s.mode with
      | .dormant => { s' with pins := { s'.pins with wakeWasLow := true } }
      | .proving => s'
      | .service => event s' 0xA105
      | .shadow => if s.handing then { s' with pins := { s'.pins with wakeHeld := true } } else enterDormant s' 1
      | .commission => if s.anyOutOn then held else enterDormant s' 1
      | .lockout => if s.anyOutOn then held else enterDormant s' 1
    | _ => s')

/-- HELD_WAKE_DEMAND_TAKEN (R432). (log entry 21: DEDUCED) -/
def execHeldWakeDemandTaken (s : State) : Host.Outcome State Fault Refusal :=
  .next (if s.power == .on && s.pins.wakeHeld && !s.pins.wake && !s.anyOutOn && !s.handing
      && (s.mode == .commission || s.mode == .lockout || s.mode == .shadow) then enterDormant s 1
    else s)

/-- MODE_TRANSITION_BEGIN (R437). -/
def execModeTransitionBegin (s : State) : Host.Outcome State Fault Refusal :=
  .next (match (if s.running then s.transition else none) with
    | none => s
    | some t => if t.target == .proving then startProving s 5 else enterDormant s 5)

/-- RST_N_LOW: 10 µs or longer (R40). Without effect in DORMANT and without power, where the level is only kept as a
condition of the next start. -/
def execRstNLow (s : State) : Host.Outcome State Fault Refusal :=
  .next (if s.running then
      { lastFlushOf (halt s) with power := .inReset, pins := { s.pins with rstN := false }
                                  resetFrom := (modeCode s.mode, 2) }
    else { s with pins := { s.pins with rstN := false } })

/-- RESET_RELEASE: RST_N is high. (log entry 25: DEDUCED) -/
def execResetRelease (s : State) : Host.Outcome State Fault Refusal :=
  .next (tryRelease (tryStart { s with pins := { s.pins with rstN := true } }))

/-- SUPPLY_LOSS: VAON, or another supply (R39, R305, R414). -/
def execSupplyLoss (vaon : Bool) (s : State) : Host.Outcome State Fault Refusal :=
  .next (if vaon then
      { loseBuffer (halt s) with power := .off, mode := .dormant, pins := { s.pins with vaon := false, wakeHeld := false } }
    else
      let s' := { s with pins := { s.pins with supplies := false } }
      if s.running then { loseBuffer (halt s') with power := .inReset, resetFrom := (modeCode s.mode, 3) }
      else if s.power == .off then s'
      else if s.power == .inReset then { loseBuffer s' with resetFrom := (s.resetFrom.1, 3) }
      else loseBuffer s')

/-- SUPPLIES_RESTORED: every supply has been in range for 1 ms. -/
def execSuppliesRestored (s : State) : Host.Outcome State Fault Refusal :=
  .next (tryRelease (tryStart { s with pins := { s.pins with supplies := true } }))

/-- BASE_IMAGE_RESTART (Table 17.4): the reply to a base activation has left. -/
def execBaseImageRestart (s : State) : Host.Outcome State Fault Refusal :=
  .next (if s.running && s.mode == .commission && s.img.baseRestart.isSome then startProving s 9 else s)

/-- POS_STRAP_CHANGE (R427). -/
def execPosStrapChange (pos : BitVec 3) (s : State) : Host.Outcome State Fault Refusal :=
  let s' := { s with pins := { s.pins with posNow := pos } }
  .next (if s.running && pos != s.pins.pos && !s.pins.posChanged then
      record { s' with pins := { s'.pins with posChanged := true } } { code := 0xA108, sev := 1 }
    else s')

/-- TEMPERATURE_EXCURSION: `tj` in 1/8 °C; once per excursion above 150 °C (R429). -/
def execTemperatureExcursion (tj : Int) (s : State) : Host.Outcome State Fault Refusal :=
  let hot := decide (1200 < tj)
  let s' := { s with proving := { s.proving with tj := tj, tjHigh := hot } }
  .next (if !s.running then s
    else if hot && !s.proving.tjHigh then record s' { code := 0xA109, sev := 1, payload := leI 2 tj } else s')

/-- OVERTEMPERATURE_LOCKOUT: above 155 °C for 1 s (R429). -/
def execOvertemperatureLockout (tj : Int) (s : State) : Host.Outcome State Fault Refusal :=
  .next (if s.running && decide (1240 < tj) then
      raise { s with proving := { s.proving with tj := tj } } { code := 0xA10A, sev := 4, payload := leI 2 tj }
    else s)

/-! ### Roles as croaked (Table 11.3) -/

/-- The role the device croaks; 0xFF in a mode without croaks and after a POS collision. -/
def State.ownRole (s : State) : Nat :=
  if s.pair.mute then 0xFF else
  match s.mode with
  | .lockout => 3
  | .commission => if s.passive then 7 else 2
  | .service => if s.pair.yieldSent then 4 else if s.pair.hand == 2 || (s.pair.hand == 1 && s.pair.h0 ≤ s.epoch) then 6 else 1
  | .shadow => if s.pair.yieldSent then 4 else if s.pair.claiming then 5 else if s.pair.awaiting then 7 else 0
  | _ => 0xFF

/-- Table 03.10. (log entry 29: DEDUCED) -/
def degradedSummary (p : Proving) : Nat :=
  satN 8 p.chansLost.length * 2 ^ 24 + satN 8 p.portsLost.length * 2 ^ 16 + b2n p.noCapture * 256
    + min 15 p.banksBad.length * 16 + p.lanesLost

/-- The croak `health` field (Table 11.2, bits 24 to 21). -/
def State.healthBits (s : State) : Nat :=
  8 * b2n (degradedSummary s.proving != 0) + 4 * b2n s.fm.roleL + 2 * b2n (s.slack.shed != 0) + b2n s.proving.bgOverdue

/-! ### Settling the role at the end of PROVING (R263) -/

/-- The lower `health` is preferred, POS[0] = 0 on a tie. (log entry 27: DEDUCED) -/
def preferred (s : State) : Bool :=
  s.healthBits < s.partner.health || (s.healthBits == s.partner.health && s.pins.pos.toNat % 2 == 0)

/-- Croaks claim for `n` periods before SERVICE. (log entry 27: DEDUCED) -/
def claim (s : State) (n : Nat) : State := { s with pair := { s.pair with claiming := true, claimLeft := n, settleWait := false } }

/-- What a device that has just entered SHADOW does about its partner. (log entries 26: DEDUCED, 27: DEDUCED) -/
def settle (s : State) : State :=
  let p := s.partner
  let paired := s.pair.paired && s.pair.pairTag != 0 && s.pair.pairTag == p.pairTag
  if s.com 0x7001 0 == 0 then claim s 1
  else if p.heard then
    match p.role with
    | 1 | 2 | 6 =>
      if paired then event { s with pair := { s.pair with resyncing := true } } 0x7114
      else event { s with pair := { s.pair with awaiting := true } } 0x7152
    | 0 => if preferred s then claim s 2 else event s 0x7114
    | 3 => claim s 1
    | _ => { s with pair := { s.pair with settleWait := true } }
  else { s with pair := { s.pair with settleWait := true } }

/-! ### PROVING units (R44 to R48, Table 03.6) -/

/-- Power group and coverage of each unit; start-up units are group 8, functional ones 0xFFFF. -/
def unitInfo : List (Nat × Nat) :=
  [(0, 0xFFFF), (0, 0xFFFF), (1, 9860), (1, 9890), (2, 9830), (2, 9830), (2, 9830), (2, 9830), (3, 9850), (3, 9820), (4, 9810),
   (4, 9840), (5, 10000), (6, 10000), (7, 9910), (7, 0xFFFF), (7, 0xFFFF), (7, 0xFFFF), (8, 0xFFFF), (8, 0xFFFF), (8, 0xFFFF)]

/-- A safety input a car uses; 96 is the island cross-test logic. -/
def inputAssigned (s : State) (x : Nat) : Bool := x ≥ 96 || (s.saf.set.isSome && s.sf 0x6101 x != 0xFF)

/-- Section evaluations per second that the committed loops need. -/
def loopDemand (s : State) : Nat := totalRate s.com

/-- A class L failure of unit `u` with failing elements `bad`: blocking, degraded, and what becomes unusable.
(log entries 6: PRESUMED, 30: DEDUCED) -/
def unitFailed (s : State) (u : Nat) (bad : List Nat) : Bool × Bool × Proving :=
  let p := s.proving
  if 4 ≤ u && u ≤ 7 then
    let p := { p with lanesLost := if bitAt p.lanesLost (u - 4) then p.lanesLost else p.lanesLost + 2 ^ (u - 4) }
    let n := ((List.range 4).filter (bitAt p.lanesLost)).length
    let short := decide (30000000 < loopDemand s)
    (n ≥ 2 || short, n < 2 && !short, p)
  else if u == 0x09 then
    let ports := bad.filter (· < 64)
    let b := bad.any (· ≥ 64) || bad.isEmpty
    (b, !b, { p with portsLost := p.portsLost ++ ports.filter (fun x => !p.portsLost.contains x) })
  else if u == 0x0C then
    let banks := (if bad.isEmpty then [0xFFFF] else bad).foldl (fun l b => if l.contains b then l else l ++ [b]) p.banksBad
    let n := banks.length
    (n ≥ 5, n ≥ 3 && n < 5, { p with banksBad := banks, noCapture := n ≥ 3 })
  else if u == 0x0F then
    let b := bad.any (chanAssigned s) || bad.isEmpty
    (b, !b, { p with chansLost := p.chansLost ++ bad.filter (fun x => !chanAssigned s x && !p.chansLost.contains x) })
  else if u == 0x11 then
    let b := bad.any (inputAssigned s) || bad.isEmpty
    (b, !b, { p with inputsLost := p.inputsLost ++ bad.filter (fun x => !inputAssigned s x && !p.inputsLost.contains x) })
  else if u == 0x13 then (bad.contains 0 || bad.isEmpty, false, p)
  else (true, false, p)

/-- The `detail` of an entry: the first failing element (R435). -/
def unitDetail (u : Nat) (bad : List Nat) : Nat :=
  if 4 ≤ u && u ≤ 7 then u - 4
  else if [0x09, 0x0C, 0x0F, 0x10, 0x11, 0x13].contains u then
    (match bad with | [] => 0xFFFF | x :: xs => xs.foldl min x)
  else 0xFFFF

/-- Unit 0x01: the secrets are cleared, the word in the journal is restored, operating time and power-cycle count go on, a
log left unwritten is reported (R44, R302, R305). -/
def unitRestore (s : State) : State :=
  let s := clearSecrets { s with mem := { s.mem with journal := false } }
  let s := { s with opTime := min (2 ^ 40 - 1) (max s.opTime (s.opSaved + 16)), powerCycle := (s.powerCycle + 1) % 2 ^ 24
                    proving := { s.proving with powerCycle := (s.powerCycle + 1) % 2 ^ 24 } }
  if s.log.unwritten then
    record { s with log := { s.log with unwritten := false, gapNext := true } } { code := 0x9122, sev := 1 }
  else s

/-- Unit 0x13 (R396): selected slots come into force, a failed base slot falls back to the other one, a failed policy or
safety-set slot becomes invalid. Answers whether a base runs. -/
def unitImages (s : State) (bad : List Nat) : State × Bool :=
  let s := forEach [1, 2, 3] (fun s t =>
    match (List.range 2).find? (fun n => (s.imgSlot (slotKey t n)).state == 5) with
    | some n => activateSlot s t n
    | none => s) s
  let spoil := fun (s : State) (t : Nat) =>
    match s.activeSlot t with
    | some n => s.modImgSlot (slotKey t n) (fun x => { x with state := 2 })
    | none => s
  let (s, base) :=
    if !bad.contains 0 then (s, true)
    else
      let other := match s.activeSlot 1 with | some 0 => 1 | _ => 0
      let s := spoil s 1
      if verifyImage s 1 (s.imgSlot (slotKey 1 other)).data == 0 then
        (record (activateSlot s 1 other) { code := 0xB104, sev := 1, payload := le 1 1 ++ le 1 other }, true)
      else (s, false)
  let s := if bad.contains 1 then spoil s 2 else s
  let s := if bad.contains 2 then spoil s 3 else s
  let s := match s.activeSlot 3 with
    | some n => if s.setDigest.isSome && s.setDigest != some (s.imgSlot (slotKey 3 n)).digest then
        record s { code := 0xB140, sev := 1 } else s
    | none => s
  (s, base)

/-- The set is complete: some set is confirmed and no car of it is provisional (R210). -/
def State.setState (s : State) : Nat :=
  match s.saf.set with
  | none => 0
  | some _ => if cars8.any s.provisionalCar then 1 else 2

/-- PROVING ends (R38, R48, Table 03.2). (log entry 26: DEDUCED) -/
def endProving (s : State) : State :=
  let p := s.proving
  let blocked := p.blocked || !p.baseOk || s.mem.itemLost
  let degraded := (List.range 21).any (fun u => bitAt (s.unit u).flags 1)
  let close := fun (next : Nat) => { s with proving := { p with
    running := false, outcome := if blocked then 2 else if degraded then 1 else 0, nextMode := next } }
  if s.latch.isSet || blocked then
    let s := close 5
    let s := if s.latch.isSet then s else { s with latch := { isSet := true, cause := if s.mem.itemLost then 0xA314 else 0xA103, time := s.opTime } }
    changeMode { s with fm := { s.fm with devReaction := some 4 } } .lockout 4 s.latch.cause
  else if (s.activeSlot 2).isNone || s.setState != 2 || s.com 0xA001 0 == 1 then
    enterMode (close 2) .commission 4 0
  else settle (enterMode (close 4) .shadow 4 0)

/-- The records of the mode changes that led to PROVING, admitted from unit 0x01 on (R433, R436).
(log entry 23: DEDUCED) -/
def recordEntries (s : State) : State :=
  let s' := forEach s.entryRecs (fun s e => event s 0xA100 (le 1 e.1 ++ le 1 e.2.1 ++ le 1 e.2.2)) s
  { s' with entryRecs := [] }

/-- One unit ends with `r` (0 pass, 1 pass on the rerun, 2 failed twice). -/
def unitDone (s : State) (u r : Nat) (bad : List Nat) (durUs : Nat) : State :=
  let s := if u == 0x01 then unitRestore s else s
  let (s, base) := if u == 0x13 then unitImages s (if r == 2 then bad else []) else (s, true)
  let (blocking, degraded, p) := unitFailed s u bad
  let blocking := if u == 0x13 && !bad.isEmpty then !base else blocking
  let s := if r == 2 then { s with proving := { p with blocked := p.blocked || blocking } } else s
  let s := { s with proving := { s.proving with baseOk := s.proving.baseOk && base, totalUs := s.proving.totalUs + durUs } }
  let s := s.modUnit u (fun _ =>
    { result := r, durUs := durUs, detail := if r == 2 then unitDetail u bad else 0xFFFF
      flags := if r == 2 then b2n blocking + 2 * b2n degraded else 0 })
  let s := if u == 0x00 then recordEntries s else s
  let s := if r == 2 then record s { code := 0xA103, sev := 1, cls := 2, inst := u }
    else if r == 1 then record s { code := 0xA104, sev := 0, cls := 1, inst := u } else s
  let s := if s.proving.noCapture then { s with loops := { s.loops with cap := {} } } else s
  let s := if u == 0x12 && r < 2 then reloadSecrets s else s
  if u == 0x14 && r < 2 then reallocate { s with params := { s.params with force := s.params.committed.vals } } else s

/-- PROVING_UNIT_COMPLETE. WAKE low abandons PROVING at the end of the unit (Table 03.2, R434). -/
def execProvingUnitComplete (unit : Fin 21) (result : Fin 3) (details : List Nat) (durUs : Nat) (s : State) :
    Host.Outcome State Fault Refusal :=
  .next (if !(s.running && s.mode == .proving && s.proving.running && s.dueUnit == some (unit : Nat)) then s
    else
      let s := unitDone s unit result details durUs
      if !s.pins.wake then
        enterDormant { s with proving := cutShort s.proving 0 } 1
      else if s.dueUnit.isNone then endProving s else s)

/-! ### PROVING_REPORT (Tables 03.8 to 03.11) -/

def unitEntry (s : State) (u : Nat) : Bytes :=
  let e := s.unit u
  let i := (unitInfo[u]?).getD (8, 0xFFFF)
  le 1 u ++ le 1 i.1 ++ le 1 e.result ++ le 1 e.flags ++ le 2 i.2 ++ le 2 e.detail ++ le 4 e.durUs

def provingReply (s : State) : Bytes :=
  let p := s.proving
  le 1 stOk ++ le 1 p.outcome ++ le 1 21 ++ le 1 p.nextMode ++ le 4 p.totalUs ++ le 4 s.proving.powerCycle
    ++ le 4 (degradedSummary p) ++ ((List.range 21).map (unitEntry s)).flatten

/-- The 64 bytes of a health record (Table 03.11). -/
def healthBytes (r : Health) : Bytes :=
  let b := le 4 r.seq ++ le 5 r.opTime ++ le 1 r.mode ++ le 1 r.shed ++ le 1 r.maxSev ++ le 2 r.unitsDone ++ le 2 16
    ++ le 4 r.cycleElapsed ++ le 4 r.lastCycle ++ le 4 r.degraded ++ le 2 r.countT ++ le 2 r.countL ++ le 2 r.failingUnit
    ++ le 2 r.divergence ++ le 2 r.epochsMissed ++ le 2 r.minSlack ++ le 2 r.tbPeak ++ leI 2 r.tj ++ le 2 r.vcore ++ zeros 14
  b ++ le 4 (crc32c b).toNat

def reportLen (which : Nat) : Nat := if which == 0 then 268 else 68

def actProvingReport (h : Hdr) (rsv : Bool) (which : U8) (s : State) : State :=
  let len := reportLen which.toNat
  serve s h { op := 0x09, insts := 1, len := len, lenOk := h.len == 1, checks := [(rsv || which.toNat > 2, stBadParam)] }
    (fun s =>
      (s, if which == 0 then provingReply s
        else if which == 1 then refusal 4 stOk ++ healthBytes s.proving.ownHealth
        else match s.pair.partnerHealth with
          | some r => refusal 4 stOk ++ healthBytes r
          | none => refusal 68 stNotActive))

def execProvingReport (h : Hdr) (rsv : Bool) (which : U8) (s : State) : Host.Outcome State Fault Refusal :=
  hostRow s (.provingReport h rsv which) h 0x09 (reportLen which.toNat) (actProvingReport h rsv which)

/-! ### PING -/

def actPing (h : Hdr) (rsv : Bool) (s : State) : State :=
  serve s h { op := 0x00, insts := 1, len := 4, lenOk := h.len == 0, checks := [(rsv, stBadParam)] }
    (fun s => (s, le 1 stOk ++ le 1 (modeCode s.mode) ++ le 1 s.ownRole ++ le 1 s.pins.pos.toNat))

def execPing (h : Hdr) (rsv : Bool) (s : State) : Host.Outcome State Fault Refusal :=
  hostRow s (.ping h rsv) h 0x00 4 (actPing h rsv)

/-! ### Background proving (R49 to R51) -/

/-- The unit whose turn it is in the rotation through 0x02 to 0x11 (R49). -/
def State.bgDue (s : State) : Nat := 2 + s.proving.bgDone

/-- BG_SLICE_START: a slice of the unit whose turn it is, in SHADOW; paused under shed tier 2. -/
def execBgSliceStart (unit : Fin 21) (s : State) : Host.Outcome State Fault Refusal :=
  .next (if s.running && s.mode == .shadow && s.slack.shed < 2 && s.proving.bgUnit.isNone && (unit : Nat) == s.bgDue
      && (unit : Nat) ≤ 17 then
      { s with proving := { s.proving with bgUnit := some unit } }
    else s)

/-- A cycle completes: event 0xA10B with its duration; `bg_period` acts from the next one. -/
def endCycle (s : State) : State :=
  let d := s.opTime - s.proving.bgCycleStart
  let s := event s 0xA10B (le 4 d)
  { s.latch' .nextBg none with proving := { s.proving with
      bgDone := 0, bgLast := d, bgCycleStart := s.opTime, bgOverdue := false } }

/-- A class L failure in the background: blocking ones take the device to LOCKOUT, a lost lane trips its cars (R297).
(log entry 6: PRESUMED) -/
def bgFailed (s : State) (u detail : Nat) : State :=
  let (blocking, _, p) := unitFailed s u (if detail == 0xFFFF then [] else [detail])
  let newLane := 4 ≤ u && u ≤ 7 && !bitAt s.proving.lanesLost (u - 4)
  let s := { s with proving := { p with failingUnit := u } }
  let s := if newLane then loseLane s (u - 4) 0xA106 else s
  raise s { code := 0xA106, sev := if blocking then 4 else 1, cls := 2, inst := u, payload := le 2 detail }

/-- BG_SLICE_COMPLETE: `done` completes the unit. -/
def execBgSliceComplete (unit : Fin 21) (done : Bool) (result : Fin 3) (detail : Nat) (s : State) :
    Host.Outcome State Fault Refusal :=
  .next (if !(s.running && s.mode == .shadow && s.proving.bgUnit == some (unit : Nat)) then s
    else
      let s := abandonSlice s
      let s := if result == 1 then record s { code := 0xA104, sev := 0, cls := 1, inst := unit }
        else if result == 2 then bgFailed s unit detail else s
      if !done then s
      else
        let s := { s with proving := { s.proving with bgDone := s.proving.bgDone + 1 } }
        if s.proving.bgDone ≥ 16 then endCycle s else s)

/-- BG_CYCLE_OVERDUE: the cycle exceeds `bg_period` (hours of 57,600 sixteenths of a second). (log entry 6: PRESUMED) -/
def execBgCycleOverdue (s : State) : Host.Outcome State Fault Refusal :=
  .next (if s.running && s.mode == .shadow && !s.proving.bgOverdue
      && decide (s.proving.bgCycleStart + s.parN 0xA002 0 * 57600 < s.opTime) then
      record { s with proving := { s.proving with bgOverdue := true } } { code := 0xA107, sev := 1 }
    else s)

/-- The health record as it stands. -/
def healthNow (s : State) (tj : Int) (vcore : Nat) : Health :=
  let p := s.proving
  let shadow := s.mode == .shadow
  { seq := p.healthSeq, opTime := s.opTime, mode := modeCode s.mode, shed := s.slack.shed, maxSev := p.shadowMaxSev
    unitsDone := p.bgDone, cycleElapsed := if shadow then s.opTime - p.bgCycleStart else 0, lastCycle := p.bgLast
    degraded := degradedSummary p, countT := p.countT, countL := p.countL, failingUnit := p.failingUnit
    divergence := p.divergence, epochsMissed := p.epochsMissed, minSlack := (s.slack.secondPrev.orElse (fun _ => s.slack.secondMin)).getD 10000
    tbPeak := s.slack.timebasePeak, tj := tj, vcore := vcore }

/-- HEALTH_PUBLISH. -/
def execHealthPublish (tj : Int) (vcore : Nat) (s : State) : Host.Outcome State Fault Refusal :=
  .next (if s.working then
      { s with proving := { s.proving with
          ownHealth := healthNow s tj vcore, healthSeq := (s.proving.healthSeq + 1) % 2 ^ 32, tj := tj, vcore := vcore } }
    else s)

/-! ### MODE_REQUEST (R41, R42, R437, Tables 03.4, 03.5) -/

/-- Every force ends (R356). -/
def releaseForces (s : State) : State :=
  { s with links := { s.links with points := tmap (dft {}) s.links.points (fun p => { p with forced := none }) } }

/-- A car has a completed learning run: its results are committed, which its standstill lets happen (R125). A landing position
other than unset enters the committed set in no other way (R430). -/
def State.learnedCar (s : State) (c : Nat) : Bool :=
  (List.range 256).any (fun n => s.com (0x3300 + n) c != unset)

/-- A learning run or brake test is in progress. -/
def State.anyTest (s : State) : Bool := cars8.any (fun c => (s.hoist c).learn.state == 1 || (s.hoist c).bt.state == 1)

/-- What a request leads to. -/
inductive ModeStep where
  | refuse (st reason : Nat)
  | now (m : Mode)
  | later
  | lock
  deriving DecidableEq, Repr

/-- R41. (log entry 22: DEDUCED) -/
def toCommission (s : State) : ModeStep :=
  if s.handing then .refuse stWrongMode 6
  else if !cars8.all (fun c => !s.configured c || (s.dcar c).regime == .outOfService) then .refuse stWrongMode 3
  else if !cars8.all s.standstill then .refuse stWrongMode 1
  else if s.anyOutOn then .refuse stWrongMode 2
  else .now .commission

/-- R42. (log entry 22: DEDUCED) -/
def toService (s : State) : ModeStep :=
  let cars := cars8.filter s.configured
  if !cars.all (fun c => s.safEnabled c && !s.provisionalCar c) then .refuse stWrongMode 4
  else if !cars.all s.learnedCar then .refuse stWrongMode 5
  else if s.anyTest then .refuse stWrongMode 8
  else if !cars8.all s.standstill then .refuse stWrongMode 1
  else if s.partnerRole == 1 || s.passive then .refuse stWrongMode 7
  else .now .service

/-- Table 03.2 for a request. -/
def modeStep (s : State) (target : Nat) : ModeStep :=
  if target == 5 then .lock
  else if s.transition.isSome then .refuse stBusy 0
  else
    match s.mode, target with
    | .service, 2 => toCommission s
    | .shadow, 2 => if s.handing then .refuse stWrongMode 6 else .now .commission
    | .commission, 3 => toService s
    | .commission, 4 => if s.partnerRole == 1 then .now .shadow else .refuse stWrongMode 9
    | .commission, 1 | .commission, 0 | .lockout, 0 => if s.anyOutOn then .refuse stWrongMode 2 else .later
    | .shadow, 0 => if s.handing then .refuse stWrongMode 6 else .later
    | _, _ => .refuse stWrongMode 9

def modeReply (s : State) (st target reason : Nat) : Bytes :=
  le 1 st ++ le 1 (modeCode s.mode) ++ le 1 target ++ le 1 reason

/-- A mode entered at once. Leaving COMMISSION ends every force; SHADOW settles on the active partner. -/
def modeNow (s : State) (m : Mode) : State :=
  let s := if s.mode == .commission then releaseForces s else s
  let wasShadow := s.mode == .shadow
  let s := enterMode s m 5 0
  -- a pair that stops dispatching publishes summaries again from the next group epoch boundary of its service on (R182)
  let s := if m == .commission then { s with disp := { s.disp with joined := false } } else s
  let s := if wasShadow then
      let s := abandonSlice s
      { s with pair := { s.pair with
          inStep := false, resyncing := false, awaiting := false, claiming := false, settleWait := false } }
    else s
  if m == .shadow then settle s else s

/-- The request's conditions and effect. (log entry 22: DEDUCED) -/
def requestMode (s : State) (h : Hdr) (target : Nat) : State × Bytes :=
  match modeStep s target with
  | .refuse st r => (s, modeReply s st (modeCode s.mode) r)
  | .now m => let s := modeNow s m; (s, modeReply s stOk target 0)
  | .later =>
    let m := if target == 1 then Mode.proving else Mode.dormant
    ({ s with transition := some { target := m, chan := h.chan, seq := h.seq } }, modeReply s stPending target 0)
  | .lock =>
    let s := lockoutBy s 0 5 false
    let s := if s.mode == .lockout then s else { s with pair := { s.pair with yieldHdr := some (h.chan, h.seq) } }
    (s, modeReply s (if s.mode == .lockout then stOk else stPending) target 0)

/-- A token is required for COMMISSION from SERVICE or SHADOW, and zero for every other target. -/
def modeToken (s : State) (target : Nat) : Bool := target == 2 && (s.mode == .service || s.mode == .shadow)

def actModeRequest (h : Hdr) (rsv : Bool) (target : U8) (token : Bytes) (s : State) : State :=
  let t := target.toNat
  let need := modeToken s t
  match gate s h { op := 0x02, insts := 1, len := 4, lenOk := h.len == 36
                   checks := [(rsv || t > 5 || (!need && !zeroToken token), stBadParam), (need && zeroToken token, stAuthRequired)] } with
  | some p => answer s h 0x02 false (if h.flags != 0 then p else modeReply s (statusOf p) (modeCode s.mode) 0)
  | none =>
    if need then
      match useToken s [0x02] token with
      | (s, true) => let (s, p) := requestMode s h t; answer s h 0x02 false p
      | (s, false) => answer s h 0x02 false (modeReply s stAuthFailed (modeCode s.mode) 0)
    else let (s, p) := requestMode s h t; answer s h 0x02 false p

def execModeRequest (h : Hdr) (rsv : Bool) (target : U8) (token : Bytes) (s : State) :
    Host.Outcome State Fault Refusal :=
  if Instr.wellFormed (.modeRequest h rsv target token) then
    hostRow s (.modeRequest h rsv target token) h 0x02 4 (actModeRequest h rsv target token)
  else .fault .illFormed

/-- DORMANT_ORDER_RECEIVED (R279): as if by MODE_REQUEST, with no reply to wait for. -/
def execDormantOrderReceived (s : State) : Host.Outcome State Fault Refusal :=
  .next (if s.running && (s.mode == .shadow || s.mode == .lockout) && !s.anyOutOn then enterDormant s 5 else s)

end Sys2Proof.Machine
end

