-- ==== Sys2Proof/Machine/Health.lean ====
section
/-! DEFINITION. HEALTH_READ (Table 12.6). -/

namespace Sys2Proof.Machine

/-! ### HEALTH_READ -/

/-- Table 12.6. -/
def healthReply (s : State) : Bytes :=
  let f := s.fm
  let m := s.mem
  le 1 stOk ++ le 1 f.maxSev ++ le 1 f.nestMax ++ le 1 (f.devReaction.getD 0xFF)
    ++ (cars8.map (fun c => le 1 ((s.carReaction c).getD 0xFF))).flatten ++ le 4 (degradedSummary s.proving)
    ++ ((List.range 11).map (fun n => le 2 (tget (dft 0) f.countT n))).flatten ++ le 2 0
    ++ ((List.range 11).map (fun n => le 2 (tget (dft 0) f.countL n))).flatten ++ le 2 0
    ++ le 4 m.sramCorrT ++ le 4 m.sramCorrL ++ le 4 m.sramUncT ++ le 4 m.sramUncL
    ++ le 4 m.mramCorrT ++ le 4 m.mramCorrL ++ le 4 m.mramUncT ++ le 4 m.mramUncL
    ++ le 2 m.scrubLast ++ le 2 m.scrubMax ++ le 1 m.spared ++ le 1 m.pending.length ++ le 2 0
    ++ le 2 f.lastCode ++ le 1 f.lastSev ++ le 1 0 ++ le 5 f.lastTime ++ zeros 3

def actHealthRead (h : Hdr) (rsv : Bool) (s : State) : State :=
  serve s h { op := 0x03, insts := 1, len := 116, lenOk := h.len == 0, checks := [(rsv, stBadParam)] }
    (fun s => (s, healthReply s))

def execHealthRead (h : Hdr) (rsv : Bool) (s : State) : Host.Outcome State Fault Refusal :=
  hostRow s (.healthRead h rsv) h 0x03 116 (actHealthRead h rsv)

end Sys2Proof.Machine
end

