-- ==== Sys2Proof/Machine/Outputs.lean ====
section
/-! DEFINITION. The safety outputs (R230 to R243): gates, readback, dark tests, vetoes, `OUTPUT_TEST_REPORT`. What
the islands permit is decided in Supervise.lean. -/

namespace Sys2Proof.Machine

/-! ### Gates and readback (R231 to R235) -/

/-- The closed path of Table 10.2, and both legs open. -/
def closedPath (x : Out) : Bool := x.hsfb && !x.lsfb
def legsOpen (x : Out) : Bool := !x.hsfb && x.lsfb

/-- The load may carry current through this device or its partner. -/
def State.energised (s : State) (o : Nat) : Bool := s.outOn o || (s.out o).partnerOn

/-- The outputs of the car that output `o` belongs to. -/
def siblings (o : Nat) : List Nat := (List.range 4).map (outOf (o / 4))

/-- A dark test is pulsing or settling on an output of the car. -/
def State.carTesting (s : State) (o : Nat) : Bool := (siblings o).any (fun k => (s.out k).test.isSome)

/-- Each island's reading of the sense pins. -/
def sense (x : Out) (hsfb lsfb ld : Bool) : Out := { x with hsfb := hsfb, lsfb := lsfb, ld := ld }

/-- The gates follow the demand that both islands permit. A demand to energise waits for a test on the same car
(Table 10.3). -/
def driveOut (s : State) (o : Nat) (demand : Bool) : State :=
  let x := s.out o
  if !demand then if x.want || x.hs || x.ls || x.waitPulse then s.outOff o else s
  else if !x.want then
    if s.carTesting o then s.modOut o (fun x => { x with waitPulse := true })
    else s.modOut o (fun x =>
      { x with want := true, waitPulse := false, wantFrame := s.frame, hs := true, ls := true, confirmed := false
               vetoed := false })
  else
    match x.test with
    | some _ => s
    | none => s.modOut o (fun x => { x with hs := true, ls := true })

/-- R234: the energised report. -/
def confirmOut (x : Out) : Out :=
  if x.want && !x.confirmed && closedPath x && x.ld then { x with confirmed := true } else x

/-- The car's outputs go off and its motion ends; it may start again (R200, R218, R234). -/
def State.dropCar (s : State) (c : Nat) : State := applyStop (s.carOff c) c 3

/-- R235: stuck after two cycles in which an output expected off reads anything but both legs open. -/
def stuckCheck (s : State) (o : Nat) : State :=
  let x := s.out o
  if s.energised o || x.want then s.modOut o (fun x => { x with stuckRun := 0 })
  else if legsOpen x then s.modOut o (fun x => { x with stuckRun := 0, stuck := false })
  else if s.frame < max x.offFrame x.partnerOff + 8 then s
  else
    let run := min 2 (x.stuckRun + 1)
    let s := s.modOut o (fun x => { x with stuckRun := run, stuck := x.stuck || run == 2 })
    if run == 2 then tripFor s (o / 4) 0x6222 o 2 else s

/-- OUTPUT_CONFIRM_TIMEOUT: `so_confirm_ms` without the energised report. -/
def execOutputConfirmTimeout (out : Fin 32) (s : State) : Host.Outcome State Fault Refusal :=
  let x := s.out out
  .next (if s.working && x.want && !x.confirmed then
    raise (s.dropCar (out / 4)) { code := 0x6223, sev := 2, inst := out, car := some (out / 4 : Nat) } else s)

/-! ### Dark tests (R236 to R239) -/

/-- The device tests: it drives its outputs and no hand-over or tail-drop is requested. -/
def State.testsAllowed (s : State) : Bool := s.pair.hand == 0 && !s.pair.yielding && !s.pair.yieldSent

/-- A test of output `o` and `side` may start now (R236, R239). -/
def mayTest (s : State) (o side : Nat) : Bool :=
  let x := s.out o
  s.testsAllowed && x.want && x.hs && x.ls && decide (x.wantFrame + msFrames 500 ≤ s.frame) && !s.carTesting o
    && !(side == 0 && s.slack.abandonedA)

/-- This frame's safety-cycle mark is a slot of the output and side (R236). -/
def slotDue (s : State) (o side : Nat) : Bool :=
  let p : Int := 4 * s.par 0xA040 (o / 4)
  let n : Int := ((s.frame / 8 : Nat) : Int) - 8 * (o : Int)
  s.frame % 8 == 0 && decide ((if side == 0 then n else n - p / 2) % p = 0)

/-- The test starts: its gate stops. -/
def startTestOf (s : State) (o side : Nat) (again : Bool) : State :=
  s.modOut o (fun x =>
    { x with hs := x.hs && side != 0, ls := x.ls && side == 0
             test := some { side := side, isRepeat := again, judged := none, pulsing := true, start := s.frame }
             repeatSide := if again then none else x.repeatSide })

/-- DARK_TEST_START: a slot of the schedule. -/
def execDarkTestStart (out : Fin 32) (side : Fin 2) (s : State) : Host.Outcome State Fault Refusal :=
  let x := s.out out
  .next (if s.power == .on && s.incharge && x.want && slotDue s out side then
    if mayTest s out side then startTestOf s out side false
    else s.modOut out (fun x => { x with skipped := satN 16 (x.skipped + 1) })
    else s)

/-- DARK_TEST_REPEAT. -/
def execDarkTestRepeat (out : Fin 32) (s : State) : Host.Outcome State Fault Refusal :=
  .next (match (s.out out).repeatSide with
    | some (side, from_) =>
      if s.power == .on && s.incharge && s.frame % 8 == 0 && decide (from_ ≤ s.frame) && mayTest s out side then
        startTestOf s out side true
      else s
    | none => s)

/-- The verdict on a test (R237, R238). -/
def judgeTest (s : State) (o : Nat) (t : DarkTest) (opened : Bool) : State :=
  let s := s.modOut o (fun x =>
    { x with
      test := some { t with judged := some opened }
      lastSide := t.side
      lastResult := if opened then (if t.isRepeat then 2 else 1) else 3
      lastTest := some s.frame
      passed := if opened then satN 32 (x.passed + 1) else x.passed
      failT := if opened && t.isRepeat then satN 16 (x.failT + 1) else x.failT
      failL := if !opened && t.isRepeat then satN 8 (x.failL + 1) else x.failL
      repeatSide := if !opened && !t.isRepeat then some (t.side, t.start + msFrames 10) else x.repeatSide })
  if opened then
    if t.isRepeat then raise s { code := 0x6220, sev := 0, cls := 1, inst := o, car := some (o / 4) } else s
  else if t.isRepeat then tripFor s (o / 4) 0x6221 o 2
  else s

/-- DARK_TEST_JUDGE: the sense pins 150 µs into the test. -/
def execDarkTestJudge (out : Fin 32) (hsfb lsfb : Bool) (s : State) : Host.Outcome State Fault Refusal :=
  .next (match (s.out out).test with
    | some t =>
      if t.judged.isNone then
        judgeTest (s.modOut out (fun x => { x with hsfb := hsfb, lsfb := lsfb })) out t (if t.side == 0 then !hsfb else lsfb)
      else s
    | none => s)

/-- DARK_TEST_PULSE_END: the tested gate restarts. -/
def execDarkTestPulseEnd (out : Fin 32) (s : State) : Host.Outcome State Fault Refusal :=
  .next (match (s.out out).test with
    | some t =>
      if t.pulsing then
        s.modOut out (fun x => { x with hs := x.want, ls := x.want, test := some { t with pulsing := false } })
      else s
    | none => s)

/-- DARK_TEST_SETTLE_END: `closed` is whether readback shows the closed path again. -/
def execDarkTestSettleEnd (out : Fin 32) (closed : Bool) (s : State) : Host.Outcome State Fault Refusal :=
  .next (match (s.out out).test with
    | some t =>
      if t.pulsing then s
      else
        let s := s.modOut out (fun x => { x with test := none })
        if closed then s
        else raise (s.dropCar (out / 4)) { code := 0x6223, sev := 2, inst := out, car := some (out / 4 : Nat) }
    | none => s)

/-! ### Vetoes (R241 to R243) -/

/-- VETO_RECEIVED. (log entry 63: DEDUCED) -/
def execVetoReceived (s : State) : Host.Outcome State Fault Refusal :=
  .next (if s.running then
    let s := forEach outs32 (fun s o =>
      let on := s.outOn o || (s.out o).want
      (s.outOff o).modOut o (fun x => { x with vetoed := x.vetoed || on })) s
    raise { s with pins := { s.pins with vetoIn := true } } { code := 0x6231, sev := 4 }
    else s)

/-- VETO_ASSERT: 1,000 µs into a demand to de-energise the readback still shows the closed path. -/
def execVetoAssert (out : Fin 32) (s : State) : Host.Outcome State Fault Refusal :=
  let x := s.out out
  let mode := s.mode == .service || s.mode == .shadow || s.mode == .commission
  let due := match x.denied with | some f => decide (f + 32 ≤ s.frame) | none => false
  .next (if s.power == .on && mode && due && closedPath x then
    event { s with saf := { s.saf with vetoOut := true } } 0x6230 (le 1 (out : Nat)) out else s)

/-! ### Reports -/

/-- Table 10.5. -/
def outByte (x : Out) : Nat :=
  let st := if x.vetoed then 5 else if x.stuck then 4 else if x.test.isSome then 3
    else if x.want && x.confirmed then 2 else if x.want then 1 else 0
  st * 32 + 16 * b2n x.ls + 8 * b2n x.hs + 4 * b2n x.ld + 2 * b2n x.lsfb + b2n x.hsfb

def testEntry (s : State) (o : Nat) : Bytes :=
  let x := s.out o
  le 1 (outByte x) ++ le 1 x.lastResult ++ le 1 x.lastSide ++ le 1 x.failL ++ le 4 x.passed ++ le 2 x.discarded
    ++ le 2 x.skipped ++ le 2 x.failT
    ++ le 2 (match x.lastTest with | some f => satN 16 ((s.frame - f) / 32000) | none => 0xFFFF)

def actOutputTestReport (h : Hdr) (rsv : Bool) (s : State) : State :=
  serve s h { op := 0x45, insts := 1, len := 516, lenOk := h.len == 0, checks := [(rsv, stBadParam)] }
    (fun s => (s, le 1 stOk ++ zeros 3 ++ (outs32.map (testEntry s)).flatten))

def execOutputTestReport (h : Hdr) (rsv : Bool) (s : State) : Host.Outcome State Fault Refusal :=
  hostRow s (.outputTestReport h rsv) h 0x45 516 (actOutputTestReport h rsv)

end Sys2Proof.Machine
end

