-- ==== Sys2Proof/Machine/Supervise.lean ====
section
/-! DEFINITION. The safety islands (R190 to R220): inputs, speed, position, movement, bridging and brake supervision,
permits, the safety cycle, `SAFETY_STATUS`. A car trip acts in both islands in the cycle that raises it; a Stop is
adopted by the other island in the next cycle (R194). -/

namespace Sys2Proof.Machine

/-! ### Safety inputs (R195, R197 to R199) -/

def State.assigned (s : State) (i : Nat) : Option Nat :=
  let v := s.sf 0x6101 i
  if v == 0xFF then none else some v.toNat

/-- A finding on an input: a car trip where it is assigned, severity 1 elsewhere. -/
def inputFinding (s : State) (code i : Nat) : State :=
  match s.assigned i with
  | some c => tripFor s c code i 2
  | none => raise s { code := code, sev := 1, cls := 2, inst := i }

/-- An accepted level on a channel, with the transitions of the last 16 tf (tf is 8 frames per `si_filter`). -/
def acceptLevel (ch : SafChan) (frame span : Nat) (level : Bool) : SafChan :=
  if ch.level == level then ch
  else { level := level, times := (ch.times ++ [frame]).filter (fun t => frame < t + span) }

def modSafChan (q : SafIn) (isl : Island) (ch : Nat) (f : SafChan → SafChan) : SafIn :=
  match isl, ch with
  | .a, 0 => { q with aa := f q.aa }
  | .a, _ => { q with ab := f q.ab }
  | .b, 0 => { q with ba := f q.ba }
  | .b, _ => { q with bb := f q.bb }

/-- The first raw edge of a terminal switch since its last transition latches an island's own position: island A's at the
reference cycle of the edge, island B's latest (R209, R192). (log entry 97: DESIGN CHOICE) -/
def switchEdge (s : State) (i : Nat) (isl : Island) (t : Nat) : State :=
  match s.assigned i with
  | none => s
  | some c =>
    if s.sf 0x6100 i != 9 then s
    else match isl with
      | .a => s.modSafIn i (fun q => { q with rawA := some (q.rawA.getD (fdiv (islandAt s c t + (s.carSaf c).oA) 1000)) })
      | .b => s.modSafIn i (fun q => { q with rawB := some (q.rawB.getD (s.shaftUm c)) })

/-- The terminal switch check of R209, once both channels of an island agree after a transition. -/
def switchCheck (s : State) (i : Nat) (isl : Island) : State :=
  let (a, b) := s.chans isl i
  match s.assigned i with
  | none => s
  | some c =>
    if s.sf 0x6100 i != 9 || a != b then s
    else
      let k := s.carSaf c
      let q := s.safIn i
      let at_ := s.sf (0x6018 + s.sfN 0x6102 i) c
      let (pos, ok) := match isl with
        | .a => (q.rawA.getD k.pA, k.pAok)
        | .b => (q.rawB.getD (s.shaftUm c), s.islandShaftOk c)
      let s := s.modSafIn i (fun q => match isl with | .a => { q with rawA := none } | .b => { q with rawB := none })
      if s.safEnabled c && !s.provisionalCar c && at_ != unset && ok
          && (s.hoist c).learn.state != 1 && ((pos - at_).natAbs : Int) > s.sf 0x6016 c then
        tripFor s c 0x6124 i 0
      else s

/-- An island accepts a level. Island A's acceptance feeds a learning run (R122). -/
def inputChange (s : State) (isl : Island) (i ch : Nat) (level : Bool) : State :=
  let q := s.safIn i
  let span := 16 * 8 * s.sfN 0x6104 i
  let old := match isl, ch with | .a, 0 => q.aa | .a, _ => q.ab | .b, 0 => q.ba | .b, _ => q.bb
  if old.level == level then s
  else
    let s := s.modSafIn i (fun q => modSafChan q isl ch (fun x => acceptLevel x s.frame span level))
    let n := match isl, ch with
      | .a, 0 => (s.safIn i).aa | .a, _ => (s.safIn i).ab | .b, 0 => (s.safIn i).ba | .b, _ => (s.safIn i).bb
    let s := if n.times.length > 8 && !(s.safIn i).chatter then
        record (s.modSafIn i (fun q => { q with chatter := true })) { code := 0x6103, sev := 1, inst := i, car := s.assigned i }
      else s
    let s := match isl with
      | .a => forEach cars8 (fun s c => learnConfirmed s c i ch (s.indicates i ch level)) s
      | .b => s
    switchCheck s i isl

/-- SAFETY_INPUT_CHANGE: the island's filter accepts a level, or the island samples a raw edge of the channel, whose position
it latches for a terminal switch (R209), and the device for a learning run (R122). (log entry 97: DESIGN CHOICE) -/
def execSafetyInputChange (island : Island) (input : Fin 96) (channel : Fin 2) (seen : InputEvent) (s : State) :
    Host.Outcome State Fault Refusal :=
  .next (if !s.working then s
    else match seen, island with
      | .accepted level, _ => inputChange s island input channel level
      | .rawEdge t, .a => forEach cars8 (fun s c => learnRawEdge s c input channel t) (switchEdge s input .a t)
      | .rawEdge t, .b => switchEdge s input .b t)

/-- SAFETY_INPUT_CHATTER_END. -/
def execSafetyInputChatterEnd (input : Fin 96) (s : State) : Host.Outcome State Fault Refusal :=
  .next (if s.working then s.modSafIn input (fun q =>
    { q with chatter := false, aa := { q.aa with times := [] }, ab := { q.ab with times := [] }
             ba := { q.ba with times := [] }, bb := { q.bb with times := [] } }) else s)

/-- One island's discrepancy count (R198): the count, its discrepancy counter, and a fault declared now. -/
def discrepancy (differ : Bool) (run disc limit : Nat) : Nat × Nat × Bool :=
  if differ then (min limit (run + 1), disc, run + 1 == limit)
  else (0, if 0 < run && run < limit then satN 16 (disc + 1) else disc, false)

/-- One cycle of an input: discrepancy and input-state disagreement. -/
def inputCycle (s : State) (i : Nat) : State :=
  let q := s.safIn i
  let limit := 4 * s.sfN 0x6105 i
  let (a1, a2) := s.chans .a i
  let (b1, b2) := s.chans .b i
  let (ra, da, fa) := discrepancy (a1 != a2) q.runA q.discA limit
  let (rb, db, fb) := discrepancy (b1 != b2) q.runB q.discB limit
  let ia := if q.aa.level != q.ba.level then min 3 (q.islRunA + 1) else 0
  let ib := if q.ab.level != q.bb.level then min 3 (q.islRunB + 1) else 0
  let s := s.modSafIn i (fun q =>
    { q with runA := ra, runB := rb, discA := da, discB := db, islRunA := ia, islRunB := ib
             held := q.held || fa || fb })
  let s := if (fa || fb) && !q.held then inputFinding s 0x6102 i else s
  if ia == 2 || ib == 2 then inputFinding s 0x6110 i else s

/-- R195: disagreements on two or more cars within 1 s. -/
def disagreeWatch (s : State) (c : Nat) : State :=
  match s.saf.lastDisagree with
  | some (d, f) =>
    let s' := { s with saf := { s.saf with lastDisagree := some (c, s.frame) } }
    if d != c && s.frame ≤ f + 32000 then raise s' { code := 0x6112, sev := 4 } else s'
  | none => { s with saf := { s.saf with lastDisagree := some (c, s.frame) } }

/-- All inputs, and the disagreements they show on cars. -/
def inputsCycle (s : State) : State :=
  forEach inputs96 (fun s i =>
    let s' := inputCycle s i
    let q := s'.safIn i
    if q.islRunA == 2 || q.islRunB == 2 then
      match s'.assigned i with
      | some c => disagreeWatch s' c
      | none => s'
    else s') s

/-! ### Positions and speeds (R191, R192) -/

/-- v_B over eight frames: 25,000 µm/s per nm per reference cycle. -/
def shaftSpeed (q : SsiPort) : Option Int :=
  match q.goods[0]?, q.goods[8]? with
  | some (p0, t0), some (p8, t8) => if t8 < t0 then some (fdiv ((p0 - p8) * 25000) ((t0 - t8 : Nat) : Int)) else none
  | _, _ => none

/-- The islands' measures of this cycle. Without frames clocked island B holds its last ones (R272).
(log entry 60: DEDUCED) -/
def measure (s : State) (c : Nat) : State :=
  let q := match s.setPort c with | some p => s.ssi p | none => {}
  s.modCarSaf c (fun k =>
    { k with
      pA := fdiv (s.islandNm c + k.oA) 1000
      pAok := k.oAok && s.islandMotorOk c
      vA := s.islandSpeed c
      vAok := s.islandSpeedOk c
      pB := s.shaftUm c
      pBok := q.valid
      vB := (shaftSpeed q).getD k.vB
      vBok := q.valid && (shaftSpeed q).isSome })

/-! ### Brake supervision (R218) -/

/-- The monitor of a brake (0 A, 1 B). -/
def State.monitor (s : State) (c b : Nat) : Option Nat := (s.inputsOf (11 + b) c).head?

/-- Both channels of a monitor indicate lifted, or applied, in an island; chatter and a hold are indeterminate. -/
def State.brakeOpenIn (s : State) (isl : Island) (i : Nat) : Bool := s.permissive isl i
def State.brakeClosedIn (s : State) (isl : Island) (i : Nat) : Bool :=
  let (a, b) := s.chans isl i
  !a && !b && !(s.safIn i).held && !(s.safIn i).chatter && !s.inputLost i

/-- The state that a brake's output calls for is seen in both islands. -/
def State.brakeAs (s : State) (c b : Nat) (lifted : Bool) : Bool :=
  match s.monitor c b with
  | some i =>
    if lifted then s.brakeOpenIn .a i && s.brakeOpenIn .b i else s.brakeClosedIn .a i && s.brakeClosedIn .b i
  | none => false

def brakeSup (k : CarSaf) (b : Nat) : BrakeSup := if b == 0 then k.brakeA else k.brakeB
def modBrake (s : State) (c b : Nat) (f : BrakeSup → BrakeSup) : State :=
  s.modCarSaf c (fun k => if b == 0 then { k with brakeA := f k.brakeA } else { k with brakeB := f k.brakeB })

/-- One brake in one cycle. -/
def brakeCycle (s : State) (c b : Nat) : State :=
  let on := s.energised (outOf c (1 + b))
  let s := modBrake s c b (fun x => if x.energised == on then x else { reached := false, energised := on, timed := true })
  let x := brakeSup (s.carSaf c) b
  let ok := s.brakeAs c b on
  if ok then modBrake s c b (fun x => { x with reached := true, timed := false })
  else if x.reached then
    tripFor (modBrake s c b (fun x => { x with reached := false })) c 0x6131 ((s.monitor c b).getD 0xFF) 0
  else s

/-- BRAKE_OPEN_TIMEOUT. -/
def execBrakeOpenTimeout (car : Fin 8) (brake : Fin 2) (s : State) : Host.Outcome State Fault Refusal :=
  let x := brakeSup (s.carSaf car) brake
  .next (if s.working && s.safEnabled car && x.energised && x.timed then
    raise ((modBrake s car brake (fun x => { x with timed := false })).dropCar car)
      { code := 0x6130, sev := 2, inst := outOf car (1 + brake), car := some (car : Nat) }
    else s)

/-- BRAKE_CLOSE_TIMEOUT. -/
def execBrakeCloseTimeout (car : Fin 8) (brake : Fin 2) (s : State) : Host.Outcome State Fault Refusal :=
  let x := brakeSup (s.carSaf car) brake
  .next (if s.working && s.safEnabled car && !x.energised && x.timed then
    tripFor (modBrake s car brake (fun x => { x with timed := false })) car 0x6131 ((s.monitor car brake).getD 0xFF) 0
    else s)

/-- Where both brakes were confirmed closed, and slip from there while both brake outputs stay off (R214).
(log entry 62: DEDUCED) -/
def slipWatch (s : State) (c : Nat) : State :=
  if s.energised (outOf c 1) || s.energised (outOf c 2) then s.modCarSaf c (fun k => { k with closedAt := none })
  else match (s.carSaf c).closedAt with
    | none => if s.brakesClosed c then s.modCarSaf c (fun k => { k with closedAt := some (s.place c) }) else s
    | some p =>
      if s.sidesLocked c && s.standstill c && max (s.movedA c p) (s.movedB c p) > s.sfN 0x6032 c then
        tripFor (s.modCarSaf c (fun k => { k with closedAt := some (s.place c) })) c 0x6132 c 0
      else s

/-! ### Speed (R203 to R205) -/

/-- The row of Table 09.3 in force. -/
def limitRow (s : State) (c : Nat) : Nat :=
  let k := s.carSaf c
  let r := (s.dcar c).regime
  let rows : List (Bool × Nat × Nat) :=
    [(true, 0x6003, 0), (r == .inspection || (s.hoist c).learn.state == 1 || s.provisionalCar c, 0x6005, 1),
     (r == .rescue, 0x6006, 2), (k.advBridge, 0x6007, 3), (k.relBridge, 0x6008, 4)]
  ((rows.filter (fun e => e.1)).foldl (fun (b : Nat × Nat) e =>
    if s.sfN e.2.1 c < b.1 then (s.sfN e.2.1 c, e.2.2) else b) (s.sfN 0x6003 c, 0)).2

/-- v_env at the present frame; 32 frames are 1 ms. -/
def envNow (s : State) (c : Nat) (e : Nat × Nat) : Nat :=
  let t := s.frame - e.2
  let d := 32 * s.sfN 0x600A c
  e.1 + s.sfN 0x6009 c - s.sfN 0x600B c * (t - d) / 32000

/-- The envelope after this cycle: it ends below the threshold. -/
def envKeep (s : State) (c v threshold : Nat) (e : Option (Nat × Nat)) : Option (Nat × Nat) :=
  match e with
  | some x => if v < threshold || envNow s c x ≤ threshold then none else some x
  | none => none

/-- What an island compares |v| with: nothing at the rated speed. -/
def speedBound (s : State) (c limit : Nat) (e : Option (Nat × Nat)) : Option Nat :=
  match e with
  | some x => some (envNow s c x)
  | none => if limit < s.sfN 0x6003 c then some (limit + s.sfN 0x6009 c) else none

/-- Consecutive cycles of a condition, up to two. -/
def run2 (bad : Bool) (n : Nat) : Nat := if bad then min 2 (n + 1) else 0

def speedCycle (s : State) (c : Nat) : State :=
  let k := s.carSaf c
  let limit := s.safetyLimit c
  let thr := limit + s.sfN 0x6009 c
  let va := k.vA.natAbs
  let vb := k.vB.natAbs
  let falls := limit < k.limit
  let startA := falls && k.vAok && k.envA.isNone && thr < va
  let startB := falls && k.vBok && k.envB.isNone && thr < vb
  let ea := envKeep s c va thr (if startA then some (va, s.frame) else k.envA)
  let eb := envKeep s c vb thr (if startB then some (vb, s.frame) else k.envB)
  let ovr := fun (ok : Bool) (v : Nat) (b : Option Nat) => ok && match b with | some x => decide (x < v) | none => false
  let rated := s.sfN 0x6004 c * s.sfN 0x6003 c
  let s := s.modCarSaf c (fun k =>
    { k with
      limit := limit, limitSrc := limitRow s c, envA := ea, envB := eb
      limRunA := run2 (ovr k.vAok va (speedBound s c limit ea)) k.limRunA
      limRunB := run2 (ovr k.vBok vb (speedBound s c limit eb)) k.limRunB
      ovRunA := run2 (k.vAok && rated < va * 100) k.ovRunA
      ovRunB := run2 (k.vBok && rated < vb * 100) k.ovRunB })
  let s := if startA || startB then event s 0x6160 [] c else s
  let k := s.carSaf c
  let s := if k.limRunA == 2 || k.limRunB == 2 then tripFor s c 0x6120 c 0 else s
  let s := if k.ovRunA == 2 || k.ovRunB == 2 then tripFor s c 0x6121 c 0 else s
  forEach (s.inputsOf 10 c) (fun s i => if s.permBoth i then s else tripFor s c 0x6121 i 0) s

/-! ### Position (R196, R206 to R208, R211) -/

/-- The car is beyond the upper or the lower final limit by position in either island. -/
def beyondPos (s : State) (c : Nat) (up : Bool) : Bool :=
  let k := s.carSaf c
  let out := fun (ok : Bool) (p : Int) => ok && (if up then decide (p > s.sf 0x6011 c) else decide (p < s.sf 0x6012 c))
  !s.provisionalCar c && (out k.pAok k.pA || out k.pBok k.pB)
def finalInputs (s : State) (c : Nat) (up : Bool) : List Nat := s.inputsOf (if up then 7 else 8) c
/-- It is beyond that limit by position or by switch. -/
def beyondEnd (s : State) (c : Nat) (up : Bool) : Bool := beyondPos s c up || (finalInputs s c up).any (fun i => !s.permBoth i)
def beyondFinal (s : State) (c : Nat) : Bool := beyondEnd s c true || beyondEnd s c false

/-- The direction away from a final limit: down from the upper one. -/
def awayFrom (up : Bool) : Int := if up then -1 else 1
/-- The direction away from the limit that the car stands beyond. -/
def wayBack (s : State) (c : Nat) : Int := awayFrom (beyondEnd s c true)

/-- A final-limit trip; in a learning run also learn overtravel (R124), which aborts the run with reason 7. -/
def finalTrip (s : State) (c elem : Nat) : State :=
  let learning := (s.hoist c).learn.state == 1
  let s' := tripFor (if learning then abortLearn s c 7 else s) c 0x6123 elem 0
  if learning then tripFor s' c 0x3403 c 0 else s'

/-- R206, and in place of it the restriction of R207 at the limit from which the car comes back, until it stands within
both. -/
def finalCycle (s : State) (c : Nat) : State :=
  let dir := (s.carSaf c).finalDir.map (·.1)
  let s := if dir.isSome && !beyondFinal s c && s.standstill c then s.modCarSaf c (fun k => { k with finalDir := none }) else s
  forEach [true, false] (fun s up =>
    if dir == some (awayFrom up) then s
    else
      let s := if beyondPos s c up then finalTrip s c c else s
      forEach (finalInputs s c up) (fun s i => if s.permBoth i then s else finalTrip s c i) s) s

/-- Movement against a latched direction (R207, R211). -/
def against (s : State) (c : Nat) (d : Int × Int × Int) : Bool :=
  let tol := s.sf 0x6022 c
  d.1 * (s.motorUm c - d.2.1) < -tol || d.1 * (s.shaftUm c - d.2.2) < -tol

def directionCycle (s : State) (c : Nat) : State :=
  let bad := fun (o : Option (Int × Int × Int)) => match o with | some d => against s c d | none => false
  let k := s.carSaf c
  let h := s.hoist c
  let rest := h.phase == .idle || h.phase == .torqueHold || h.phase == .torqueRamp || h.phase == .emergency
  let s' := if s.atRest c && rest then s.modCarSaf c (fun k => { k with dirLatch := none }) else s
  if bad k.dirLatch || bad k.finalDir then tripFor s' c 0x6125 c 0 else s'

/-- R208 for one island. -/
def terminalOver (s : State) (c : Nat) (p v : Int) : Bool :=
  let x := if 0 < v then max 0 (s.sf 0x6011 c - p) else max 0 (p - s.sf 0x6012 c)
  let b := s.sf 0x6014 c
  v != 0 && v * v > b * b + 2 * s.sf 0x6015 c * x

def terminalCycle (s : State) (c : Nat) : State :=
  if s.sf 0x6013 c != 1 || s.provisionalCar c then s
  else
    let s := s.modCarSaf c (fun k =>
      { k with etRunA := run2 (k.pAok && k.vAok && terminalOver s c k.pA k.vA) k.etRunA
               etRunB := run2 (k.pBok && k.vBok && terminalOver s c k.pB k.vB) k.etRunB })
    let k := s.carSaf c
    if k.etRunA == 2 || k.etRunB == 2 then tripFor s c 0x6122 c 0 else s

/-- The cross-checks of R196. -/
def crossCycle (s : State) (c : Nat) : State :=
  let k := s.carSaf c
  let clocked := match s.setPort c with | some p => !(s.ssi p).clockAbsent && !(s.ssi p).gap | none => false
  if !(k.pAok && k.pBok && k.vAok && k.vBok && clocked) then s.modCarSaf c (fun k => { k with posRun := 0, spdRun := 0 })
  else
    let n := s.sfN 0x6010 c
    let badP := ((k.pA - k.pB).natAbs : Int) > s.posTol c
    let badV := 100 * ((k.vA - k.vB).natAbs : Int) > 100 * s.sf 0x600C c + s.sf 0x600D c * (k.vB.natAbs : Int)
    let s := s.modCarSaf c (fun k =>
      { k with posRun := if badP then min n (k.posRun + 1) else 0, spdRun := if badV then min n (k.spdRun + 1) else 0 })
    let k := s.carSaf c
    let s := if k.posRun == n then tripFor s c 0x6113 c 2 else s
    if k.spdRun == n then tripFor s c 0x6114 c 2 else s

/-! ### Bridging, unintended movement (R212, R213, R215 to R217) -/

/-- Conditions common to both kinds of bridging. -/
def bridgeBase (s : State) (c vKey : Nat) : Bool :=
  let k := s.carSaf c
  let r := (s.dcar c).regime
  s.inZone c && k.vAok && k.vBok && k.vA.natAbs < s.sfN vKey c && k.vB.natAbs < s.sfN vKey c
    && r != .inspection && r != .rescue
def advOk (s : State) (c : Nat) : Bool := (s.carSaf c).advReq && s.sf 0x6024 c == 1 && bridgeBase s c 0x6007
def relOk (s : State) (c : Nat) : Bool := (s.carSaf c).relReq && bridgeBase s c 0x6008
def relTravel (s : State) (c : Nat) : Bool :=
  match (s.carSaf c).relStart with
  | some p => decide (max (s.movedA c p) (s.movedB c p) ≤ s.sfN 0x6023 c)
  | none => true

/-- The sides that bridging covers: those served at the landing of the trip or relevel that asked for it (R150, R215).
(log entry 60: DEDUCED) -/
def State.bridges (s : State) (c side : Nat) : Bool := s.serves c (s.hoist c).targetLanding side
/-- A car door contact or lock chain of a bridged side is at its safe value. -/
def doorOpenIn (s : State) (c : Nat) : Bool :=
  (List.range 2).any (fun k => bitAt (s.sfN 0x6002 c) k && s.bridges c k && !s.sideLocked c k)

/-- Bridging in one cycle: it is granted, goes on, ends at rest, or is lost (R217). (log entry 60: DEDUCED) -/
def bridgeCycle (s : State) (c : Nat) : State :=
  let k := s.carSaf c
  let lost := fun (s : State) => if doorOpenIn s c then tripFor s c 0x6128 c 0 else s
  let s :=
    if !k.advBridge then (if advOk s c then s.modCarSaf c (fun k => { k with advBridge := true }) else s)
    else if s.atRest c then s.modCarSaf c (fun k => { k with advBridge := false, advReq := false })
    else if advOk s c then s
    else lost (s.modCarSaf c (fun k => { k with advBridge := false, advReq := false }))
  let k := s.carSaf c
  if !k.relBridge then
    if relOk s c && s.standstill c then s.modCarSaf c (fun k => { k with relBridge := true, relStart := some (s.place c) }) else s
  else if !k.relReq && s.atRest c then s.modCarSaf c (fun k => { k with relBridge := false, relStart := none })
  else if relOk s c && relTravel s c then s
  else lost (s.modCarSaf c (fun k => { k with relBridge := false, relReq := false, relStart := none }))

/-- Unintended-movement supervision in one cycle. It stays armed until every side is closed and locked or bridging
takes over; the zone counts from when it was seen permissive while armed. (log entry 60: DEDUCED) -/
def ucmCycle (s : State) (c : Nat) : State :=
  let k := s.carSaf c
  let bridged := k.advBridge || k.relBridge
  let s := match k.ucm with
    | none =>
      if s.standstill c && !s.sidesLocked c && !bridged then
        s.modCarSaf c (fun k => { k with ucm := some (s.place c), ucmZone := s.inZone c })
      else s
    | some p =>
      if s.sidesLocked c || bridged then s.modCarSaf c (fun k => { k with ucm := none, ucmZone := false })
      else if k.ucmZone && !s.inZone c then ucmTrip s c p
      else ucmWatch (ucmWatch (s.modCarSaf c (fun k => { k with ucmZone := k.ucmZone || s.inZone c })) c .a) c .b
  match (s.carSaf c).ucmMove with
  | some p =>
    if s.standstill c then
      let d := max (s.movedA c p) (s.movedB c p)
      let s := s.modCarSaf c (fun k => { k with ucmMove := none })
      if d > s.sfN 0x6021 c then tripFor s c 0x6127 c 0 (le 4 d) else s
    else s
  | none => s

/-! ### Brake tests (R219) -/

def testRuns (h : Hoist) : Bool := h.kind == .brakeTest && h.bt.state == 1

def testCycle (s : State) (c : Nat) : State :=
  if !(testRuns (s.hoist c) && (s.hoist c).phase == .running) then s.modCarSaf c (fun k => { k with btStart := none })
  else match (s.carSaf c).btStart with
    | none => s.modCarSaf c (fun k => { k with btStart := some (s.place c) })
    | some p => if max (s.movedA c p) (s.movedB c p) > s.sfN 0x6033 c then tripFor s c 0x6134 c 0 else s

/-- BRAKE_TEST_OVERDUE: hours and days of operating time in 1/16 s. (log entry 63: DEDUCED) -/
def execBrakeTestOverdue (car : Fin 8) (s : State) : Host.Outcome State Fault Refusal :=
  let k := s.carSaf car
  let h := s.sfN 0x6034 car
  let old := decide (min k.btPassA k.btPassB + h * 57600 < s.opTime)
  let again := match k.btNagged with | some t => decide (t + 1382400 ≤ s.opTime) | none => true
  .next (if s.working && s.safEnabled car && h != 0 && old && again then
    record (s.modCarSaf car (fun k => { k with btNagged := some s.opTime }))
      { code := 0x6133, sev := 1, inst := car, car := some (car : Nat) }
    else s)

/-! ### Permits (R190, R194, R195, R200) -/

/-- The inputs whose safe value demands a Stop in an island. -/
def stopInputs (s : State) (c : Nat) (isl : Island) : List Nat :=
  let k := s.carSaf c
  let bridged := k.advBridge || k.relBridge
  ((s.inputsOf 1 c ++ s.inputsOf 2 c).filter (fun i => s.sf 0x6106 i != 1 && !s.permissive isl i))
    ++ ((s.inputsOf 3 c ++ s.inputsOf 4 c).filter (fun i =>
      !(bridged && s.bridges c (s.sfN 0x6102 i)) && !s.permissive isl i))

/-- Functions 1 and 2 with `si_reaction` 1. (log entry 63: DEDUCED) -/
def reactionTrips (s : State) (c : Nat) : State :=
  forEach ((s.inputsOf 1 c ++ s.inputsOf 2 c).filter (fun i => s.sf 0x6106 i == 1))
    (fun s i => if s.permBoth i then s else tripFor s c 0x6141 i 0) s

/-- Outputs that a car may have energised at all: none of a tripped car, of a provisional one outside COMMISSION, of a
car beyond a final limit outside Inspection, of a Rescue move without its direction; not the brakes under test. -/
def permitBase (s : State) (c : Nat) : BitVec 4 :=
  let k := s.carSaf c
  let h := s.hoist c
  if !s.safEnabled c || k.trip || (s.provisionalCar c && s.mode != .commission)
      || (k.finalDir.isSome && (s.dcar c).regime != .inspection)
      || (h.kind == .rescue && h.phase != .idle && !h.waiting && k.dirLatch.isNone) then 0
  else if testRuns h then ~~~ (BitVec.ofNat 4 (2 * h.bt.brakes)) else 0b1111

/-- Permits of one cycle: an island's own Stop acts at once, both islands' Stops of the last cycle act in both. -/
def permitCycle (s : State) (c : Nat) : State :=
  let s := reactionTrips s c
  let ownA := stopInputs s c .a
  let ownB := stopInputs s c .b
  let k := s.carSaf c
  let held := k.denyA || k.denyB
  let stop := !ownA.isEmpty || !ownB.isEmpty || held
  let wasOn := s.carOutOn c
  let starts := !k.stop && stop && wasOn && s.safEnabled c && !k.trip
  let s := s.modCarSaf c (fun k => { k with stop := stop && s.safEnabled c, denyA := !ownA.isEmpty, denyB := !ownB.isEmpty })
  let s := if starts then
      raise (s.dropCar c) { code := 0x6140, sev := 2, inst := ((ownA ++ ownB).head?).getD 0xFF, car := some c } else s
  let base := permitBase s c
  let pa : BitVec 4 := if !ownA.isEmpty || held then 0 else base
  let pb : BitVec 4 := if !ownB.isEmpty || held then 0 else base
  let s := s.modCarSaf c (fun k =>
    { k with permitA := pa, permitB := pb, permRun := if pa == pb then 0 else min 3 (k.permRun + 1) })
  if (s.carSaf c).permRun == 2 then disagreeWatch (tripFor s c 0x6111 (outOf c 0) 2) c else s

/-- Demands of the control path that both islands permit drive the car's outputs; a device that gives up its role only
de-energises (R273). A denied output is dated (R243). -/
def outputsCycle (s : State) (c : Nat) : State :=
  let k := s.carSaf c
  let h := s.hoist c
  let deny := s.safEnabled c && (k.trip || k.stop)
  forEach (List.range 4) (fun s i =>
    let o := outOf c i
    let s := s.modOut o (fun x => confirmOut { x with denied := if deny then some (x.denied.getD s.frame) else none })
    let demand := h.dem.getLsbD i && k.permitA.getLsbD i && k.permitB.getLsbD i
    let s := if s.driving then driveOut s o demand else if demand then s else driveOut s o false
    stuckCheck s o) s

/-- Every function of one enabled car. The inspection switch takes effect at once (R177, R202). -/
def carCycle (s : State) (c : Nat) : State :=
  let s := measure s c
  if !s.safEnabled c then
    outputsCycle (s.modCarSaf c (fun k => { k with limit := 0, permitA := 0, permitB := 0 })) c
  else
    let s := if s.incharge && s.inspection c && (s.dcar c).regime != .inspection then changeRegime s c .inspection else s
    let s := brakeCycle (brakeCycle s c 0) c 1
    let s := bridgeCycle s c
    let s := speedCycle s c
    let s := terminalCycle (finalCycle s c) c
    let s := crossCycle (directionCycle s c) c
    let s := slipWatch (ucmCycle s c) c
    let s := permitCycle (testCycle s c) c
    checkReady (outputsCycle s c) c

/-- SAFETY_CYCLE: `count` is island B's count of the cycle (R33), the masks are the sense pins. The brake, bridging
and position functions see the sense pins and inputs of this cycle. (log entry 62: DEDUCED) -/
def safetyCycle (s : State) (count : Nat) (hsfb lsfb ld : U32) : State :=
  let s := timebase s count (countOk count)
  let s := forEach outs32 (fun s o => s.modOut o (fun x => sense x (hsfb.getLsbD o) (lsfb.getLsbD o) (ld.getLsbD o))) s
  let s := forEach (List.range 8) (fun s p => ssiGap (s.modSsi p (fun q => { q with cyclesSinceGood := q.cyclesSinceGood + 1 })) p) s
  forEach cars8 carCycle (inputsCycle s)

def execSafetyCycle (count : Nat) (hsfb lsfb ld : U32) (s : State) : Host.Outcome State Fault Refusal :=
  .next (if s.working then safetyCycle s count hsfb lsfb ld else s)

/-! ### Present causes (R244) -/

/-- An input shows a present cause: read without its holds it is not permissive or its channels disagree. -/
def inputPresent (s : State) (i : Nat) : Bool :=
  let (a1, a2) := s.chans .a i
  let (b1, b2) := s.chans .b i
  let brake := s.sf 0x6100 i == 11 || s.sf 0x6100 i == 12
  a1 != a2 || b1 != b2 || (!brake && (!a1 || !b1))

/-- A recorded cause of car `c` persists, judged on its element alone. -/
def causePresent (s : State) (c : Nat) (e : Nat × Nat) : Bool :=
  let k := s.carSaf c
  match e.1 with
  | 0x6102 | 0x6110 | 0x6124 | 0x6131 | 0x6141 => e.2 < 96 && inputPresent s e.2
  | 0x6120 => k.limRunA != 0 || k.limRunB != 0
  | 0x6121 => if e.2 == c && !((s.inputsOf 10 c).contains e.2) then k.ovRunA != 0 || k.ovRunB != 0 else inputPresent s e.2
  | 0x6122 => k.etRunA != 0 || k.etRunB != 0
  | 0x6222 => (s.out e.2).stuck
  | _ => false

def presentCauses (s : State) (c : Nat) : Nat := ((s.carSaf c).causes.filter (causePresent s c)).length
def firstCause (s : State) (c : Nat) : Nat := match (s.carSaf c).causes with | e :: _ => e.1 | [] => 0
def trippedMask (s : State) : Nat := maskOf 8 (fun c => (s.carSaf c).trip)
/-- Table 10.8 `blocked`. -/
def blockedCar (s : State) (c : Nat) : Bool := presentCauses s c != 0 || !s.atRest c

/-! ### SAFETY_STATUS (Tables 10.6, 10.7) -/


def carStatus (s : State) (c : Nat) : Bytes :=
  let k := s.carSaf c
  let env := match k.envA, k.envB with
    | some a, some b => min (envNow s c a) (envNow s c b)
    | some a, none => envNow s c a
    | none, some b => envNow s c b
    | none, none => 0
  let flags := b2n k.trip + 2 * b2n k.stop + 4 * b2n (k.envA.isSome || k.envB.isSome) + 8 * b2n k.advBridge
    + 16 * b2n k.relBridge + 32 * b2n k.ucm.isSome + 64 * b2n (s.sidesLocked c) + 128 * b2n k.dirLatch.isSome
  le 1 stOk ++ le 1 0 ++ le 1 k.limitSrc ++ le 1 flags ++ le 4 k.limit ++ le 4 env ++ leI 4 k.pA ++ leI 4 k.pB
    ++ leI 4 k.vA ++ leI 4 k.vB ++ le 1 (b2n k.pAok + 2 * b2n k.pBok + 4 * b2n k.vAok + 8 * b2n k.vBok)
    ++ le 1 (satN 8 (presentCauses s c)) ++ le 2 k.causes.length ++ le 2 (firstCause s c) ++ zeros 2
    ++ le 5 (if k.trip then k.tripTime else 0) ++ zeros 3
    ++ ((List.range 4).map (fun i => le 1 (outByte (s.out (outOf c i)))
        ++ le 1 (b2n (k.permitA.getLsbD i) + 2 * b2n (k.permitB.getLsbD i)) ++ zeros 2)).flatten
    ++ le 4 (setNumber s)

def inputEntry (s : State) (i : Nat) : Bytes :=
  let q := s.safIn i
  let (a1, a2) := s.chans .a i
  le 1 (b2n (s.permissive .a i) + 2 * b2n (s.permissive .b i) + 4 * b2n q.aa.level + 8 * b2n q.ab.level
      + 16 * b2n (a1 != a2) + 32 * b2n q.chatter + 64 * b2n q.held)
    ++ le 1 (s.sfN 0x6100 i) ++ le 2 (max q.discA q.discB)

def inputsStatus (s : State) : Bytes := le 1 stOk ++ le 1 1 ++ zeros 2 ++ (inputs96.map (inputEntry s)).flatten

def actSafetyStatus (h : Hdr) (rsv : Bool) (view : U8) (s : State) : State :=
  serve s h { op := 0x40, insts := if view == 1 then 1 else 8, len := if view == 1 then 388 else 64, lenOk := h.len == 4
              checks := [(rsv || view.toNat > 1, stBadParam)] }
    (fun s => (s, if view == 1 then inputsStatus s else carStatus s h.inst.toNat))

def execSafetyStatus (h : Hdr) (rsv : Bool) (view : U8) (s : State) : Host.Outcome State Fault Refusal :=
  hostRow s (.safetyStatus h rsv view) h 0x40 (if view == 1 then 388 else 64) (actSafetyStatus h rsv view)

end Sys2Proof.Machine
end

