-- ==== Sys2Proof/Machine/HostOut.lean ====
section
/-! DEFINITION. Packets that leave on a channel (Table 16.3, R369, R373, R381). -/

namespace Sys2Proof.Machine

/-- The packet's bytes: sync, flags, length, opcode, instance, sequence, payload and CRC (Table 16.3). -/
def packetBytes (p : OutPkt) : Bytes :=
  let body := le 1 0xE7 ++ le 1 (if p.notify then 2 else 1) ++ le 2 (12 + p.payload.length) ++ le 1 p.opcode
    ++ le 1 p.inst ++ le 2 p.seq ++ p.payload
  body ++ le 4 (crc32c body).toNat

/-- `length` of the packet. -/
def packetLen (p : OutPkt) : Nat := 12 + p.payload.length

/-- The head packet leaves: its request is no longer outstanding, and a NOTIFY of cause 3 takes freed space. -/
def popOut (s : State) (ch : Chan) : State :=
  match (s.chan ch).out with
  | [] => s
  | p :: rest =>
    reportDropped (s.modChan ch (fun c =>
      { c with out := rest
               waiting := match p.req with | some r => c.waiting.erase r | none => c.waiting })) ch

end Sys2Proof.Machine
end

