-- ==== Sys2Proof/Machine/Links.lean ====
section
/-! DEFINITION. Field ports (chapter 14): rings, budgets, what a commit checks, cycles and the bursts they send,
`PORT_CONFIG` and `PORT_STATUS`. -/

namespace Sys2Proof.Machine

/-! ### Ports, rings and who listens -/

/-- The ring partner of a port. -/
def State.ringOf (s : State) (p : Nat) : Option Nat := if s.com 0x8004 p == 0xFF then none else some (s.com 0x8004 p).toNat

/-- The port at which a ring's state, nodes and points stand: its primary (R328). (log entry 67: DEDUCED) -/
def State.ringHead (s : State) (p : Nat) : Nat := match s.ringOf p with | some q => min p q | none => p

def State.portUse (s : State) (p : Nat) : Nat := (s.com 0x8001 p).toNat
def State.portClass (s : State) (p : Nat) : Nat := (s.com 0x8002 p).toNat
/-- The local car of a class A port. -/
def State.portCar (s : State) (p : Nat) : Option Nat :=
  if s.portClass p == 0 && s.com 0x8005 p != 0xFF then some (s.com 0x8005 p).toNat else none

/-- A port that R332 or PROVING has not made unusable. (log entry 67: DEDUCED) -/
def State.portUsable (s : State) (p : Nat) : Bool := !(s.lport p).unusable && !s.proving.portsLost.contains p

/-- A line or ring of which some port is usable. -/
def State.lineUsable (s : State) (p : Nat) : Bool :=
  s.portUsable p || (match s.ringOf p with | some q => s.portUsable q | none => false)

/-- Modes in which the device takes part in its ports' traffic. -/
def State.hears (s : State) : Bool :=
  s.power == .on && (s.mode == .commission || s.mode == .service || s.mode == .shadow || s.mode == .lockout)

/-- `ring_state` of Table 14.7. -/
def State.ringState (s : State) (p : Nat) : Nat :=
  match s.ringOf p with
  | none => 0
  | some q =>
    if !s.portUsable p || !s.portUsable q then 3
    else match (s.lport (s.ringHead p)).ringState with | 0 => 1 | n => n

/-! ### Frames (R320) -/

/-- A frame between its K27.7 and K29.7. -/
def frameBytes (type addr cycle : Nat) (payload : Bytes) : Bytes :=
  let body := le 1 type ++ le 1 addr ++ le 2 payload.length ++ le 4 cycle ++ payload
  body ++ le 4 (crc32c body).toNat

/-- Downstream code groups of a frame with its gap, by payload length. -/
def downGroups (len : Nat) : Nat := len + 16

/-- Nanoseconds per code group at a rate code. -/
def cgNs (rate : Nat) : Nat := match rate with | 0 => 400 | 1 => 200 | 2 => 100 | _ => 50

/-- Code groups of a class A burst or of one epoch window (Table 14.3). -/
def windowCg (cls rate : Nat) : Nat := if cls == 0 then 31250 / cgNs rate else 125000 / cgNs rate
/-- Windows of a cycle. -/
def windowsOf (cls : Nat) : Nat := match cls with | 0 => 1 | 1 => 8 | _ => 80
/-- A cycle in ns. -/
def cycleNs (cls : Nat) : Nat := match cls with | 0 => 125000 | 1 => 1000000 | _ => 10000000

/-- Where the next frame of a burst goes: window, code groups used in it, the fullest window so far. -/
structure Fill where
  win : Nat := 0
  used : Nat := 0
  peak : Nat := 0
  deriving DecidableEq, Repr

/-- A frame of `n` code groups whole in this window or the next (R323); none where no window of the cycle holds it. -/
def Fill.place (f : Fill) (cap wins n : Nat) : Option Fill :=
  if f.used + n ≤ cap then some { f with used := f.used + n, peak := max f.peak (f.used + n) }
  else if f.win + 1 < wins && n ≤ cap then some { win := f.win + 1, used := n, peak := max f.peak n }
  else none

/-- Every frame of a list in order. -/
def Fill.placeAll (f : Fill) (cap wins : Nat) : List Nat → Option Fill
  | [] => some f
  | n :: ns => match f.place cap wins n with | some g => g.placeAll cap wins ns | none => none

/-! ### The budget of a schedule (R327) -/

/-- `words` of a slot-map entry. -/
def nodeWords (n : Node) : Nat := 1 + n.replyWords + n.msgWords

/-- The upstream end of a schedule in ns: header, guard, each reply, the discovery reply. -/
def upEnd (rate guard : Nat) (words : List Nat) : Nat :=
  let cg := cgNs rate
  (4 + 2 * words.length + 14) * cg + guard
    + (words.map (fun w => (4 * w + 22) * cg + guard)).foldl (· + ·) 0 + (38 * cg + guard)

/-- 0.95 × the cycle, in ns. -/
def upLimit (cls : Nat) : Nat := cycleNs cls * 95 / 100

/-- Code groups of the burst without segments: header, records, poll. -/
def burstGroups (nodes : List Node) : List Nat :=
  downGroups (4 + 2 * nodes.length) :: nodes.map (fun n => downGroups (4 + 4 * n.recordWords)) ++ [downGroups 0]

/-- R327: the schedule is admitted at a class, rate and guard. -/
def scheduleOk (cls rate guard : Nat) (nodes : List Node) : Bool :=
  decide (upEnd rate guard (nodes.map nodeWords) ≤ upLimit cls)
    && (({} : Fill).placeAll (windowCg cls rate) (windowsOf cls) (burstGroups nodes)).isSome

/-- The nodes of a port's slot map. -/
def State.mapNodes (s : State) (p : Nat) : List Node := (s.lport p).map.map (fun a => s.node p a)

/-! ### What a commit checks (R327, R341, R342, R348) -/

/-- A staged field lies inside its area of `size` bytes. -/
def fieldIn (size : Nat) (e : MapEntry) : Bool := decide (e.offset * 8 + e.bit + e.width ≤ size * 8)

/-- Bits of a record that a profile fixes (Tables 15.6 to 15.9). -/
def fixedBits (profile : Nat) : Nat := match profile with | 1 => 32 | 2 => 64 | 3 => 96 | 4 => 128 | _ => 0

/-- Reply and record words of the profiles that fix them, and the most the others take (Table 15.5). -/
def profileWords (profile : Nat) : Nat × Nat :=
  match profile with | 1 => (2, 2) | 2 => (8, 6) | 3 => (6, 3) | 4 => (10, 8) | _ => (14, 14)

/-- Bits `a` of two entries meet. -/
def fieldsMeet (a b : MapEntry) : Bool :=
  let x := a.offset * 8 + a.bit
  let y := b.offset * 8 + b.bit
  decide (x < y + b.width && y < x + a.width)

/-- R348: a map that may be committed, for a node of `profile` with its reply and record words.
(log entry 71: DEDUCED) -/
def mapOk (profile : Nat) (words : Nat × Nat) (es : List MapEntry) : Bool :=
  let ins := es.filter (·.dir == 1)
  let outs := es.filter (·.dir == 2)
  ins.all (fieldIn (4 * words.1)) && outs.all (fieldIn (4 * words.2)) && noPair fieldsMeet outs
    && outs.all (fun e => decide (fixedBits profile ≤ e.offset * 8 + e.bit))
    && (ins ++ outs).all (fun e => decide (e.rangeMin ≤ e.rangeMax))

/-- The profile and areas that a staged map is held against. (log entry 71: DEDUCED) -/
def mapAreas (s : State) (p a : Nat) (m : PointMap) : Nat × (Nat × Nat) :=
  let n := s.node p a
  if n.state == 0 && (m.expectProfile == 0 || m.expectProfile == n.profile) then (n.profile, (n.replyWords, n.recordWords))
  else (m.expectProfile, profileWords m.expectProfile)

/-- R348 over the staged maps: a refusal names no key. (log entries 71: DEDUCED, 73: DEDUCED) -/
def mapRefused (s : State) : Bool :=
  (changedMaps s.params).any (fun k =>
    let m := tget (dft {}) s.params.staged.maps k
    let (profile, words) := mapAreas s (k / 256) (k % 256) m
    m.present && !mapOk profile words m.entries)

/-- R327 and R342 over the staged values, R341 over the changed ones. (log entry 71: DEDUCED) -/
def linkRules (s : State) (v : Staged) : Refused :=
  let changed := fun (key p : Nat) => v key p != s.com key p
  eachInst 64 (fun p =>
    let use := v 0x8001 p
    let cls := v 0x8002 p
    let rate := v 0x8003 p
    let ring := v 0x8004 p
    let car := v 0x8005 p
    let restart := [0x8001, 0x8002, 0x8003, 0x8004, 0x8005].any (fun k => changed k p)
    let c := (s.com 0x8005 p).toNat
    let q := ring.toNat
    failIf (use == 2 && (List.range 64).any (fun o => o < p && v 0x8001 o == 2)) 0x8001 p stBadParam
      ++ failIf (restart && s.portUse p != 0 && s.portClass p == 0 && c < 8 && !(s.standstill c && !s.carOutOn c))
          (([0x8001, 0x8002, 0x8003, 0x8004, 0x8005].find? (fun k => changed k p)).getD 0x8001) p stBusy
      ++ failIf (use != 0 && cls == 0 && use != 1) 0x8002 p stBadParam
      ++ failIf ((use == 2 || use == 3) && cls != 1) 0x8002 p stBadParam
      ++ failIf (use != 0 && cls == 0 && rate < 2) 0x8003 p stBadParam
      ++ failIf (use == 3 && rate != 3) 0x8003 p stBadParam
      ++ failIf ((use == 2 || use == 3) && ring != 0xFF) 0x8004 p stBadParam
      ++ failIf (use == 1 && ring != 0xFF && !(q < 64 && q != p && v 0x8004 q == (p : Int) && v 0x8001 q == use
          && v 0x8002 q == cls && v 0x8003 q == rate && v 0x8005 q == car)) 0x8004 p stBadParam
      ++ failIf (use != 0 && cls == 0 && car == 0xFF) 0x8005 p stBadParam
      ++ failIf (use != 0 && cls == 0 && decide (2 < ((List.range 64).filter (fun o =>
          v 0x8001 o != 0 && v 0x8002 o == 0 && v 0x8005 o == car)).length)) 0x8005 p stBadParam
      ++ failIf ((use != 0 && cls == 1 && 7 < v 0x8006 p) || (use != 0 && cls == 2 && 79 < v 0x8006 p)) 0x8006 p stBadParam
      ++ failIf (use == 1 && !restart && s.ringHead p == p && changed 0x8007 p
          && !scheduleOk cls.toNat rate.toNat (v 0x8007 p).toNat (s.mapNodes p)) 0x8007 p stRange
      ++ failIf (use == 3 && (v 0x8008 p == 0xFF || v 0x8008 p == (s.pairNo : Int)
          || (List.range 64).any (fun o => o != p && v 0x8001 o == 3 && v 0x8008 o == v 0x8008 p))) 0x8008 p stBadParam)

/-! ### Messages to nodes (R335, R366) -/

/-- A message ends, delivered or aborted; a host message is completed by a NOTIFY of `NODE_MESSAGE`.
(log entry 69: DESIGN CHOICE) -/
def endMessage (s : State) (p a : Nat) (delivered : Bool) : State :=
  let n := s.node p a
  let s := if delivered then s else
    record (s.modPort p (fun q => { q with msgAborted := satN 16 (q.msgAborted + 1) }))
      { code := 0x8130, sev := 1, inst := p, payload := le 1 a }
  let s := s.modNode p a (fun n =>
    { n with txState := if delivered then 2 else 3, txMsg := [], txPos := 0, txSeg := 0, txSends := 0, txHost := none
             tblSent := if delivered then n.tblSent else 0 })
  match n.txHost with
  | some (ch, sq) => notifyOn s ch 0 0x66 p sq.toNat (le 1 stOk ++ le 1 (if delivered then 2 else 3) ++ le 2 0)
  | none => s

/-- Every message in progress on a port is aborted. -/
def abortMessages (s : State) (p : Nat) : State :=
  forEach ((s.links.nodes.filter (fun e => e.1 / 256 == p && e.2.txState == 1)).map (·.1 % 256))
    (fun s a => endMessage s p a false) s

/-- A port restarts after a commit (R341). -/
def restartPort (s : State) (p : Nat) : State :=
  let s := abortMessages s p
  event (s.modPort p (fun q => { q with restarting := true, budgetRefused := false, formatBad := false, seen := [], sumBad := [] })) 0x8101 [] p

/-- A segment that its cycle left unacknowledged is sent again once; then the message is aborted. -/
def messageDue (s : State) (p a : Nat) : State :=
  let n := s.node p a
  if n.txState == 1 && n.txSeg != 0 && n.txSends ≥ 2 then endMessage s p a false else s

/-- The operators whose door power node stands at an address. -/
def State.doorsAt (s : State) (p a : Nat) : List Nat := (List.range 16).filter (fun d => s.doorNode d == some (p, a))

/-- A table download that is due becomes a message (R133). -/
def tableDue (s : State) (p a : Nat) : State :=
  match (s.doorsAt p a).head? with
  | none => s
  | some d =>
    let x := s.door d
    let n := s.node p a
    if !x.tableDown then (if n.tblSent == 0 then s else s.modNode p a (fun n => { n with tblSent := 0 }))
    else if n.txState != 1 && n.tblSent ≤ x.tableTries then
      s.modNode p a (fun n =>
        { n with txState := 1, txMsg := tableBytes (s.slotTable (s.parN 0x4004 d)), txPos := 0, txSeg := 0, txSends := 0
                 txHost := none, tblSent := x.tableTries + 1 })
    else s

/-- The next `seq` after `n`: 1 to 255, then 1 again. (log entry 69: DESIGN CHOICE) -/
def nextSeg (n : Nat) : Nat := if n ≥ 255 then 1 else n + 1

/-- The segment a node gets in this cycle with `room` code groups left: its frame payload and the node after it.
(log entry 69: DESIGN CHOICE) -/
def segmentFor (n : Node) (room : Nat) : Option (Bytes × Node) :=
  if n.txState != 1 then none
  else if n.txSeg != 0 then
    let data := (n.txMsg.drop n.txPos).take n.txSeg
    let pl := le 1 n.txSeq ++ le 1 (b2n (n.txPos == 0) + 2 * b2n (n.txPos + n.txSeg ≥ n.txMsg.length))
      ++ le 2 n.txMsg.length ++ fit (max 16 data.length) data
    if downGroups pl.length ≤ room then some (pl, { n with txSends := n.txSends + 1 }) else none
  else
    let size := min (min 240 (n.txMsg.length - n.txPos)) (room - 20)
    if room < 36 then none
    else
      let data := (n.txMsg.drop n.txPos).take size
      let q := nextSeg n.txSeq
      let pl := le 1 q ++ le 1 (b2n (n.txPos == 0) + 2 * b2n (n.txPos + size ≥ n.txMsg.length))
        ++ le 2 n.txMsg.length ++ fit (max 16 size) data
      some (pl, { n with txSeq := q, txSeg := size, txSends := 1 })

/-! ### Records (Tables 15.6 to 15.9) -/

/-- A call whose assignment has been announced and that is not known to be complete (R171, R359). -/
def acked (k : Call) : Bool := (k.state == 1 || k.state == 2 || k.state == 5) && k.shown != 0xFF

/-- The hall call of a fixture's latch. -/
def hallCall (s : State) (m : PointMap) (down : Bool) : Option Call :=
  let ks := s.disp.calls.filter (fun k => k.kind == 0 && k.group == m.group && k.origin == m.landing
    && originSide k == m.side && bitAt k.flags 3 == down)
  match ks.find? liveCall with
  | some k => some k
  | none => ks.getLast?
/-- The car call of a station's latch. -/
def carCall (s : State) (c landing : Nat) : Option Call :=
  s.disp.calls.find? (fun k => k.kind == 1 && k.state ≤ 2 && k.namedCar == s.boardCar c && k.dest == landing)
/-- The latest destination entry of a fixture. -/
def entryCall (s : State) (p a : Nat) : Option Call :=
  (s.disp.calls.filter (fun k => k.kind == 2 && k.point == some (nodeKey p a))).getLast?

def ackedOpt (k : Option Call) : Bool := match k with | some k => acked k | none => false

/-- The acknowledgement of the latch at bit `pos` of a node's reply area. -/
def State.latchAck (s : State) (p a pos : Nat) : Bool :=
  let m := s.nodeMap p a
  match (s.node p a).profile with
  | 1 => if pos == 0 then ackedOpt (hallCall s m false) else if pos == 1 then ackedOpt (hallCall s m true)
      else ackedOpt (entryCall s p a)
  | 2 => match s.portCar p with | some c => ackedOpt (carCall s c (m.landing + pos)) | none => false
  | _ => false

/-- Lanterns of a fixture: the direction after the stop of a car that is serving its landing, and the gong.
(log entry 70: DEDUCED) -/
def lantern (s : State) (m : PointMap) : Nat :=
  let here := cars8.filterMap (fun c => match (s.dcar c).itin with
    | k :: _ => if (s.dcar c).serving && k.landing == m.landing && s.par 0x5001 c == (m.group : Int) then some k else none
    | [] => none)
  b2n (here.any (·.up)) + 2 * b2n (here.any (·.down)) + 4 * b2n (!here.isEmpty)

/-- The fixed part of a node's record. (log entry 70: DEDUCED) -/
def fixedRecord (s : State) (p a : Nat) : Bytes :=
  let m := s.nodeMap p a
  let n := s.node p a
  match n.profile with
  | 1 =>
    let e := entryCall s p a
    let on := ackedOpt e
    le 1 (b2n (s.latchAck p a 0) + 2 * b2n (s.latchAck p a 1) + 128 * b2n on) ++ le 1 (lantern s m)
      ++ le 1 (if on || n.entryRefused then n.entrySeq else 0)
      ++ le 1 (if n.entryRefused then 0xFE else if on then (match e with | some k => k.shown | none => 0xFF) else 0xFF)
  | 2 =>
    match s.portCar p with
    | none => zeros 8
    | some c =>
      let at_ := (s.landings c).find? (fun k => s.atLanding c k)
      let run := (s.hoist c).phase == .running
      le 6 (maskOf 48 (fun i => s.latchAck p a i)) ++ le 1 (at_.getD 0xFF)
        ++ le 1 (if !run then 0 else if s.moveDir c == 1 then 1 else 2)
  | 3 =>
    match (s.doorsAt p a).head? with
    | none => zeros 12
    | some d =>
      let x := s.door d
      let on := x.tableOk && x.state != .faulted
      le 2 x.address ++ leI 2 x.increment ++ le 2 x.amplitude ++ le 2 (s.parN 0x400D d) ++ le 2 (b2n on) ++ le 2 0
  | 4 =>
    match s.portCar p with
    | none => zeros 16
    | some c =>
      let h := s.hoist c
      let on := h.phase != .idle && h.phase != .waitReady && h.phase != .emergency
      le 2 (b2n on) ++ leI 2 h.torque ++ leI 4 h.refSpeed ++ leI 4 (s.fusedPos c) ++ le 4 (s.carFb c).sampleFrame
  | _ => []

/-- The whole record: the fixed part, then the output points of the map (R348). (log entry 70: DEDUCED) -/
def nodeRecord (s : State) (p a : Nat) : Bytes :=
  let base := fit (4 * (s.node p a).recordWords) (fixedRecord s p a)
  ((s.mapEntries p a).filter (·.dir == 2)).foldl (fun b e => putField b e (s.point (pointKey p a e.point)).output) base

/-! ### A cycle (R322 to R324, R328 to R333) -/

/-- The cycle number, derived from the device's own counts (R322). -/
def State.cycleNo (s : State) (p : Nat) : Nat :=
  (match s.portClass p with | 0 => s.frame / 4 | 1 => s.epoch / 8 | _ => s.epoch / 80) % 2 ^ 32

/-- Nodes lost leave the map, a restarting port's map is empty, a poll that nothing answered ends a run of bad discovery
replies (R334), and what each node's last slot showed is closed. -/
def closeCycle (s : State) (p : Nat) : State :=
  let q := s.lport p
  let map := if q.restarting then [] else q.map.filter (fun a => (s.node p a).state == 0)
  let quiet := map.all (fun a => let n := s.node p a
    n.lastGood == q.counted && !n.firstOnly && !n.secondOnly)
  let s := forEach map (fun s a => s.modNode p a (fun n =>
    let got := n.lastGood == q.counted
    { n with missed := false, fresh := false, onlyOne := if got then n.onlyOne else 0
             firstOnly := n.firstOnly && got, secondOnly := n.secondOnly && got })) s
  let s := match q.polling with | some a => s.modNode p a (fun n => { n with discBad := 0 }) | none => s
  let s := if q.restarting then
      forEach (q.map) (fun s a => s.modNode p a (fun _ => {})) s else s
  s.modPort p (fun q =>
    let run := if quiet then q.splitQuiet + 1 else 0
    { q with map := map, restarting := false, counted := q.counted + 1
             ringState := if q.ringState == 4 && run ≥ 16 then 0 else q.ringState
             splitQuiet := if q.ringState == 4 then run else 0 })

/-- The next address after `n` that is not in the map. -/
def nextAddr (map : List Nat) (n : Nat) : Option Nat :=
  ((List.range 256).map (fun i => (n + i) % 256)).find? (fun a => !map.contains a)

/-- The flags of a cycle header: repeat, both ends driving, probe. -/
def headerFlags (rep both probe : Bool) : Nat := b2n rep + 2 * b2n both + 4 * b2n probe

/-- Segments in slot-map order while their frames fit. -/
def addSegments (p cls cap wins cyc : Nat) : List Nat → State → Fill → List Bytes → State × Fill × List Bytes
  | [], s, f, out => (s, f, out)
  | a :: as, s, f, out =>
    let room := if cls == 0 then cap - f.used else max (cap - f.used) (if f.win + 1 < wins then cap else 0)
    match segmentFor (s.node p a) room with
    | none => addSegments p cls cap wins cyc as s f out
    | some (pl, n) =>
      match f.place cap wins (downGroups pl.length) with
      | none => addSegments p cls cap wins cyc as s f out
      | some g => addSegments p cls cap wins cyc as (s.modNode p a (fun _ => n)) g (out ++ [frameBytes 0x03 a cyc pl])

/-- The epoch window of each frame of a burst (R323). -/
def frameWindows (cap wins : Nat) : Fill → List Nat → List Nat
  | _, [] => []
  | f, n :: ns => match f.place cap wins n with
    | some g => g.win :: frameWindows cap wins g ns
    | none => wins :: frameWindows cap wins f ns

/-- The burst of a driving node port, or what is left of it from window `w` on for a device that takes over its cycle and
sends the poll chosen at the cycle's start (R339). -/
def burst (s : State) (p w : Nat) (resumed : Bool) : State :=
  let cls := s.portClass p
  let rate := (s.com 0x8003 p).toNat
  let cap := windowCg cls rate
  let wins := windowsOf cls
  let late := s.slack.linksLate
  let q := s.lport p
  let cyc := q.cycle
  let both := s.ringState p == 2
  let s := if late then s else forEach q.map (fun s a => tableDue (messageDue s p a) p a) s
  let recs := if late then q.recs else q.map.map (fun a => (a, le 1 (s.node p a).rxSeq ++ zeros 3 ++ nodeRecord s p a))
  let header := frameBytes 0x01 0 cyc (le 1 q.map.length ++ le 1 (headerFlags late both q.probing) ++ le 2 0
    ++ (q.map.map (fun a => le 1 a ++ le 1 (nodeWords (s.node p a)))).flatten)
  let poll := if resumed then q.polling else if !late && s.com 0x800A p == 1 then nextAddr q.map q.nextPoll else none
  let polls := match poll with | some a => [frameBytes 0x04 a cyc []] | none => []
  let fixedFrames := header :: recs.map (fun r => frameBytes 0x02 r.1 cyc r.2) ++ polls
  let fill := (({} : Fill).placeAll cap wins (fixedFrames.map (fun b => b.length + 4))).getD { used := cap, peak := cap }
  let sent := ((fixedFrames.zip (frameWindows cap wins {} (fixedFrames.map (fun b => b.length + 4)))).filter
    (fun e => w ≤ e.2)).map (·.1)
  let fill := if fill.win < w then { fill with win := w, used := 0 } else fill
  let (s, fill, segs) := if late then (s, fill, []) else addSegments p cls cap wins cyc q.map s fill []
  s.modPort p (fun q =>
    { q with recs := recs, down := sent ++ segs, downCg := fill.peak, polling := poll
             nextPoll := match poll with | some a => (a + 1) % 256 | none => q.nextPoll })

/-- A device that comes to drive a class B or C port in the course of its cycle sends the frames of the windows to come
(R339). -/
def resumeBurst (s : State) (p : Nat) : State :=
  let wins := windowsOf (s.portClass p)
  let w := (s.epoch + 80 - (s.com 0x8006 p).toNat) % wins
  if s.portUse p == 1 && s.ringHead p == p && s.portClass p != 0 && s.lineUsable p
      && (s.lport p).cycle == (s.epoch - w) / wins % 2 ^ 32 then burst s p w true else s

/-! ### Loss of a port or a node (R332, R354, R355, R298) -/

/-- R298: the active yields instead of reacting to a loss that its partner in step does not share. -/
def State.mayYield (s : State) (shared : Health → Bool) : Bool :=
  s.mode == .service && s.partnerRole == 0 && s.pair.inStep && !s.pair.yielding
    && (match s.pair.partnerHealth with | some r => !shared r && r.countL == 0 | none => false)

/-- The active tail-drops for a finding, to enter SHADOW (R298). -/
def tailDrop (s : State) (code sev : Nat) : State :=
  { s with pair := { s.pair with
      yielding := true, yieldCause := code, yieldSev := sev, yieldOnset := s.epoch, yieldMode := some (s.pair.yieldMode.getD .shadow) } }

/-- What the loss of a node does to its car: a drive node stops it in class 3, a door node unreferences its operator.
(log entry 45: DEDUCED) -/
def nodeGone (s : State) (p a : Nat) : State :=
  let n := s.node p a
  let s := if n.profile == 4 then match s.portCar p with | some c => s.requestStop c 3 | none => s else s
  let s := if n.profile == 3 then forEach (s.doorsAt p a) (fun s d =>
      let s := s.modDoor d (fun x => { x with nodeLost := true, tableDown := false })
      if (s.door d).referenced then losePosition s d else s) s else s
  if n.profile == 2 then match s.portCar p with
    | some c => if (s.hoist c).jogHost then s else jogDemand s c 0 false
    | none => s
  else s

/-- The finding of a lost node (R355). -/
def lostFinding (s : State) (p a : Nat) : Finding :=
  let n := s.node p a
  match s.portCar p with
  | some c =>
    if (n.profile == 4 || n.profile == 3) && s.configured c then
      { code := 0x8160, sev := 2, inst := p, car := some c, payload := le 1 a }
    else { code := 0x8160, sev := 1, inst := p, car := some c, payload := le 1 a }
  | none => { code := 0x8160, sev := 1, inst := p, payload := le 1 a }

/-- A node is lost (R354): event 0x8160 with its reaction; it leaves the map at the next cycle. -/
def loseNode (s : State) (p a : Nat) : State :=
  let f := lostFinding s p a
  let s := if (s.node p a).txState == 1 then endMessage s p a false else s
  let s := s.modNode p a (fun n => { n with state := 2, missed := true })
  let s := nodeGone (raise s f) p a
  if s.dispatches then budgetWatch s else s

/-- R332, class L: the port is unusable; a line's nodes are lost, a ring goes on at its other end.
(log entry 67: DEDUCED) -/
def losePort (s : State) (p : Nat) : State :=
  let heavy := (s.ringOf p).isNone && (s.mapNodes p).any (fun n => n.profile == 4 || n.profile == 3)
  let s := s.modPort p (fun q => { q with unusable := true, framesBadL := satN 32 (q.framesBadL + 1) })
  let yields := heavy && (s.portCar p).isSome && s.mayYield (fun r => r.degraded / 65536 % 256 != 0)
  let s := raise s { code := 0x8102, sev := 1, cls := 2, inst := p }
  let s := { s with proving := { s.proving with
      portsLost := if s.proving.portsLost.contains p then s.proving.portsLost else s.proving.portsLost ++ [p] } }
  if yields then tailDrop s 0x8102 2
  else if (s.ringOf p).isNone then forEach (s.lport p).map (fun s a => loseNode s p a) s
  else s

/-- R332: the comparison of a driving port's own transmission; the next cycle's is the repeat of a mismatch (R287). -/
def ownMismatch (s : State) (p : Nat) (bad : Bool) : State :=
  let q := s.lport p
  if !bad then
    if q.mismatchRun == 0 then s
    else raise (s.modPort p (fun q => { q with mismatchRun := 0, framesBadT := satN 32 (q.framesBadT + 1) }))
      { code := 0x8103, sev := 0, cls := 1, inst := p }
  else
    let s := s.modPort p (fun q => { q with mismatches := satN 16 (q.mismatches + 1), mismatchRun := q.mismatchRun + 1 })
    if q.mismatchRun ≥ 1 then losePort s p else s

/-! ### PORT_CYCLE_START -/

/-- A cycle of a port with nodes: counted where the header is sent or heard (R347). (log entry 67: DEDUCED) -/
def nodeCycle (s : State) (p : Nat) (port : Nat) (mismatch : Bool) (heard : List (BitVec 20 × U16)) : State :=
  let s := closeCycle s p
  let s := s.modPort p (fun q =>
    { q with cycle := s.cycleNo p
             probing := q.probeDue && !s.slack.linksLate && q.ringState == 2
             probeDue := q.probeDue && s.slack.linksLate && q.ringState == 2 })
  if s.driving then ownMismatch (burst s p 0 false) port mismatch
  else
    (forEach heard (fun s e => s.modPoint e.1.toNat (fun x => { x with output := e.2.toNat })) s).modPort p (fun q =>
      let poll := if s.com 0x800A p == 1 then nextAddr q.map q.nextPoll else none
      { q with polling := poll, nextPoll := match poll with | some a => (a + 1) % 256 | none => q.nextPoll })

/-- Packets of a queue that fit into `room` code groups, in order. (log entry 72: DEDUCED) -/
def fitting (room : Nat) : List OutPkt → Nat
  | [] => 0
  | p :: ps => if packetLen p + 16 ≤ room then 1 + fitting (room - (packetLen p + 16)) ps else 0

/-- A host channel's cycle: whole packets leave in order, an idle frame where there is none (R336).
(log entry 72: DEDUCED) -/
def hostCycle (s : State) (p : Nat) : State :=
  let cg := 1000000 / cgNs (s.com 0x8003 p).toNat
  let n := fitting cg s.host.link.out
  let frames := (s.host.link.out.take n).map (fun k => (0x20, packetBytes k))
  let frames := if frames.isEmpty then [(0x21, [])] else frames
  let s := forEach (List.range n) (fun s _ => popOut s .link) s
  s.modPort p (fun q =>
    { q with cycle := s.cycleNo p, hostCount := (q.hostCount + frames.length) % 2 ^ 32
             down := (List.range frames.length).map (fun i =>
               match frames[i]? with | some (t, b) => frameBytes t 0 ((q.hostCount + i) % 2 ^ 32) b | none => [])
             downCg := (frames.map (fun f => downGroups f.2.length)).foldl (· + ·) 0 })

/-- An inter-pair port's cycle (R337, R338): the timekeeper's group epoch (R282), a summary of each car in the groups that the port serves, once
this pair has joined them (R166, R182), and each item of the queue in two consecutive cycles with one `seq`. Item contents are
internal to the base image. -/
def pairCycle (s : State) (p : Nat) : State :=
  let peer := (s.com 0x8008 p).toNat
  let q := s.lport p
  let mine := s.disp.outItems.filter (fun e => e.1 == peer)
  let new_ := (List.range mine.length).filterMap (fun i =>
    (mine[i]?).map (fun e => (e.2.1, (q.itemSeq + i) % 256)))
  let sums := if s.disp.joined then
      (cars8.filter (fun c => s.configured c && s.par 0x5001 c != 0xFF && s.pairServes peer (s.parN 0x5001 c))).map (carSummary s)
    else []
  let s := { s with disp := { s.disp with outItems := s.disp.outItems.filter (fun e => e.1 != peer) } }
  s.modPort p (fun q =>
    { q with cycle := s.cycleNo p, again := new_, itemSeq := (q.itemSeq + mine.length) % 256
             sums := sums, sent := (if s.disp.timekeeper then [(0, 0)] else []) ++ sums.map (fun _ => (1, 0)) ++ q.again ++ new_ })

/-- A cycle of the port's class starts now (Table 14.3): the tick that ends the frame of the car's hoist sample, or the epoch
boundary of `port_phase`. -/
def State.cycleDue (s : State) (p : Nat) : Bool :=
  let phase := (s.com 0x8006 p).toNat
  match s.portClass p with
  | 0 => s.frame % 4 == ((s.com 0x8005 p).toNat + 1) % 4
  | 1 => s.frame % 4 == 0 && s.epoch % 8 == phase
  | _ => s.frame % 4 == 0 && s.epoch % 80 == phase

/-- PORT_CYCLE_START; `mismatch` says that the port's own transmission differs from what its pads receive, `heard` holds
the output points in the records that a device not driving the port receives (R339, R356). (log entry 67: DEDUCED) -/
def execPortCycleStart (port : Fin 64) (mismatch : Bool) (heard : List (BitVec 20 × U16)) (s : State) :
    Host.Outcome State Fault Refusal :=
  .next (if !(s.hears && s.cycleDue port) then s
    else match s.portUse port with
      | 1 =>
        let p := s.ringHead port
        if s.lineUsable p && ((port : Nat) == p || !s.portUsable p) then nodeCycle s p port mismatch heard else s
      | 2 => if s.portUsable port then ownMismatch (hostCycle s port) port mismatch else s
      | 3 => if s.driving && s.portUsable port then ownMismatch (pairCycle s port) port mismatch else s
      | _ => s)

/-! ### Rings (R329, R330) -/

/-- RING_HEADER_CHECK: the next cycle's check is the repeat of a miss (R287). -/
def ringCheck (s : State) (p : Nat) (heard : Bool) : State :=
  let q := s.lport p
  let s := s.modPort p (fun q => { q with secondaryHeard := heard })
  if q.ringState == 2 then
    if !q.probing then s
    else if !heard then s.modPort p (fun q => { q with probing := false, probePasses := 0 })
    else if q.probePasses + 1 ≥ 3 then
      event (s.modPort p (fun q => { q with probing := false, probePasses := 0, ringState := 0, missRun := 0 })) 0x8113 [] p
    else s.modPort p (fun q => { q with probing := false, probePasses := q.probePasses + 1 })
  else if heard then
    if q.missRun == 0 then s
    else raise (s.modPort p (fun q => { q with missRun := 0, framesBadT := satN 32 (q.framesBadT + 1) }))
      { code := 0x8111, sev := 0, cls := 1, inst := p }
  else if q.missRun == 0 then s.modPort p (fun q => { q with missRun := 1 })
  else
    raise (s.modPort p (fun q =>
      { q with missRun := 0, ringState := 2, breaks := satN 16 (q.breaks + 1), probePasses := 0
               framesBadL := satN 32 (q.framesBadL + 1) })) { code := 0x8112, sev := 1, cls := 2, inst := p }

def execRingHeaderCheck (port : Fin 64) (heard : Bool) (s : State) : Host.Outcome State Fault Refusal :=
  let p := s.ringHead port
  .next (if s.hears && s.portUse port == 1 && (s.ringState p == 1 || s.ringState p == 2 || s.ringState p == 4) then
    ringCheck s p heard else s)

/-- RING_PROBE: `ring_probe_ms` have passed with both ends driving. -/
def execRingProbe (port : Fin 64) (s : State) : Host.Outcome State Fault Refusal :=
  let p := s.ringHead port
  .next (if s.hears && s.portUse port == 1 && s.ringState p == 2 then
    s.modPort p (fun q => { q with probeDue := true }) else s)

/-- HOST_CHANNEL_DOWN (R336). -/
def execHostChannelDown (port : Fin 64) (s : State) : Host.Outcome State Fault Refusal :=
  .next (if s.hears && s.portUse port == 2 && s.host.linkUp then
    record { s with host := { s.host with linkUp := false } } { code := 0x8140, sev := 1, inst := (port : Nat) } else s)

/-! ### PORT_CONFIG and PORT_STATUS (R343) -/

/-- The ten keys of Table 14.6 for a port. -/
def portEntries (p : Nat) (use cls rate ring car phase : U8) (guardNs : U16) (peerPair poll : U8) (probeMs : U16) :
    List (Nat × Nat × Nat) :=
  [(0x8001, p, use.toNat), (0x8002, p, cls.toNat), (0x8003, p, rate.toNat), (0x8004, p, ring.toNat), (0x8005, p, car.toNat),
   (0x8006, p, phase.toNat), (0x8007, p, guardNs.toNat), (0x8008, p, peerPair.toNat), (0x8009, p, probeMs.toNat),
   (0x800A, p, poll.toNat)]

def actPortConfig (h : Hdr) (rsv : Bool) (use cls rate ring car phase : U8) (guardNs : U16) (peerPair poll : U8)
    (probeMs : U16) (s : State) : State :=
  serve s h { op := 0x60, insts := 64, len := 4, lenOk := h.len == 12, checks := [(rsv, stBadParam)], mirrored := true }
    (fun s =>
      let (s, st, _) := stageEntries s (portEntries h.inst.toNat use cls rate ring car phase guardNs peerPair poll probeMs)
      (s, refusal 4 st))

def execPortConfig (h : Hdr) (rsv : Bool) (use cls rate ring car phase : U8) (guardNs : U16) (peerPair poll : U8)
    (probeMs : U16) (s : State) : Host.Outcome State Fault Refusal :=
  hostRow s (.portConfig h rsv use cls rate ring car phase guardNs peerPair poll probeMs) h 0x60 4
    (actPortConfig h rsv use cls rate ring car phase guardNs peerPair poll probeMs)

/-- `state` of Table 14.7. -/
def portState (s : State) (p : Nat) : Nat :=
  if s.portUse p == 0 then 0 else if (s.lport p).restarting then 3 else if !s.portUsable p then 2 else 1

/-- This device drives the port's TX pads: of an intact ring only the primary's, and no secondary's in a probe cycle (R328 to
R332). -/
def State.portDrives (s : State) (port : Nat) : Bool :=
  let p := s.ringHead port
  s.portUsable port && match s.portUse port with
    | 0 => false
    | 1 => s.driving && (port == p || s.ringState p == 3 || (s.ringState p == 2 && !(s.lport p).probing))
    | 2 => s.hears
    | _ => s.driving

/-- The reply of Table 14.7. -/
def portReply (s : State) (port : Nat) : Bytes :=
  let p := s.ringHead port
  let q := s.lport p
  let cls := s.portClass p
  let rate := (s.com 0x8003 p).toNat
  let use := s.portUse p
  let heard := fun (f : Node → Bool) => le 32 (maskOf 256 (fun a => q.map.contains a && f (s.node p a)))
  le 1 stOk ++ le 1 (portState s port) ++ le 1 use ++ le 1 cls ++ le 1 rate ++ le 1 (s.ringState port)
    ++ le 2 q.map.length
    ++ le 2 (b2n (s.portDrives port) + 2 * b2n q.secondaryHeard + 4 * b2n q.probeDue + 8 * b2n (use == 1 && s.com 0x800A p == 1)
        + 16 * b2n q.budgetRefused + 32 * b2n (use == 2 && s.host.linkUp))
    ++ le 1 (if cls == 0 then (s.com 0x8005 p).toNat else if use == 3 then (s.com 0x8008 p).toNat else 0xFF)
    ++ le 1 q.nextPoll ++ le 4 q.cycle ++ le 2 (satN 16 q.downCg) ++ le 2 (windowCg cls rate)
    ++ le 4 (upEnd rate (s.com 0x8007 p).toNat ((s.mapNodes p).map nodeWords)) ++ le 4 (upLimit cls)
    ++ le 4 q.framesBadT ++ le 4 q.framesBadL ++ le 2 (s.lport port).mismatches ++ le 2 q.breaks ++ le 2 q.msgAborted
    ++ le 2 q.framesUnknown ++ heard (·.firstOnly) ++ heard (·.secondOnly)

def actPortStatus (h : Hdr) (rsv : Bool) (s : State) : State :=
  serve s h { op := 0x61, insts := 64, len := 108, lenOk := h.len == 0, checks := [(rsv, stBadParam)] }
    (fun s => (s, portReply s h.inst.toNat))

def execPortStatus (h : Hdr) (rsv : Bool) (s : State) : Host.Outcome State Fault Refusal :=
  hostRow s (.portStatus h rsv) h 0x61 108 (actPortStatus h rsv)

end Sys2Proof.Machine
end

