-- ==== Sys2Proof/Machine/Nodes.lean ====
section
/-! DEFINITION. Nodes and points (chapter 15): replies and the checks every input passes, latched calls, joins and
losses, and the host's access to points, maps and messages. -/

namespace Sys2Proof.Machine

/-! ### Input checks (R350 to R353) -/

/-- A 16-bit value as its entry reads it. -/
def entryValue (e : MapEntry) (v : Nat) : Int := if bitAt e.pflags 0 then toSigned 16 v else (v : Int)

/-- The value lies in `range_min` to `range_max`. -/
def inRange (e : MapEntry) (v : Nat) : Bool := decide (e.rangeMin ≤ entryValue e v ∧ entryValue e v ≤ e.rangeMax)

/-- One good reply's raw value enters a point: filter, chatter, range, and the end of a stuck state. -/
def takeRaw (counted filter : Nat) (e : MapEntry) (raw : Nat) (p : Point) : Point :=
  let changed := p.rawRun != 0 && raw != p.raw
  let changes := ((if changed then [counted] else []) ++ p.changes).filter (fun c => decide (counted < c + 16 * filter))
  let last := if changed then counted else p.lastChange
  let chatter := (p.chatter && decide (counted < last + 16 * filter)) || decide (8 < changes.length)
  let run := if p.rawRun != 0 && raw == p.raw then min 64 (p.rawRun + 1) else 1
  let takes := decide (filter ≤ run)
  let ok := inRange e raw
  { p with
    raw := raw, rawRun := run, changes := changes, lastChange := last, chatter := chatter
    stable := if chatter && !p.chatter then p.acceptedVal else p.stable
    accepted := p.accepted || takes
    acceptedVal := if takes then raw else p.acceptedVal
    lastIn := if takes && ok then raw else p.lastIn
    range := if takes then !ok else p.range
    stuck := p.stuck && !(takes && raw == restOf e) }

/-- A point's events: 0x8163 on entry into chatter, 0x8164 on entry into range outside chatter. -/
def sampleInput (s : State) (p a : Nat) (e : MapEntry) : State :=
  let k := pointKey p a e.point
  let raw := fieldOf (s.node p a).reply e
  let old := s.point k
  let wasChatter := s.inChatter k
  let s := s.modPoint k (takeRaw (s.lport p).counted (s.filterOf p e) e raw)
  let new_ := s.point k
  let s := if new_.chatter && !wasChatter then record s { code := 0x8163, sev := 1, inst := p, payload := le 4 k } else s
  if new_.range && !old.range && !new_.chatter then event s 0x8164 (le 4 k) p else s

/-! ### Latched calls (R359, R363, R278) -/

/-- The call that a latch at bit `pos` of the reply area stands for. -/
def latchCall (s : State) (p a pos : Nat) : Option Call :=
  let n := s.node p a
  let m := s.nodeMap p a
  let side := b2n (m.side == 1)
  let key := some (nodeKey p a)
  match n.profile with
  | 1 =>
    if pos < 2 then some { newCall 0 m.group m.landing 0xFF 0xFF 0 (2 * side + 8 * pos) 0xFF 0 with point := key }
    else if pos == 47 then
      let f := rd n.reply 5 1
      some { newCall 2 m.group m.landing (rd n.reply 2 1) (rd n.reply 3 1) (rd n.reply 4 1)
        (f % 2 + 2 * side + 4 * (f / 4 % 2)) 0xFF 0 with point := key }
    else none
  | 2 =>
    match s.portCar p with
    | some c => if pos < 48 then
        some { newCall 1 (s.parN 0x5001 c) 0xFF (m.landing + pos) 0xFF 0 (4 * side) (s.boardCar c) 0 with point := key }
      else none
    | none => none
  | _ => none

/-- A destination entry of the node that is not yet acknowledged is the same entry. -/
def sameEntry (s : State) (p a : Nat) (k : Call) : Bool :=
  k.kind == 2 && (match entryCall s p a with | some x => x.state ≤ 1 && !acked x | none => false)

/-- The call is refused: a full table is event 0x5101, a destination entry shows `assigned` 0xFE. -/
def refuseLatch (s : State) (p a : Nat) (k : Call) (st : Nat) : State :=
  let s := if st == stFull then record s { code := 0x5101, sev := 1, inst := p, payload := le 1 a } else s
  if k.kind == 2 then s.modNode p a (fun n => { n with entryRefused := true }) else s

/-- A latch whose point has been accepted enters its call. -/
def enterLatch (s : State) (p a pos : Nat) : State :=
  match latchCall s p a pos with
  | none => s
  | some k =>
    let s := if k.kind == 2 then
        s.modNode p a (fun n => { n with entrySeq := rd n.reply 6 1, entryRefused := false }) else s
    let bad := firstFail (callFields k.kind k.origin k.dest k.destGroup k.pax k.flags k.namedCar k.level)
    match (if bad.isSome then bad else namedRefusal s k) with
    | some st => refuseLatch s p a k st
    | none =>
      if sameEntry s p a k then s
      else
        match enterCall s k with
        | (s', .inl _) => s'
        | (_, .inr st) => refuseLatch s p a k st

/-- A latched-call input after a reply: its call is entered once, when it is accepted non-zero at good quality. -/
def latchInput (s : State) (p a : Nat) (e : MapEntry) : State :=
  let k := pointKey p a e.point
  let q := s.point k
  if !bitAt e.pflags 1 then s
  else if q.acceptedVal == 0 then (if q.entered then s.modPoint k (fun x => { x with entered := false }) else s)
  else if s.pointQuality k == 0 && !q.entered && s.dispatches then
    enterLatch (s.modPoint k (fun x => { x with entered := true })) p a (e.offset * 8 + e.bit)
  else s

/-! ### What a reply brings besides points -/

/-- A drive's fault or stop with the contactor energised stops its car (R361). -/
def driveReply (s : State) (p a : Nat) : State :=
  match s.portCar p with
  | none => s
  | some c =>
    let st := rd (s.node p a).reply 0 2
    let s := if (bitAt st 2 || bitAt st 4) && s.outOn (outOf c 0) && (s.hoist c).stopReq != some 3 then
        (raise s { code := 0x8165, sev := 2, inst := p, car := some c
                   payload := le 2 st ++ le 2 (rd (s.node p a).reply 4 2) }).requestStop c 3
      else s
    if s.hoistRuns then checkReady s c else s

/-- The direction that the station's buttons demand (R118): Common and exactly one of Up and Down. -/
def buttonDir (s : State) (p a : Nat) : Nat :=
  let on := fun (n : Nat) => s.pointVal (pointKey p a n) != 0
  if on 52 && on 50 && !on 51 then 1 else if on 52 && on 51 && !on 50 then 2 else 0

/-- A car station's buttons jog its car in the Inspection regime. -/
def stationReply (s : State) (p a : Nat) : State :=
  match s.portCar p with
  | none => s
  | some c =>
    let h := s.hoist c
    let d := buttonDir s p a
    let s := if s.hoistRuns then checkReady s c else s
    if !(s.hoistRuns && (s.dcar c).regime == .inspection) then s
    else if d == 0 then (if h.jogHost || (h.jogDir == 0 && h.jogIgnored == 0) then s else jogDemand s c 0 false)
    else if !s.startable c || jogBusy s c then s
    else jogDemand s c d false

/-- Acknowledgement and message of a reply (R335). (log entry 69: DESIGN CHOICE) -/
def replyMessages (s : State) (f : NodeFrame) (p a : Nat) : State :=
  let n := s.node p a
  let area := f.data.drop (4 * n.replyWords)
  let s := if f.msgBytes != 0 && f.seq != 0 && f.seq.toNat != n.rxSeq then
      let part := n.rxPart ++ area.take f.msgBytes.toNat
      s.modNode p a (fun n =>
        { n with rxSeq := f.seq.toNat, rxPart := if f.segLast then [] else part, rxMsg := if f.segLast then part else n.rxMsg })
    else s
  let n := s.node p a
  if n.txState == 1 && n.txSeg != 0 && f.ackSeq.toNat == n.txSeq then
    let pos := n.txPos + n.txSeg
    let s := s.modNode p a (fun n => { n with txPos := pos, txSeg := 0, txSends := 0 })
    if pos ≥ n.txMsg.length then endMessage s p a true else s
  else s

/-- Which ends heard the reply, and the split of R331. -/
def heardAt (s : State) (f : NodeFrame) (p a : Nat) : State :=
  let ring := (s.ringOf p).isSome
  let one := ring && f.primary != f.secondary
  let run := if one then (s.node p a).onlyOne + 1 else 0
  let s := s.modNode p a (fun n =>
    { n with onlyOne := min run 2, firstOnly := if ring then one && f.primary else true, secondOnly := one && f.secondary })
  if run ≥ 2 && s.ringState p == 1 then
    record (s.modPort p (fun q => { q with ringState := 4, splitQuiet := 0 })) { code := 0x8114, sev := 1, inst := p }
  else s

/-- A good reply (R334, R347, R350 to R353). -/
def goodReply (s : State) (f : NodeFrame) (p a : Nat) : State :=
  let n := s.node p a
  let s := if n.badRun == 1 then
      raise (s.modPort p (fun q => { q with framesBadT := satN 32 (q.framesBadT + 1) }))
        { code := 0x8110, sev := 0, cls := 1, inst := p, payload := le 1 a }
    else s
  let s := s.modNode p a (fun n =>
    { n with lastGood := (s.lport p).counted, missed := false, badRun := 0, reply := f.data.take (4 * n.replyWords) })
  let s := replyMessages (heardAt s f p a) f p a
  let ins := (s.mapEntries p a).filter (·.dir == 1)
  let s := forEach ins (fun s e => sampleInput s p a e) s
  let s := forEach ins (fun s e => latchInput s p a e) s
  let s := if n.profile == 4 then driveReply s p a else if n.profile == 2 then stationReply s p a else s
  if s.dispatches then budgetWatch s else s

/-- A bad reply (R334): the second in a row is class L. -/
def badReply (s : State) (p a : Nat) : State :=
  let n := s.node p a
  let s := s.modNode p a (fun n => { n with missed := true, badRun := min 2 (n.badRun + 1), onlyOne := 0 })
  if n.badRun == 1 then
    raise (s.modPort p (fun q => { q with framesBadL := satN 32 (q.framesBadL + 1) }))
      { code := 0x8120, sev := 1, cls := 2, inst := p, payload := le 1 a }
  else s

/-- A frame's `length` is what the node announced (R321). -/
def lengthOk (n : Node) (f : NodeFrame) : Bool := f.data.length == 4 * (n.replyWords + n.msgWords)

def nodeReply (s : State) (f : NodeFrame) : State :=
  let p := s.ringHead f.port
  let a := f.addr.toNat
  let q := s.lport p
  if !(s.hears && s.portUse p == 1 && s.lineUsable p) then s
  else if !f.known then s.modPort p (fun q => { q with framesUnknown := satN 16 (q.framesUnknown + 1) })
  else if !q.map.contains a || (s.node p a).state != 0 || (s.node p a).lastGood == q.counted || (s.node p a).missed then s
  else if f.good && (f.primary || f.secondary) && lengthOk (s.node p a) f then goodReply s f p a
  else badReply s p a

/-- NODE_REPLY. -/
def execNodeReply (f : NodeFrame) (s : State) : Host.Outcome State Fault Refusal := .next (nodeReply s f)

/-! ### Joining (R333, R334, R358) -/

/-- The profile's word ranges and port classes (Table 15.5). -/
def profileRange (d : Discovery) : Bool :=
  let r := d.replyWords.toNat
  let w := d.recordWords.toNat
  let m := d.msgWords.toNat
  match d.profile.toNat with
  | 1 => r == 2 && w == 2 && m ≤ 4
  | 2 => r == 8 && w == 6 && m == 4
  | 3 => r == 6 && w == 3 && m == 4
  | 4 => r == 10 && w == 8 && m == 4
  | 5 => 1 ≤ r && r ≤ 14 && w ≤ 14 && m ≤ 4
  | 6 => 2 ≤ r && r ≤ 14 && w ≤ 14 && m ≤ 4
  | 7 => 1 ≤ r && r ≤ 14 && w ≤ 14 && m ≤ 8
  | 8 => 1 ≤ r && r ≤ 14 && w ≤ 14 && m ≤ 32
  | _ => false

def profileClass (profile cls : Nat) : Bool :=
  match profile with
  | 1 => cls == 1
  | 2 | 3 | 4 => cls == 0
  | 5 => true
  | _ => cls == 1 || cls == 2

/-- The first condition of R358 that a node fails, numbered from 1 in the order of the rule. -/
def profileFail (s : State) (p : Nat) (d : Discovery) : Option Nat :=
  let m := s.nodeMap p d.addr.toNat
  let prof := d.profile.toNat
  if !(1 ≤ prof && prof ≤ 8) || d.rev != 1 then some 1
  else if !profileRange d || 255 < 1 + d.replyWords.toNat + d.msgWords.toNat then some 2
  else if !profileClass prof (s.portClass p) then some 3
  else if m.expectProfile != 0 && m.expectProfile != prof then some 4
  else if s.com 0x8100 p == 1 && !m.present then some 5
  else if prof == 4 && s.links.nodes.any (fun e => e.2.profile == 4 && e.2.state == 0
      && s.portCar (e.1 / 256) == s.portCar p && e.1 != nodeKey p d.addr.toNat) then some 6
  else none

/-- The points of a node start anew (R350): stale with value 0; forces and outputs stay. -/
def restartPoints (s : State) (p a : Nat) : State :=
  forEach (List.range 64) (fun s n => s.modPoint (pointKey p a n) (fun x => { forced := x.forced, output := x.output })) s

/-- The node joins at the end of the map (R333), with event 0x8121; a door power node's table is downloaded (R133). -/
def joinNode (s : State) (p : Nat) (d : Discovery) : State :=
  let a := d.addr.toNat
  let c := (s.lport p).counted
  let s := s.modNode p a (fun _ =>
    { state := 0, profile := d.profile.toNat, rev := d.rev.toNat, replyWords := d.replyWords.toNat
      recordWords := d.recordWords.toNat, msgWords := d.msgWords.toNat, uid := d.uid, lastGood := c, fresh := true })
  let s := restartPoints (s.modPort p (fun q => { q with map := q.map ++ [a], polling := none })) p a
  let s := event s 0x8121 (le 1 a) p
  if d.profile == 3 then
    forEach (s.doorsAt p a) downloadNow s
  else s

/-- A bad discovery reply: two consecutive polls of one address with one are event 0x8123 (R334). -/
def badDiscovery (s : State) (p a : Nat) : State :=
  let bad := (s.node p a).discBad
  let s := s.modNode p a (fun n => { n with discBad := min 2 (n.discBad + 1) })
  if bad == 1 then record s { code := 0x8123, sev := 1, inst := p, payload := le 1 a } else s

/-- A good one: the profile check of R358, then the budget of R327. -/
def goodDiscovery (s : State) (p : Nat) (d : Discovery) : State :=
  let a := d.addr.toNat
  let s := s.modNode p a (fun n => { n with discBad := 0 })
  match profileFail s p d with
  | some c => record s { code := 0x8161, sev := 1, inst := p, payload := le 1 a ++ le 1 c }
  | none =>
    let n : Node := { replyWords := d.replyWords.toNat, recordWords := d.recordWords.toNat, msgWords := d.msgWords.toNat }
    if scheduleOk (s.portClass p) (s.com 0x8003 p).toNat (s.com 0x8007 p).toNat (s.mapNodes p ++ [n]) then joinNode s p d
    else if (s.node p a).refused then s
    else
      record ((s.modNode p a (fun n => { n with refused := true })).modPort p (fun q => { q with budgetRefused := true }))
        { code := 0x8122, sev := 1, inst := p, payload := le 1 a }

/-- The reply to this cycle's poll. -/
def discoveryReply (s : State) (d : Discovery) : State :=
  let p := s.ringHead d.port
  let a := d.addr.toNat
  let q := s.lport p
  if !(s.hears && s.portUse p == 1 && s.lineUsable p && q.polling == some a && !q.map.contains a) then s
  else
    let s := s.modPort p (fun q => { q with polling := none })
    if d.good then goodDiscovery s p d else badDiscovery s p a

/-- DISCOVERY_REPLY. -/
def execDiscoveryReply (d : Discovery) (s : State) : Host.Outcome State Fault Refusal := .next (discoveryReply s d)

/-- NODE_LOST (R354): missing or bad in three consecutive counted cycles. -/
def execNodeLost (port : Fin 64) (addr : U8) (s : State) : Host.Outcome State Fault Refusal :=
  let p := s.ringHead port
  let a := addr.toNat
  let n := s.node p a
  let miss := nodeMisses (s.lport p) n + (if n.missed || n.lastGood == (s.lport p).counted then 0 else 1)
  .next (if s.hears && s.portUse p == 1 && n.state == 0 && (s.lport p).map.contains a && miss ≥ 3 then loseNode s p a else s)

/-- POINT_STUCK (R352): active for longer than `max_active`. -/
def execPointStuck (point : BitVec 20) (s : State) : Host.Outcome State Fault Refusal :=
  let k := point.toNat
  let p := k / 16384
  let a := k / 64 % 256
  let q := s.point k
  .next (match s.pointEntry k 1 with
    | none => s
    | some e =>
      if s.hears && s.maxActiveOf p e != 0 && q.accepted && q.acceptedVal != restOf e && !q.stuck
          && (!bitAt e.pflags 1 || s.latchAck p a (e.offset * 8 + e.bit)) then
        record (s.modPoint k (fun x => { x with stuck := true })) { code := 0x8162, sev := 1, inst := p, payload := le 4 k }
      else s)

/-! ### NODE_LIST and POINT_READ (Table 15.11) -/

/-- An entry of `NODE_LIST`. -/
def nodeEntry (s : State) (p a : Nat) : Bytes :=
  let n := s.node p a
  let st := rd n.reply (if n.profile == 4 then 0 else 6) 2
  let held := if n.profile == 4 then bitAt st 3 || bitAt st 4 else n.profile == 3 && (bitAt st 1 || bitAt st 2)
  le 1 a ++ le 1 n.profile ++ le 1 n.rev ++ le 1 (s.nodeState p a) ++ le 1 (nodeWords n) ++ le 1 n.recordWords
    ++ le 1 (satN 8 (nodeMisses (s.lport p) n)) ++ le 1 (b2n (s.nodeMap p a).present + 2 * b2n held) ++ le 8 n.uid.toNat

def nodeListReply (s : State) (port first count : Nat) : Bytes :=
  let p := s.ringHead port
  let as := ((List.range 256).filter (fun a => first ≤ a && (s.node p a).state != 3)).take count
  le 1 stOk ++ le 1 as.length ++ le 2 (s.lport p).map.length ++ (as.map (nodeEntry s p)).flatten

def actNodeList (h : Hdr) (rsv : Bool) (first count : U8) (s : State) : State :=
  serve s h { op := 0x62, insts := 64, len := 4, lenOk := h.len == 4
              checks := [(rsv, stBadParam), (count == 0 || count.toNat > 128, stRange)] }
    (fun s => (s, nodeListReply s h.inst.toNat first.toNat count.toNat))

def execNodeList (h : Hdr) (rsv : Bool) (first count : U8) (s : State) : Host.Outcome State Fault Refusal :=
  hostRow s (.nodeList h rsv first count) h 0x62 4 (actNodeList h rsv first count)

/-- The range reaches beyond its port or beyond the last point. -/
def crossesPort (point count : Nat) : Bool := point / 2 ^ 20 != 0 || point / 16384 != (point + count - 1) / 16384

def actPointRead (h : Hdr) (rsv : Bool) (point : U32) (count : U16) (s : State) : State :=
  serve s h { op := 0x63, insts := 1, len := 12, lenOk := h.len == 8
              checks := [(rsv, stBadParam), (count == 0 || count.toNat > 1016 || crossesPort point.toNat count.toNat, stRange)] }
    (fun s =>
      (s, le 4 0 ++ le 4 point.toNat ++ le 2 count.toNat ++ le 2 0
        ++ ((List.range count.toNat).map (fun i => le 4 (s.pointWord (point.toNat + i)))).flatten))

def execPointRead (h : Hdr) (rsv : Bool) (point : U32) (count : U16) (s : State) : Host.Outcome State Fault Refusal :=
  hostRow s (.pointRead h rsv point count) h 0x63 12 (actPointRead h rsv point count)

/-! ### POINT_WRITE (R356) -/

/-- An output point that a loop delivers (Table 05.2) or that `door_nudge_point` names. -/
def ownedOutput (s : State) (k : Nat) : Bool :=
  (List.range 64).any (fun l => s.com 0x2100 l != 0 && s.com 0x210A l / 256 == 3
      && s.com 0x2031 (s.com 0x210A l % 256).toNat == (k : Int))
    || (List.range 16).any (fun d => s.com 0x4053 d == (k : Int))

/-- The reply of `POINT_WRITE`. -/
def pointReply (s : State) (k : Nat) (output : Bool) : Bytes :=
  le 4 0 ++ le 4 (if output then (s.point k).output else s.pointWord k)

def actPointWriteOutput (h : Hdr) (rsv : Bool) (point : U32) (value : U16) (s : State) : State :=
  serve s h { op := 0x64, insts := 1, len := 8, lenOk := h.len == 8, mirrored := true
              checks := [(rsv, stBadParam), (point.toNat / 2 ^ 20 != 0, stRange)] }
    (fun s =>
      let k := point.toNat
      if ownedOutput s k then (s, refusal 8 stBadParam)
      else
        let s := s.modPoint k (fun p => { p with output := value.toNat })
        (s, pointReply s k true))

/-- `POINT_WRITE` action 0: what R356 does not refuse is stored, whatever map is in force. -/
def execPointWriteOutput (h : Hdr) (rsv : Bool) (point : U32) (value : U16) (s : State) :
    Host.Outcome State Fault Refusal :=
  hostRow s (.pointWriteOutput h rsv point value) h 0x64 8 (actPointWriteOutput h rsv point value)

def actPointForce (h : Hdr) (rsv : Bool) (point : U32) (value : U16) (s : State) : State :=
  serve s h { op := 0x64, insts := 1, len := 8, lenOk := h.len == 8
              checks := [(rsv, stBadParam), (point.toNat / 2 ^ 20 != 0, stRange)] }
    (fun s =>
      let k := point.toNat
      if s.mode != .commission then (s, refusal 8 stWrongMode)
      else if (s.pointEntry k 1).isNone then (s, refusal 8 stBadParam)
      else
        let s := s.modPoint k (fun p => { p with forced := some value.toNat })
        (s, pointReply s k false))

/-- `POINT_WRITE` action 1: in COMMISSION mode only. -/
def execPointForce (h : Hdr) (rsv : Bool) (point : U32) (value : U16) (s : State) : Host.Outcome State Fault Refusal :=
  hostRow s (.pointForce h rsv point value) h 0x64 8 (actPointForce h rsv point value)

def actPointForceRelease (h : Hdr) (rsv : Bool) (point : U32) (value : U16) (s : State) : State :=
  serve s h { op := 0x64, insts := 1, len := 8, lenOk := h.len == 8
              checks := [(rsv || value != 0, stBadParam), (point.toNat / 2 ^ 20 != 0, stRange)] }
    (fun s =>
      let k := point.toNat
      if s.mode != .commission then (s, refusal 8 stWrongMode)
      else
        let s := s.modPoint k (fun p => { p with forced := none })
        (s, pointReply s k false))

/-- `POINT_WRITE` action 2. -/
def execPointForceRelease (h : Hdr) (rsv : Bool) (point : U32) (value : U16) (s : State) :
    Host.Outcome State Fault Refusal :=
  hostRow s (.pointForceRelease h rsv point value) h 0x64 8 (actPointForceRelease h rsv point value)

/-! ### POINT_MAP_WRITE (R348) -/

/-- The map entry of 16 bytes (Table 15.3). (log entry 71: DEDUCED) -/
def decodeEntry (b : Bytes) : MapEntry :=
  let signed := bitAt (rd b 5 1) 0
  let range := fun (o : Nat) => if signed then toSigned 16 (rd b o 2) else (rd b o 2 : Int)
  { point := rd b 0 1, dir := rd b 1 1, offset := rd b 2 1, bit := rd b 3 1, width := rd b 4 1, pflags := rd b 5 1
    filter := rd b 6 1, maxActive := rd b 8 2, rangeMin := range 10, rangeMax := range 12, rest := toSigned 16 (rd b 14 2) }

/-- Checks 7 and 8 of an entry. -/
def entryUndefined (b : Bytes) : Bool := rd b 1 1 > 2 || rd b 5 1 > 3 || rd b 7 1 != 0
def entryBeyond (b : Bytes) : Bool :=
  rd b 1 1 != 0 && (rd b 0 1 > 63 || rd b 3 1 > 7 || rd b 4 1 == 0 || rd b 4 1 > 16 || rd b 6 1 > 64
    || (rd b 8 2 > 36000 && rd b 8 2 != 0xFFFF))

def actPointMapWrite (h : Hdr) (rsv : Bool) (node expectProfile landing group side : U8) (nEntries : U16)
    (entries : List Bytes) (s : State) : State :=
  serve s h { op := 0x65, insts := 64, len := 4, lenOk := h.len == 8 + 16 * nEntries.toNat, mirrored := true
              checks := [(rsv || side.toNat > 1 || expectProfile.toNat > 8 || entries.any entryUndefined, stBadParam),
                (nEntries.toNat > 64 || group.toNat > 3 || entries.any entryBeyond, stRange)] }
    (fun s =>
      if s.params.commit.isSome then (s, refusal 4 stBusy)
      else
        let m : PointMap :=
          { present := nEntries != 0, expectProfile := expectProfile.toNat, landing := landing.toNat, group := group.toNat
            side := side.toNat, entries := (entries.map decodeEntry).filter (fun e => e.dir != 0) }
        let k := nodeKey (s.ringHead h.inst.toNat) node.toNat
        ({ s with params := { s.params with staged := { s.params.staged with
            maps := tset (dft {}) s.params.staged.maps k m } } }, refusal 4 stOk))

def execPointMapWrite (h : Hdr) (rsv : Bool) (node expectProfile landing group side : U8) (nEntries : U16)
    (entries : List Bytes) (s : State) : Host.Outcome State Fault Refusal :=
  if Instr.wellFormed (.pointMapWrite h rsv node expectProfile landing group side nEntries entries) then
    hostRow s (.pointMapWrite h rsv node expectProfile landing group side nEntries entries) h 0x65 4
      (actPointMapWrite h rsv node expectProfile landing group side nEntries entries)
  else .fault .illFormed

/-! ### NODE_MESSAGE (R366) -/

/-- The reply's first four bytes. -/
def msgReply (st state len : Nat) : Bytes := le 1 st ++ le 1 state ++ le 2 len

def actNodeMessageSend (h : Hdr) (rsv : Bool) (node : U8) (msgLen : U16) (data : Bytes) (s : State) : State :=
  serve s h { op := 0x66, insts := 64, len := 4, lenOk := h.len == 4 + msgLen.toNat, mirrored := true
              checks := [(rsv, stBadParam), (msgLen == 0 || msgLen.toNat > 4080, stRange)] }
    (fun s =>
      let p := s.ringHead h.inst.toNat
      let a := node.toNat
      let n := s.node p a
      if n.state != 0 || n.profile == 3 || n.profile == 4 || s.portUse p != 1 then (s, refusal 4 stBadParam)
      else if !s.lineUsable p then (s, refusal 4 stFaulted)
      else if n.txState == 1 then (s, msgReply stBusy 1 0)
      else
        (s.modNode p a (fun n =>
          { n with txState := 1, txMsg := data, txPos := 0, txSeg := 0, txSends := 0, txHost := some (h.chan, h.seq) }),
          msgReply stPending 1 0))

/-- `NODE_MESSAGE` action 0. -/
def execNodeMessageSend (h : Hdr) (rsv : Bool) (node : U8) (msgLen : U16) (data : Bytes) (s : State) :
    Host.Outcome State Fault Refusal :=
  if Instr.wellFormed (.nodeMessageSend h rsv node msgLen data) then
    hostRow s (.nodeMessageSend h rsv node msgLen data) h 0x66 4 (actNodeMessageSend h rsv node msgLen data)
  else .fault .illFormed

def actNodeMessageRead (h : Hdr) (rsv : Bool) (node : U8) (msgLen : U16) (s : State) : State :=
  serve s h { op := 0x66, insts := 64, len := 4, isRead := true, lenOk := h.len == 4
              checks := [(rsv || msgLen != 0, stBadParam)] }
    (fun s =>
      let n := s.node (s.ringHead h.inst.toNat) node.toNat
      let m := n.rxMsg.take 4080
      (s, msgReply stOk n.txState m.length ++ m))

/-- `NODE_MESSAGE` action 1. -/
def execNodeMessageRead (h : Hdr) (rsv : Bool) (node : U8) (msgLen : U16) (s : State) : Host.Outcome State Fault Refusal :=
  hostRow s (.nodeMessageRead h rsv node msgLen) h 0x66 4 (actNodeMessageRead h rsv node msgLen)

end Sys2Proof.Machine
end

