-- ==== Sys2Proof/Machine/Takeover.lean ====
section
/-! DEFINITION. What a device does when it becomes the active of its pair (R265, R271, R274, R276 to R278, R135), and
the rebuilding of calls from latched points that a lost call table also uses (R278, Table 12.4). -/

namespace Sys2Proof.Machine

/-! ### `PAIR_STATUS` (Table 11.10), which the takeover NOTIFY carries -/

/-- A slot croaked in the last period. -/
def croakedLast (k : Croak) : Bool := match k.roles with | r :: _ => r != 0xFF | [] => false

/-- The slots that a request counts as arbiters (R266). -/
def arbiters (s : State) : List Nat :=
  (List.range 9).filter (fun n =>
    let k := s.croak n
    croakedLast k && (if n == 8 then s.par 0x7003 0 == 1
      else n / 2 != s.pairNo && k.role != 3 && bitAt (s.parN 0x7004 0) n))

/-- R259: no device of a lower slot croaked in the last period. (log entry 28: DEDUCED) -/
def State.timekeeper (s : State) : Bool :=
  s.ownRole != 0xFF && !(List.range s.pins.pos.toNat).any (fun n => croakedLast (s.croak n))

/-- Log entry 28: DEDUCED. -/
def pairFlags (s : State) : Nat :=
  let p := s.pair
  b2n p.paired + 2 * b2n p.inStep + 4 * b2n (p.lanes.getLsbD 0) + 8 * b2n (p.lanes.getLsbD 1)
    + 16 * b2n (p.crkGood.getLsbD 0) + 32 * b2n (p.crkGood.getLsbD 1) + 64 * b2n s.timekeeper
    + 128 * b2n (p.hand == 1 || p.hand == 2 || p.incoming)

def pairReply (s : State) : Bytes :=
  let p := s.pair
  le 1 stOk ++ le 1 (modeCode s.mode) ++ le 1 s.ownRole ++ le 1 s.partnerRole ++ le 1 s.pairNo ++ le 1 p.pairTag
    ++ le 1 (pairFlags s) ++ le 1 (maskOf 8 (fun n => croakedLast (s.croak n))) ++ le 4 s.epoch ++ le 4 p.lastCommit
    ++ le 8 p.partnerUnit ++ le 2 p.takeovers ++ le 2 p.staleTakeovers ++ le 1 p.lastKind
    ++ le 1 (maskOf 8 (fun n => (arbiters s).contains n)) ++ le 1 (b2n (croakedLast (s.croak 8))) ++ le 1 0
    ++ le 4 p.takeoverUs ++ le 4 s.disp.groupEpoch

/-! ### Latched calls (R278) -/

/-- A live call of the table accounts for a latched destination entry: the same node, destination and passengers. -/
def accountedFor (s : State) (k : Call) : Bool :=
  k.kind == 2 && s.disp.calls.any (fun c => liveCall c && c.kind == 2 && c.point == k.point && c.dest == k.dest && c.pax == k.pax)

/-- One latched-call input of a joined node: entered unless a call accounts for it; hall and car calls merge (R158). -/
def relatch (s : State) (p a : Nat) (e : MapEntry) : State :=
  let k := pointKey p a e.point
  let q := s.point k
  if bitAt e.pflags 1 && q.accepted && q.acceptedVal != 0 && s.pointQuality k == 0 then
    let s := s.modPoint k (fun x => { x with entered := true })
    let pos := e.offset * 8 + e.bit
    match latchCall s p a pos with
    | some c => if accountedFor s c then s else enterLatch s p a pos
    | none => s
  else s

/-- Every latched-call point of a fixture or car station node that no call accounts for enters a call. -/
def enterLatches (s : State) : State :=
  forEach (s.links.nodes.filter (fun n => n.2.state == 0)) (fun s n =>
    let p := n.1 / 256
    let a := n.1 % 256
    forEach ((s.mapEntries p a).filter (fun e => e.dir == 1)) (fun s e => relatch s p a e) s) s

/-! ### The parts of a takeover -/

/-- Joins that no header has carried do not happen (Table 14.5). -/
def dropFresh (s : State) : State :=
  forEach (s.links.nodes.filter (fun n => n.2.fresh)) (fun s n =>
    let p := n.1 / 256
    let a := n.1 % 256
    (s.modPort p (fun q => { q with map := q.map.filter (· != a) })).modNode p a (fun x => { x with state := 3, fresh := false })) s

/-- Host messages in progress are aborted, with event 0x8130 and NOTIFY on every channel (R366). -/
def dropMessages (s : State) : State :=
  forEach (s.links.nodes.filter (fun n => n.2.txState == 1)) (fun s n =>
    let p := n.1 / 256
    let a := n.1 % 256
    let seq := match n.2.txHost with | some (_, q) => q.toNat | none => 0
    let s := endMessage (s.modNode p a (fun x => { x with txHost := none })) p a false
    let body := le 1 stOk ++ le 1 3 ++ le 2 0
    notifyOn (notifyOn s .port 0 0x66 p seq body) .link 0 0x66 p seq body) s

/-- R274: learning runs and brake tests abort, and their cars stop in class 1. -/
def abortRuns (s : State) : State :=
  forEach cars8 (fun s c =>
    let h := s.hoist c
    if h.learn.state == 1 || h.bt.state == 1 then (abortTest (abortLearn s c 6) c).requestStop c 1 else s) s

/-- Door samples of operator `d` in the frames before frame `f`. -/
def samplesBefore (d f : Nat) : Nat := (f + 7 - d % 8) / 8

/-- The state of a moving operator as its node has carried it on: the mirrored address and position advanced by the mirrored
increment for every door sample since the mirrored epoch, with acceleration 0 (R135). -/
def extrapolateDoor (s : State) (d : Nat) : State :=
  let b := tget (dft {}) s.pair.doorBase d
  let n := samplesBefore d s.frame - samplesBefore d (4 * s.pair.lastCommit)
  let by_ : Int := (n : Nat) * b.increment
  let cycle : Nat := s.doorN d * 64
  let at_ := (((b.address * 64 + b.frac : Nat) : Int) + by_) % (cycle : Nat)
  s.modDoor d (fun x =>
    { x with
      pos := b.pos + fdiv (by_ * s.par 0x4005 d) (cycle : Nat), address := at_.toNat / 64, frac := at_.toNat % 64
      increment := b.increment, refSpeed := b.refSpeed, refAcc := 0, plan := none, obstRun := 0 })

/-- R135: a moving operator goes on from that state, and its command is planned anew. (log entry 84: DEDUCED) -/
def adoptDoors (s : State) : State :=
  forEach (List.range 16) (fun s d =>
    if s.doorMoving d && (s.door d).plan.isSome then
      let s := extrapolateDoor s d
      let x := s.door d
      match x.state with
      | .opening => (replanMove s d .opening).modDoor d (fun y => { y with next := x.next })
      | .closing => replanMove s d .closing
      | .nudging => replanMove s d .nudging
      | .reversing => decelerate s d x.next
      | .referencing => startReferencing s d
      | _ => s
    else s.modDoor d (fun x => { x with obstRun := 0 })) s

/-- The outputs that the mirrored state shows energised and the own islands permit are driven (R240, R265, R271).
(log entry 84: DEDUCED) -/
def takeOutputs (s : State) : State :=
  forEach outs32 (fun s o =>
    if (s.out o).partnerOn then
      let k := s.carSaf (o / 4)
      let i := o % 4
      let s := if !k.trip && k.permitA.getLsbD i && k.permitB.getLsbD i && s.driving then driveOut s o true else s
      s.modOut o (fun x => { x with partnerOn := false, partnerOff := s.frame })
    else s) s

/-- Calls registered but not announced are announced to every channel, and the others' completions will be (R380). What the
commits have brought is announced (R171). -/
def takeCalls (s : State) : State :=
  let s := forEach ((s.disp.calls.filter (fun k => k.state == 1 || k.state == 2)).map (·.id)) (fun s i =>
    s.modCall i (fun k => { k with shown := k.car })) s
  forEach (s.disp.calls.filter (fun k => k.state == 1 && !k.notify.isEmpty)) (fun s k =>
    forEach k.notify (fun s n => holdNote s n.1 (note 0 0x12 k.group n.2.toNat (queryReply s k))) s) s

/-- R277: pending calls and uncommitted stops go, with the calls that board there; the cars come back one by one, as group
service stood `before` the takeover. -/
def discardStale (before s : State) : State :=
  let gone := s.disp.calls.filter (fun k => k.state == 0)
  let s := forEach cars8 (fun s c =>
    let out := ((flagged s c).filter (fun e => !e.2)).map (·.1)
    let ids := ((out.map (fun k => (k.calls.filter (·.2)).map (·.1))).flatten)
    let s := forEach ids (fun s i => (unassign s i).dropCall i) s
    s.modDcar c (fun d => { d with
      staleOut := true, faultOut := (before.dcar c).faultOut, leaving := (before.dcar c).leaving
      itin := ((flagged s c).filter (·.2)).map (·.1) })) s
  let s := forEach gone (fun s k => s.dropCall k.id) s
  { s with disp := { s.disp with queue := [], waiting := [], redispatch := [], refining := [], forwarded := [], transfers := [] } }

/-- The takeover record (R301): the log goes on 1,024 numbers later, with `seq_jump` and `gap`; its payload names the
last verified commit and the mirrored next sequence. (log entries 73: DEDUCED, 80: DEDUCED) -/
def takeoverRecord (s : State) (code sev : Nat) : State :=
  let next := s.log.nextSeq
  let s := { s with log := { s.log with nextSeq := (next + 1024) % 2 ^ 32, jumpNext := true, gapNext := true } }
  let f : Finding := { code := code, sev := sev, payload := le 4 s.pair.lastCommit ++ le 4 next }
  if sev == 2 then raise s f else record s f

/-- The role bookkeeping of a new active. -/
def roleTaken (s : State) (kind us : Nat) (clean : Bool) : State :=
  { s with pair := { s.pair with
      inStep := false, resyncing := false, awaiting := false, claiming := false, settleWait := false, arbRequest := false
      won := false, staleWin := false, yieldHeard := none, incoming := false, fellInStep := false
      takeovers := satN 16 (s.pair.takeovers + 1), staleTakeovers := satN 16 (s.pair.staleTakeovers + b2n (!clean))
      lastKind := kind, takeoverUs := us, takenOver := kind == 3, handIn := kind == 1 } }

/-- A standby becomes the active. `kind` is `last_kind` of Table 11.10, `code` the takeover record of a clean takeover.
(log entry 82: DEDUCED) -/
def takeOver (s : State) (kind us : Nat) (clean : Bool) (code sev : Nat) : State :=
  let code := if clean then code else 0x7113
  let before := s
  let s := forEach (List.range 8) (fun s p => s.modSsi p (fun q => { q with gap := true })) s
  let s := roleTaken (abandonSlice s) kind us clean
  let s := ownFindings (takeoverRecord s code (if clean then sev else 2))
  let s := openMode s .service 7 code
  let s := releaseForces (abortRuns (endInjOn s 5 (fun _ => true)))
  let s := if clean then s else discardStale before s
  let s := takeCalls (takeOutputs (adoptDoors s))
  let s := enterLatches (forEach (List.range 64) resumeBurst (dropMessages (dropFresh s)))
  notifyAll s 2 0x50 0 (pairReply s)

end Sys2Proof.Machine
end

