-- ==== Sys2Proof/Machine/Params.lean ====
section
/-! DEFINITION. Parameter access (R384 to R389): `PARAM_READ`, `PARAM_WRITE`, `PARAM_COMMIT` with its validation and its
effect at an epoch boundary. -/

namespace Sys2Proof.Machine

/-! ### PARAM_READ (R388, Table 16.7) -/

/-- The present value of a read-only key. (log entry 74: DEDUCED) -/
def roValue (s : State) (key : Nat) : Int :=
  match key with
  | 0x6200 => (setNumber s : Nat)
  | 0x6201 => (s.setState : Nat)
  | 0xA010 => (s.opTime : Nat)
  | 0xA011 => (s.powerCycle : Nat)
  | _ => (s.floor (key - 0xB00F) : Nat)

/-- The value that `which` selects. (log entry 74: DEDUCED) -/
def paramValue (s : State) (r : KeySpec) (key inst which : Nat) : Int :=
  if which == 2 then r.dflt
  else if which == 1 then (if r.ro then roValue s key else s.stg key inst)
  else if r.ro then roValue s key
  else if 0x6000 ≤ key && key < 0x7000 then s.sf key inst
  else s.com key inst

def safetyKey (key : Nat) : Bool := 0x6000 ≤ key && key < 0x7000

def paramReadReply (s : State) (r : KeySpec) (key inst which : Nat) : Bytes :=
  let differs := !safetyKey key && !r.ro && s.stg key inst != s.com key inst
  le 1 stOk ++ le 1 r.type ++ le 1 (b2n differs + 2 * b2n r.ro + 4 * b2n (safetyKey key)) ++ le 1 0 ++ le 2 key ++ le 1 inst
    ++ le 1 0 ++ leI 8 (paramValue s r key inst which)

def actParamRead (h : Hdr) (rsv : Bool) (key : U16) (keyInst which : U8) (s : State) : State :=
  serve s h { op := 0x06, insts := 1, len := 16, lenOk := h.len == 4, checks := [(rsv || which.toNat > 2, stBadParam)] }
    (fun s => match findKey key.toNat with
      | some r =>
        if r.insts ≤ keyInst.toNat || (which == 1 && safetyKey key.toNat) then (s, refusal 16 stBadParam)
        else (s, paramReadReply s r key.toNat keyInst.toNat which.toNat)
      | none => (s, refusal 16 stBadParam))

def execParamRead (h : Hdr) (rsv : Bool) (key : U16) (keyInst which : U8) (s : State) : Host.Outcome State Fault Refusal :=
  hostRow s (.paramRead h rsv key keyInst which) h 0x06 16 (actParamRead h rsv key keyInst which)

/-! ### PARAM_WRITE (R385, Table 16.8) -/

/-- Staged values that differ from the committed ones. -/
def stagedCount (s : State) : Nat := (changedKeys s.params).length

def writeReply (s : State) (st bad : Nat) : Bytes :=
  le 1 st ++ le 1 bad ++ le 2 0 ++ le 2 (stagedCount s) ++ le 2 0

/-- Entries in order; one with its reserved byte set fails before the checks of its key. -/
def writeParams (s : State) (es : List ParamEntry) : State × Bytes :=
  let raw := fun (e : ParamEntry) => (e.key.toNat, e.inst.toNat, e.value.toNat)
  let lead := es.takeWhile (fun e => e.resv == 0)
  if lead.length == es.length then
    let (s', st, bad) := stageEntries s (es.map raw)
    (s', writeReply s' st bad)
  else if s.params.commit.isSome then (s, writeReply s stBusy 0xFF)
  else
    match checkEntries s (lead.map raw) 0 with
    | .inl (n, st) => (s, writeReply s st n)
    | .inr _ => (s, writeReply s stBadParam lead.length)

def actParamWrite (h : Hdr) (rsv : Bool) (count : U8) (entries : List ParamEntry) (s : State) : State :=
  serve s h { op := 0x07, insts := 1, len := 8, lenOk := h.len == 4 + 12 * count.toNat, mirrored := true
              checks := [(rsv, stBadParam), (count == 0, stRange)], fixed := le 1 0xFF }
    (fun s => writeParams s entries)

def execParamWrite (h : Hdr) (rsv : Bool) (count : U8) (entries : List ParamEntry) (s : State) :
    Host.Outcome State Fault Refusal :=
  if Instr.wellFormed (.paramWrite h rsv count entries) then
    hostRow s (.paramWrite h rsv count entries) h 0x07 8 (actParamWrite h rsv count entries)
  else .fault .illFormed

/-! ### Validation (R386) -/

/-- The car whose standstill a "Commit at standstill" key waits for; brakes applied as well for a hoist key (R128). -/
def stillFor (s : State) (key inst : Nat) : Bool :=
  if key < 0x1100 then (match s.carOfChan inst with | some c => s.standstill c | none => true)
  else if key < 0x1200 then s.standstill inst
  else if key < 0x2000 then (match s.carOfSsi inst with | some c => s.standstill c | none => true)
  else if 0x3000 ≤ key && key < 0x4000 then s.atRest inst
  else true

/-- The "Takes effect" condition of a changed key holds (R55, R104, R128, R155). -/
def mayTakeEffect (s : State) (r : KeySpec) (key inst : Nat) : Bool :=
  match r.effect with
  | .standstill => stillFor s key inst
  | .held => if key < 0x2100 then s.hoistLoopsHeld inst else s.loopRole inst == 0 || s.loopHeld inst
  | .atRest => s.doorAtRest inst
  | _ => true

/-- What one changed key breaks by itself. -/
def keyRules (s : State) (k : Nat) : Refused :=
  let key := k / 256
  let inst := k % 256
  match findKey key with
  | none => []
  | some r =>
    failIf (!keyRangeOk r (s.learnedPos key inst) (s.stg key inst)) key inst stRange
      ++ failIf (!mayTakeEffect s r key inst) key inst stBusy

/-- R54: the feedback geometry of a car with a confirmed set equals the set's copy. -/
def geometryRules (s : State) (v : Staged) : Refused :=
  eachInst 8 (fun c =>
    if !s.safEnabled c then []
    else
      let one := fun (key inst : Nat) => failIf (v key inst != s.sf key inst) key inst stBadParam
      let chan := s.sfN 0x1100 c
      let port := s.sfN 0x1101 c
      one 0x1100 c ++ one 0x1101 c ++ one 0x1102 c ++ one 0x1103 c
        ++ (if chan < 16 then one 0x1002 chan ++ one 0x1003 chan else [])
        ++ (if port < 8 then one 0x1206 port ++ one 0x1208 port else []))

/-- Every refusal of the staged set. (log entry 79: DEDUCED) -/
def commitRefusals (s : State) : Refused :=
  let v : Staged := s.stg
  ((changedKeys s.params).map (keyRules s)).flatten ++ geometryRules s v ++ fbRules v ++ loopRules s v ++ hoistRules v
    ++ doorRules s v ++ linkRules s v

/-- Ascending order of key, then of instance. -/
def firstRefusal : Refused → Option (Nat × Nat × Nat)
  | [] => none
  | e :: es =>
    match firstRefusal es with
    | some x => if kix x.1 x.2.1 < kix e.1 e.2.1 then some x else some e
    | none => some e

/-- Keys that act under a safety-set limit (R20, R222), with the limit's key. (log entry 79: DEDUCED) -/
def limitedBy : List (Nat × Nat) :=
  [(0x3001, 0x6003), (0x300F, 0x6003), (0x3030, 0x6005), (0x3040, 0x6005), (0x4010, 0x6041), (0x4011, 0x6041),
   (0x4017, 0x6041), (0x4020, 0x6041), (0x4021, 0x6041), (0x4027, 0x6041), (0x4034, 0x6041), (0x4043, 0x6042),
   (0x4044, 0x6043), (0x4045, 0x6043), (0x4052, 0x6041)]

/-- A changed key whose value will act at a lower one (R387). (log entry 79: DEDUCED) -/
def isLimited (s : State) (k : Nat) : Bool :=
  let inst := k % 256
  let c := if k / 256 < 0x4000 then inst else inst / 2
  limitedBy.any (fun e => e.1 == k / 256 && s.safEnabled c && decide (s.sf e.2 c < s.stg e.1 inst))

/-- The first limited key of the commit. (log entry 79: DEDUCED) -/
def firstLimited (s : State) : Option (Nat × Nat) :=
  ((changedKeys s.params).filter (isLimited s)).foldl (fun b k => match b with
    | some x => if k < kix x.1 x.2 then some (k / 256, k % 256) else b
    | none => some (k / 256, k % 256)) none

/-! ### PARAM_COMMIT (Table 16.9) -/

def commitReply (s : State) (st : Nat) (bad : Option (Nat × Nat)) (epoch : Nat) : Bytes :=
  let state := if s.params.commit.isSome then 2
    else if changedKeys s.params != [] || changedMaps s.params != [] then 1 else 0
  let (k, i) := bad.getD (0, 0)
  le 1 st ++ le 1 state ++ le 2 (stagedCount s) ++ le 2 k ++ le 1 i ++ le 1 0 ++ le 4 epoch ++ le 4 s.params.commits

/-- A refused commit: event 0xA401, and the staging copy is kept. -/
def refuseCommit (s : State) (key inst st : Nat) : State × Bytes :=
  let s := event s 0xA401 (le 2 key ++ le 1 inst ++ le 1 st)
  (s, commitReply s st (some (key, inst)) 0)

/-- Validation. The reply of an accepted commit follows its epoch. -/
def startCommit (s : State) (h : Hdr) : State :=
  let reply := fun (sp : State × Bytes) => answer sp.1 h 0x08 false sp.2
  if s.params.commit.isSome || s.pair.hand != 0 || s.pair.incoming || s.pair.yielding then
    reply (s, commitReply s stBusy none 0)
  else if changedKeys s.params == [] && changedMaps s.params == [] then reply (s, commitReply s stOk none 0)
  else
    match firstRefusal (commitRefusals s) with
    | some (k, i, st) => reply (refuseCommit s k i st)
    | none =>
      if mapRefused s then reply (refuseCommit s 0 0 stBadParam)
      else { s with params := { s.params with
              commit := some { epoch := s.epoch, count := stagedCount s, limited := firstLimited s, hdr := h } } }

def commitReq (h : Hdr) (rsv isRead : Bool) : Req :=
  { op := 0x08, insts := 1, len := 16, isRead := isRead, lenOk := h.len == 4, checks := [(rsv, stBadParam)] }

def actParamCommit (h : Hdr) (rsv : Bool) (s : State) : State :=
  match gate s h (commitReq h rsv false) with
  | some p => answer s h 0x08 false p
  | none => startCommit s h

def execParamCommit (h : Hdr) (rsv : Bool) (s : State) : Host.Outcome State Fault Refusal :=
  hostRow s (.paramCommit h rsv) h 0x08 16 (actParamCommit h rsv)

def actParamCommitRead (h : Hdr) (rsv : Bool) (s : State) : State :=
  serve s h (commitReq h rsv true) (fun s => (s, commitReply s stOk none 0))

def execParamCommitRead (h : Hdr) (rsv : Bool) (s : State) : Host.Outcome State Fault Refusal :=
  hostRow s (.paramCommitRead h rsv) h 0x08 16 (actParamCommitRead h rsv)

/-- The staging copy becomes the committed set again. -/
def discardStaged (s : State) : State × Bytes :=
  if s.params.commit.isSome then (s, commitReply s stBusy none 0)
  else
    let s := { s with params := { s.params with staged := s.params.committed } }
    (s, commitReply s stOk none 0)

def actParamDiscard (h : Hdr) (rsv : Bool) (s : State) : State :=
  serve s h { commitReq h rsv false with mirrored := true } discardStaged

def execParamDiscard (h : Hdr) (rsv : Bool) (s : State) : Host.Outcome State Fault Refusal :=
  hostRow s (.paramDiscard h rsv) h 0x08 16 (actParamDiscard h rsv)

/-! ### The epoch of effect -/

/-- Effects that act at the commit itself; the others wait for their own moment. -/
def atCommit : List KeyEffect := [.commit, .standstill, .held, .atRest, .restart]

/-- What changed keys and maps bring with them: injections and banks of changed loops, friction tables (R141),
restarted ports (R341) and points (R350). -/
def commitEffects (s : State) (keys maps : List Nat) : State :=
  let has := fun (lo hi inst : Nat) => keys.any (fun k => lo ≤ k / 256 && k / 256 ≤ hi && k % 256 == inst)
  let s := forEach (List.range 64) (fun s l =>
    if has 0x2100 0x2110 l then loopCommitted s l (has 0x2105 0x2105 l) else s) s
  let s := forEach (List.range 16) (fun s d =>
    if has 0x4007 0x4007 d || has 0x4046 0x4046 d then s.modDoor d (fun x => { x with adapt := [], adaptSum := [] }) else s) s
  let s := forEach (List.range 64) (fun s p => if has 0x8001 0x8005 p || has 0x8008 0x8008 p && s.portUse p == 3 then restartPort s p else s) s
  forEach maps (fun s k => restartPoints s (k / 256) (k % 256)) s

/-- A committed set replaces the one before and acts as each key's "Takes effect" entry states.
(log entry 5: DEDUCED) -/
def adoptParams (s : State) (p : Params) : State :=
  let next : ParamSt := { s.params with staged := p }
  let keys := changedKeys next
  let maps := changedMaps next
  let s := adoptTables s { s with params := { s.params with committed := p } }
  let s := forEach atCommit (fun s e => s.latch' e none) s
  commitEffects (reallocate s) keys maps

/-- The commit takes effect at this boundary: outside a pair at once, else when the standby holds the whole set. -/
def commitAtEpoch (s : State) : State :=
  match s.params.commit with
  | none => s
  | some c =>
    if s.pair.inStep && s.pair.lastCommit ≤ c.epoch then s
    else
      let s := { s with params := { s.params with commit := none, commits := satN 32 (s.params.commits + 1) } }
      let s := adoptParams s s.params.staged
      let s := event s 0xA400 (le 4 s.epoch ++ le 2 c.count)
      answer s c.hdr 0x08 true (commitReply s (if c.limited.isSome then stLimited else stOk) c.limited s.epoch)

end Sys2Proof.Machine
end

