-- ==== Sys2Proof/Machine/Pair.lean ====
section
/-! DEFINITION. The pair (chapter 11): what waits for commits, hand-over and tail-drop, settling, arbitration, and the
host requests of Tables 11.10 to 11.13. Croaks and the twin link's events stand in Croaks.lean and Twin.lean. -/

namespace Sys2Proof.Machine

/-! ### What waits for a commit (R255, R171) -/

/-- A call's announcement is out: nobody waits for it, and another pair's call leaves this table (R157). -/
def announced (s : State) (id : Nat) : State :=
  let s := s.modCall id (fun k => { k with notify := [], shown := k.car })
  match s.call? id with
  | some k => if k.state == 1 && (s.localCar k.car).isNone then s.forget id else s
  | none => s

/-- Replies, NOTIFYs and announcements whose commit is complete. -/
def releaseUpTo (s : State) (e : Nat) : State :=
  let h := s.host
  let now := fun (s : State) (r : HeldReply) => queueReply s r.hdr r.opcode r.payload
  let told := (s.disp.announce.filter (fun a => a.2 ≤ e)).map (·.1)
  let s := { s with
    host := { h with held := h.held.filter (fun r => !(r.epoch ≤ e)), heldNotes := h.heldNotes.filter (fun n => !(n.1 ≤ e)) }
    disp := { s.disp with announce := s.disp.announce.filter (fun a => !(a.2 ≤ e)) } }
  let s := forEach (h.held.filter (fun r => r.epoch ≤ e)) now s
  let s := forEach told announced s
  forEach (h.heldNotes.filter (fun n => n.1 ≤ e)) (fun s n => if s.chanUp n.2.1 then pushNotify s n.2.1 n.2.2 else s) s

/-- Everything that waits is released: no standby is in step any more. -/
def releaseAll (s : State) : State := releaseUpTo s (s.epoch + 1)

/-- R379: replies still held and requests not yet executed are answered NOT_ACTIVE. (log entry 77: DEDUCED) -/
def failHeld (s : State) : State :=
  let no := fun (s : State) (h : Hdr) (op len : Nat) => queueReply s h op (refusal len stNotActive)
  let w := s.host.waiting
  let held := s.host.held
  let s := { s with host := { s.host with held := [], waiting := [], heldNotes := [] } }
  let s := forEach held (fun s r => no s r.hdr r.opcode r.payload.length) s
  let s := match s.params.commit with
    | some c => no { s with params := { s.params with commit := none } } c.hdr 0x08 16
    | none => s
  let s := match s.loops.swap.bind (·.hdr) with
    | some h => no { s with loops := { s.loops with swap := none } } h 0x32 16
    | none => s
  forEach w (fun s x => match x with
    | .cmd _ h op len => no s h op len
    | .action h op _ len _ => no s h op len
    | .ready r => sendReply s r) s

/-- The in-step state ends with event 0x7122, and a resync follows while a lane is up (R256). (log entry 83: DEDUCED) -/
def leaveStep (s : State) : State :=
  if s.pair.inStep then
    let s := if s.mode == .shadow then ownFindings s else s
    let s := { s with pair := { s.pair with inStep := false, retrying := false, resyncing := !s.twinLost } }
    releaseAll (record s { code := 0x7122, sev := 1 })
  else s

/-! ### Planned hand-over (R269, R273, Table 11.6) -/

/-- The base image's mirror format, and digests of the images in force. -/
def State.mirrorFormat (s : State) : Nat :=
  match s.activeSlot 1 with | some n => (s.imgSlot (slotKey 1 n)).mirrorFormat | none => 0
def State.activeDigest (s : State) (type : Nat) : Bytes :=
  match s.activeSlot type with | some n => (s.imgSlot (slotKey type n)).digest | none => []

/-- Table 11.11. -/
def handReply (s : State) (st reason : Nat) : Bytes :=
  let p := s.pair
  le 1 st ++ le 1 p.handState ++ le 1 reason ++ le 1 0 ++ le 4 (if p.handState == 2 || p.hand ≥ 2 then p.h1 else 0)
    ++ le 4 p.handUs

/-- The completion NOTIFY of `HANDOVER_REQUEST`. -/
def handNotify (s : State) : State :=
  match s.pair.handHdr with
  | some (ch, seq) =>
    notifyOn { s with pair := { s.pair with handHdr := none } } ch 0 0x51 0 seq.toNat (handReply s stOk s.pair.handReason)
  | none => s

/-- The partner's last health record shows no class L finding and no lost loop lane or field port.
(log entry 80: DEDUCED) -/
def partnerFit (s : State) : Bool :=
  match s.pair.partnerHealth with
  | some r => r.countL == 0 && r.degraded % 16 == 0 && r.degraded / 65536 % 256 == 0
  | none => false

/-- The first reason against a hand-over, 0 for none. (log entry 80: DEDUCED) -/
def handRefused (s : State) (action : Nat) : Nat :=
  if !(s.pair.paired && s.partnerRole == 0) then 1
  else if !s.pair.inStep then 2
  else if !partnerFit s then 3
  else if s.anyTest then 4
  else if action == 2 && (match s.pair.twin with
      | some t => (match t.tadpole with | some f => f != s.mirrorFormat | none => false)
      | none => true) then 5
  else 0

/-- A hand-over is accepted: h0 is the next boundary, h1 the one after. No dark test starts and injections end. -/
def startHand (s : State) (h : Hdr) (action : Nat) : State × Bytes :=
  if s.pair.hand != 0 || s.pair.yielding || s.params.commit.isSome then (s, handReply s stBusy 0)
  else
    match handRefused s action with
    | 0 =>
      let s := endInjOn s 5 (fun _ => true)
      let s := { s with pair := { s.pair with
        hand := 1, handState := 1, handReason := 0, handAction := action, h0 := s.epoch + 1, h1 := s.epoch + 2
        handFrame := s.frame, handUs := 0, handHdr := some (h.chan, h.seq) } }
      (s, handReply s stPending 0)
    | r => (record s { code := 0x7102, sev := 1, payload := le 1 r }, handReply s stWrongMode r)

def handReq (h : Hdr) (rsv isRead : Bool) : Req :=
  { op := 0x51, insts := 1, len := 12, isRead := isRead, lenOk := h.len == 4, checks := [(rsv, stBadParam)] }

def actHandoverRead (h : Hdr) (rsv : Bool) (s : State) : State :=
  serve s h (handReq h rsv true) (fun s => (s, handReply s stOk s.pair.handReason))

def execHandoverRead (h : Hdr) (rsv : Bool) (s : State) : Host.Outcome State Fault Refusal :=
  hostRow s (.handoverRead h rsv) h 0x51 12 (actHandoverRead h rsv)

def actHandoverRequest (h : Hdr) (rsv : Bool) (s : State) : State :=
  serve s h (handReq h rsv false) (fun s => startHand s h 1)

def execHandoverRequest (h : Hdr) (rsv : Bool) (s : State) : Host.Outcome State Fault Refusal :=
  hostRow s (.handoverRequest h rsv) h 0x51 12 (actHandoverRequest h rsv)

def actHandoverActivateTadpoles (h : Hdr) (rsv : Bool) (s : State) : State :=
  serve s h (handReq h rsv false) (fun s => startHand s h 2)

def execHandoverActivateTadpoles (h : Hdr) (rsv : Bool) (s : State) : Host.Outcome State Fault Refusal :=
  hostRow s (.handoverActivateTadpoles h rsv) h 0x51 12 (actHandoverActivateTadpoles h rsv)

/-- A hand-over ends before h1 (R273): event 0x7102, the device keeps its role. -/
def abortHand (s : State) (reason : Nat) : State :=
  let s := { s with pair := { s.pair with hand := 0, handState := 3, handReason := reason } }
  handNotify (record s { code := 0x7102, sev := 1, payload := le 1 reason })

/-- "Resumes" of R273: gates stopped for the check restart at once, the ports are driven from the next boundary, and the
resumption counts as a tail-drop takeover. -/
def resumeHand (s : State) (reason : Nat) : State :=
  let s := forEach outs32 (fun s o => s.modOut o (fun x => { x with hs := x.hs || x.want, ls := x.ls || x.want })) s
  let s := { s with pair := { s.pair with
    hand := 3, checking := false, handState := 3, handReason := reason
    takeovers := satN 16 (s.pair.takeovers + 1), lastKind := 2 } }
  handNotify (record s { code := 0x7102, sev := 1, payload := le 1 reason })

/-- A hand-over meets a loss on the partner's side: before h1 it aborts, after h1 the device resumes. -/
def partnerLostInHand (s : State) : State :=
  if s.pair.hand == 1 then abortHand s 8 else if s.pair.hand == 2 then resumeHand s 8 else s

/-- HEALTH_RECORD_RECEIVED: a set number that differs from the own one is event 0x6153 (R227); a lasting fault of the
partner ends a hand-over to it (Table 11.8). -/
def execHealthRecordReceived (rec_ : Health) (twin : TwinId) (s : State) : Host.Outcome State Fault Refusal :=
  .next (if !s.working || s.twinLost then s
    else
      let own := setNumber s
      let differs := own != twin.set
      let before := match s.pair.twin with | some t => s.pair.setDiffers && t.set == twin.set | none => false
      let s := { s with pair := { s.pair with
        partnerHealth := some rec_, twin := some twin, setDiffers := differs, lastSign := s.frame } }
      let s := if differs && !before then record s { code := 0x6153, sev := 1, payload := le 4 own ++ le 4 twin.set } else s
      if s.incharge && s.pair.hand != 0 && !partnerFit s then partnerLostInHand s else s)

/-- R281: the incoming device's policy tadpole, and a safety-set tadpole of the confirmed set, are in force from h1. -/
def activateTadpoles (s : State) : State :=
  forEach [2, 3] (fun s type =>
    match (List.range 2).find? (fun n => (s.imgSlot (slotKey type n)).state == 3
        && (type == 2 || s.setDigest == some (s.imgSlot (slotKey type n)).digest)) with
    | some n => activateSlot s type n
    | none => s) s

/-- The release check has passed (R240): the device becomes the standby, and activates its own tadpoles where the hand-over
did so on its partner (R281). -/
def becomeStandby (s : State) : State :=
  let act := s.pair.handAction == 2
  let s := { s with pair := { s.pair with
    hand := 0, checking := false, handState := 2, handReason := 0, handUs := satN 32 (s.usSince s.pair.handFrame)
    inStep := false, resyncing := !s.twinLost, yieldHeard := none, takenOver := false } }
  let s := enterMode (failHeld (event s 0x7101)) .shadow 7 0x7101
  handNotify (if act then activateTadpoles s else s)

/-- The incoming device hears its partner resume: it returns to SHADOW (Table 11.8). (log entry 80: DEDUCED) -/
def giveBack (s : State) : State :=
  let s := { s with pair := { s.pair with handIn := false, inStep := false, resyncing := !s.twinLost } }
  enterMode (failHeld s) .shadow 7 0x7102

/-! ### Tail-drop (R270) -/

/-- The completion NOTIFY of a `MODE_REQUEST` to LOCKOUT that left SERVICE by tail-drop (R437). -/
def modeNotice (s : State) : State :=
  match s.pair.yieldHdr with
  | some (ch, seq) =>
    if s.mode == .lockout then
      notifyOn { s with pair := { s.pair with yieldHdr := none } } ch 0 0x02 0 seq.toNat (modeReply s stOk 5 0)
    else s
  | none => s

/-- A hand-over that a lasting fault of the yielding device turned into a tail-drop ends with it (Table 11.8): complete if
the partner took the role. -/
def endYieldedHand (s : State) : State :=
  if s.pair.handState != 1 then s
  else handNotify { s with pair := { s.pair with
    handState := if s.pair.yieldSent then 2 else 3, handReason := if s.pair.yieldSent then 0 else 8
    handUs := satN 32 (s.usSince s.pair.handFrame) } }

/-- The yielding device enters the mode its fault requires, with event 0x7110; what it still holds is refused (R379).
(log entry 80: DEDUCED) -/
def finishYield (s : State) : State :=
  let s := endYieldedHand s
  let p := s.pair
  let m := p.yieldMode.getD .shadow
  let s := record s { code := 0x7110, sev := p.yieldSev, payload := le 2 p.yieldCause ++ le 4 p.yieldOnset }
  let s := (failHeld s).allOff
  let s := { s with pair := { s.pair with
    yielding := false, yieldSent := false, checking := false, hand := 0, inStep := false, yieldMode := none, yieldWhy := (7, 0)
    resyncing := m == .shadow && !s.twinLost, handIn := false, yieldHeard := none, takenOver := false } }
  let s := if m == .lockout then enterMode s m p.yieldWhy.1 p.yieldWhy.2 else enterMode s m 7 p.yieldCause
  modeNotice s

/-- A hand-over whose release check has ended on the device that gives up its role: it becomes the standby, or enters the
mode that a lasting fault of its own requires, since LOCKOUT does not wait for a hand-over (R38, Table 11.8). -/
def completeHand (s : State) : State :=
  if s.pair.yielding then
    let us := satN 32 (s.usSince s.pair.handFrame)
    handNotify (finishYield { s with pair := { s.pair with hand := 0, handState := 2, handReason := 0, handUs := us } })
  else becomeStandby s

/-- The boundary at which a yielding device stops driving; with no partner croaking standby it opens its outputs. -/
def yieldBoundary (s : State) : State :=
  if s.partnerRole == 0 then { s with pair := { s.pair with yieldSent := true } } else finishYield s

/-- Both gates of every output in force stop for the check (R240). -/
def releaseCheckStart (s : State) : State :=
  if (s.pair.hand == 2 || s.pair.yieldSent) && !s.pair.checking then
    let s := forEach outs32 (fun s o => s.modOut o (fun x => { x with hs := false, ls := false })) s
    { s with pair := { s.pair with checking := true } }
  else s

/-- RELEASE_CHECK_START: the incoming device reports 50 µs of gate drive, or croaks active with the twin link lost. -/
def execReleaseCheckStart (s : State) : Host.Outcome State Fault Refusal := .next (releaseCheckStart s)

/-- The check ends; `held` says that readback and SOnn_LD stayed. -/
def releaseCheckEnd (s : State) (held : Bool) : State :=
  if !s.pair.checking then s
  else
    let s := if held then s else record s { code := 0x6224, sev := 1 }
    if s.pair.yieldSent then finishYield s
    else if held || s.pair.yielding then completeHand s else resumeHand s 7

/-! ### Settling and arbitration (R263, R266 to R268) -/

/-- A request for arbitration, with its arbiters fixed (R266). (log entry 81: DEDUCED) -/
def requestArb (s : State) (why : Nat) : State :=
  let s := abandonSlice s
  event { s with pair := { s.pair with
    arbRequest := true, arbWhy := why, arbCounted := arbiters s, arbVotes := [], arbTries := 0 } } 0x7130

/-- Log entry 81: DEDUCED. -/
def endArb (s : State) : State := { s with pair := { s.pair with arbRequest := false, arbVotes := [], arbTries := 0 } }

/-- A settled device enters SERVICE at start-up. -/
def serviceStart (s : State) : State :=
  let s := { s with pair := { s.pair with
    claiming := false, settleWait := false, arbRequest := false, inStep := false, resyncing := false, lastKind := 5, takeoverUs := 0 } }
  openMode (event (abandonSlice s) 0x7114) .service 7 0x7114

/-- CLAIM_PERIODS_ELAPSED: SERVICE if still unopposed, else the role is settled anew. -/
def execClaimPeriodsElapsed (s : State) : Host.Outcome State Fault Refusal :=
  .next (if s.power == .on && s.mode == .shadow && s.pair.claiming && !s.pair.arbRequest && !s.pair.won && s.pair.claimLeft == 0 then
      let r := s.partnerRole
      if s.com 0x7001 0 == 0 || r == 0 || r == 3 then serviceStart s
      else settle { s with pair := { s.pair with claiming := false } }
    else s)

/-- SOLO_WAIT_EXPIRY: `pair_solo_wait_ms` with a silent partner; with no arbiters the device enters SERVICE at once. -/
def execSoloWaitExpiry (s : State) : Host.Outcome State Fault Refusal :=
  .next (if s.power == .on && s.mode == .shadow && s.pair.settleWait && !s.partner.heard then
      let s := requestArb { s with pair := { s.pair with settleWait := false, claiming := true, claimLeft := 1 } } 1
      if s.pair.arbCounted.isEmpty then serviceStart s else s
    else s)

/-- R268: two claims in one period. With no arbiters POS[0] = 1 yields. -/
def splitClaim (s : State) : State :=
  let s := record { s with pair := { s.pair with split := true } } { code := 0x7132, sev := 1 }
  let loser := s.pins.pos.toNat % 2 == 1
  if (arbiters s).isEmpty then
    if loser then
      if s.mode == .service then tailDrop s 0x7132 1
      else { s with pair := { s.pair with claiming := false } }
    else s
  else requestArb s 3

/-- R267: true where the own device wins, false where the partner does. -/
def majority (s : State) : Option Bool :=
  let mine := s.pins.pos.toNat % 2 == 0
  let votes := s.pair.arbVotes
  let own := (votes.filter (fun v => v.2 == mine)).length
  let other := votes.length - own
  let n := s.pair.arbCounted.length
  if 2 * own > n then some true
  else if 2 * other > n then some false
  else if own == other then (votes.find? (fun v => v.1 == 8)).map (fun v => v.2 == mine)
  else none

/-- The request is won. -/
def arbWon (s : State) : State :=
  let s := endArb s
  match s.pair.arbWhy with
  | 1 => serviceStart s
  | 2 => { s with pair := { s.pair with won := true } }
  | 3 => if s.mode == .shadow then { s with pair := { s.pair with won := true } } else s
  | _ => s

/-- The request is lost (event 0x7131): a driving device tail-drops, another stays in SHADOW. -/
def arbLost (s : State) : State :=
  let s := record (endArb s) { code := 0x7131, sev := 1 }
  let s := { s with pair := { s.pair with claiming := false } }
  if s.mode == .service then tailDrop s 0x7131 1 else s

/-- No majority twice: a silent partner is taken over on self-evidence, else roles stay (event 0x7133).
(log entry 81: DEDUCED) -/
def arbOpen (s : State) : State :=
  let s := endArb s
  match s.pair.arbWhy with
  | 1 => serviceStart (record s { code := 0x7133, sev := 1 })
  | 2 =>
    let s := record s { code := 0x7133, sev := 1 }
    { s with pair := { s.pair with won := true, staleWin := true } }
  | _ => { s with pair := { s.pair with claiming := false } }

/-- ARBITRATION_DEADLINE: two periods after a request. -/
def execArbitrationDeadline (s : State) : Host.Outcome State Fault Refusal :=
  .next (if s.working && s.pair.arbRequest then
      match majority s with
      | some true => arbWon s
      | some false => arbLost s
      | none =>
        if s.pair.arbTries == 0 then
          { s with pair := { s.pair with arbTries := 1, arbCounted := arbiters s, arbVotes := [] } }
        else arbOpen s
    else s)

/-! ### Takeovers (R265, R271) -/

/-- YIELD_TAKEOVER: the first epoch boundary after a yield or a lockout croak. -/
def execYieldTakeover (s : State) : Host.Outcome State Fault Refusal :=
  .next (match s.pair.yieldHeard with
    | some onset =>
      if s.power == .on && s.mode == .shadow && !s.pair.awaiting then
        takeOver s 2 (satN 32 (s.usSince (4 * s.pair.lastCommit))) (s.follows && decide (s.epoch ≤ onset + 8)) 0x7111 0
      else s
    | none => s)

/-- SILENT_PARTNER_TAKEOVER: the first epoch boundary after a majority. -/
def execSilentPartnerTakeover (s : State) : Host.Outcome State Fault Refusal :=
  .next (if s.power == .on && s.mode == .shadow && s.pair.won then
      takeOver s (if s.pair.arbWhy == 3 then 4 else 3) (satN 32 (s.usSince s.pair.lastSign))
        (s.follows && s.pair.cleanSilence && !s.pair.staleWin) 0x7112 1
    else s)

/-- YIELD_RECEIVED: over the twin link, with the epoch of the fault's onset. -/
def execYieldReceived (lastEpoch : Nat) (s : State) : Host.Outcome State Fault Refusal :=
  .next (if s.power == .on && s.mode == .shadow && !s.pair.awaiting && !s.twinLost then
      { s with pair := { s.pair with yieldHeard := some lastEpoch, lastSign := s.frame } }
    else s)

/-! ### PAIR_STATUS and MIRROR_STATUS -/

def actPairStatus (h : Hdr) (rsv : Bool) (s : State) : State :=
  serve s h { op := 0x50, insts := 1, len := 40, lenOk := h.len == 0, checks := [(rsv, stBadParam)] }
    (fun s => (s, pairReply s))

def execPairStatus (h : Hdr) (rsv : Bool) (s : State) : Host.Outcome State Fault Refusal :=
  hostRow s (.pairStatus h rsv) h 0x50 40 (actPairStatus h rsv)

/-- The longest commit completion of the last second, in µs. -/
def ackMax (s : State) : Nat :=
  (s.pair.acks.filter (fun a => s.frame < a.1 + 32000)).foldl (fun m a => max m a.2) 0

/-- Table 11.13. The bytes of the largest commit are a free value of at most 12 KiB. (log entry 12: DESIGN CHOICE) -/
def mirrorReply (s : State) : State × Bytes :=
  let p := s.pair
  let state := if !p.paired then 0 else if s.twinLost then 3 else if p.inStep then 2 else 1
  let bytes := (Config.freeValue s.free).toNat % 12289
  ({ s with free := s.free + 1 },
    le 1 stOk ++ le 1 state ++ le 1 p.lanes.toNat ++ le 1 0 ++ le 4 p.lastCommit ++ le 4 p.commitsOk ++ le 4 p.commitsRetried
      ++ le 4 p.resyncs ++ le 2 bytes ++ le 2 (satN 16 (ackMax s)))

def actMirrorStatus (h : Hdr) (rsv : Bool) (s : State) : State :=
  serve s h { op := 0x54, insts := 1, len := 24, lenOk := h.len == 0, checks := [(rsv, stBadParam)] } mirrorReply

def execMirrorStatus (h : Hdr) (rsv : Bool) (s : State) : Host.Outcome State Fault Refusal :=
  hostRow s (.mirrorStatus h rsv) h 0x54 24 (actMirrorStatus h rsv)

/-! ### PARTNER_RELEASE and PARTNER_ADMIT (R279, R280, Table 11.12) -/

def releaseReply (s : State) (st reason : Nat) : Bytes :=
  let state := if s.pair.releasedState == 0 then 0 else if s.partner.heard then 1 else 2
  le 1 st ++ le 1 state ++ le 1 reason ++ le 1 0

def actPartnerReleaseRead (h : Hdr) (rsv : Bool) (token : Bytes) (s : State) : State :=
  serve s h { op := 0x52, insts := 1, len := 4, lenOk := h.len == 36, isRead := true
              checks := [(rsv || !zeroToken token, stBadParam)] }
    (fun s => (s, releaseReply s stOk 0))

def execPartnerReleaseRead (h : Hdr) (rsv : Bool) (token : Bytes) (s : State) : Host.Outcome State Fault Refusal :=
  if Instr.wellFormed (.partnerReleaseRead h rsv token) then
    hostRow s (.partnerReleaseRead h rsv token) h 0x52 4 (actPartnerReleaseRead h rsv token)
  else .fault .illFormed

/-- The pairing is cleared. A partner that croaks standby or lockout is told to enter DORMANT. -/
def releasePartner (s : State) : State × Bytes :=
  if s.pair.hand != 0 then (s, releaseReply s stBusy 2)
  else if s.partnerRole == 1 || s.partnerRole == 2 || s.partnerRole == 6 then (s, releaseReply s stWrongMode 1)
  else
    let s := releaseAll (event s 0x7150)
    let s := { s with pair := { s.pair with
      paired := false, pairTag := 0, partnerUnit := 0, releasedState := 1, inStep := false, resyncing := false } }
    (s, releaseReply s stOk 0)

def actPartnerRelease (h : Hdr) (rsv : Bool) (token : Bytes) (s : State) : State :=
  serve s h { op := 0x52, insts := 1, len := 4, lenOk := h.len == 36
              checks := [(rsv, stBadParam), (zeroToken token, stAuthRequired)] }
    (fun s => withToken s 4 [0x52] token releasePartner)

def execPartnerRelease (h : Hdr) (rsv : Bool) (token : Bytes) (s : State) : Host.Outcome State Fault Refusal :=
  if Instr.wellFormed (.partnerRelease h rsv token) then
    hostRow s (.partnerRelease h rsv token) h 0x52 4 (actPartnerRelease h rsv token)
  else .fault .illFormed

/-- The unit number of a partner that croaks passive beside an unpaired device. -/
def candidate (s : State) : Option TwinId :=
  if !s.pair.paired && !s.twinLost && s.partnerRole == 7 then s.pair.twin else none

/-- Progress of a resync in 0.01 %, a free value while it runs. (log entry 12: DESIGN CHOICE) -/
def resyncDone (s : State) : Nat :=
  if s.pair.inStep then 10000 else if s.pair.resyncing then (Config.freeValue s.free).toNat % 10001 else 0

def admitReply (s : State) (st reason : Nat) : State × Bytes :=
  let p := s.pair
  let state := if p.inStep then 3 else if p.paired && p.resyncing then 2 else if (candidate s).isSome then 1 else 0
  ({ s with free := s.free + 1 },
    le 1 st ++ le 1 state ++ le 1 reason ++ le 1 0 ++ le 8 (match candidate s with | some t => t.unit | none => 0)
      ++ le 2 (resyncDone s) ++ le 2 0)

def actPartnerAdmitRead (h : Hdr) (rsv : Bool) (unit : U64) (token : Bytes) (s : State) : State :=
  serve s h { op := 0x53, insts := 1, len := 16, lenOk := h.len == 44, isRead := true
              checks := [(rsv || unit != 0 || !zeroToken token, stBadParam)] }
    (fun s => admitReply s stOk 0)

def execPartnerAdmitRead (h : Hdr) (rsv : Bool) (unit : U64) (token : Bytes) (s : State) : Host.Outcome State Fault Refusal :=
  if Instr.wellFormed (.partnerAdmitRead h rsv unit token) then
    hostRow s (.partnerAdmitRead h rsv unit token) h 0x53 16 (actPartnerAdmitRead h rsv unit token)
  else .fault .illFormed

/-- The first reason against an admission. -/
def admitRefused (s : State) (unit : Nat) : Nat :=
  if s.partnerRole != 7 then 4
  else
    match s.pair.twin with
    | none => 4
    | some t =>
      if t.unit != unit then 1
      else if t.baseDigest != s.activeDigest 1 || t.policyDigest != s.activeDigest 2 then 2
      else if t.mirrorFormat != s.mirrorFormat then 3
      else 0

/-- A new pair tag, a free value from 1 to 255; a held veto is released and a resync starts.
(log entry 12: DESIGN CHOICE) -/
def admitPartner (s : State) (unit : Nat) : State × Bytes :=
  match admitRefused s unit with
  | 0 =>
    let s := { s with
      pair := { s.pair with
        paired := true, pairTag := (Config.freeValue s.free).toNat % 255 + 1, partnerUnit := unit, releasedState := 0
        resyncing := true, inStep := false, takenOver := false }
      saf := { s.saf with vetoOut := false }
      free := s.free + 1 }
    admitReply (event s 0x7151 (le 8 unit)) stOk 0
  | r => admitReply s stWrongMode r

def actPartnerAdmit (h : Hdr) (rsv : Bool) (unit : U64) (token : Bytes) (s : State) : State :=
  serve s h { op := 0x53, insts := 1, len := 16, lenOk := h.len == 44
              checks := [(rsv, stBadParam), (zeroToken token, stAuthRequired)] }
    (fun s => withToken s 16 [0x53] token (fun s => admitPartner s unit.toNat))

def execPartnerAdmit (h : Hdr) (rsv : Bool) (unit : U64) (token : Bytes) (s : State) : Host.Outcome State Fault Refusal :=
  if Instr.wellFormed (.partnerAdmit h rsv unit token) then
    hostRow s (.partnerAdmit h rsv unit token) h 0x53 16 (actPartnerAdmit h rsv unit token)
  else .fault .illFormed

/-! ### The boundary (R252, R265, R269, R270) -/

/-- What hand-over and tail-drop do at an epoch boundary. -/
def pairBoundary (s : State) : State :=
  let p := s.pair
  if s.mode == .shadow then
    if p.incoming && p.h1 ≤ s.epoch then
      let s := if p.handAction == 2 then activateTadpoles s else s
      takeOver s 1 250 true 0x7101 0
    else s
  else if !s.incharge then s
  else
    let s := if p.hand == 3 then { s with pair := { s.pair with hand := 0 } }
      else if p.hand == 1 && p.h1 ≤ s.epoch then
        if p.yielding then { s with pair := { s.pair with hand := 0 } }
        else { s with pair := { s.pair with hand := 2 } }
      else s
    if s.pair.yielding && !s.pair.yieldSent && s.pair.hand == 0 then yieldBoundary s else s

end Sys2Proof.Machine
end

