-- ==== Sys2Proof/Machine/Resets.lean ====
section
/-! DEFINITION. The safety set (R223 to R227) and the reset key switch: operations, windows, resets (R244 to R249). -/

namespace Sys2Proof.Machine

/-! ### A safety-set body (R223, R224) -/

/-- Entries of a body: key, instance, raw value. -/
def bodyEntries (b : Bytes) : List (Nat × Nat × Nat) :=
  (List.range (rd b 4 2)).map (fun i => let o := 8 + 8 * i; (rd b o 2, rd b (o + 2) 1, rd b (o + 4) 4))

/-- The feedback geometry keys of R54. -/
def geometryKeys : List Nat := [0x1002, 0x1003, 0x1100, 0x1101, 0x1102, 0x1103, 0x1206, 0x1208]

/-- A key that a body may hold. -/
def setKey (key inst : Nat) : Option KeySpec :=
  if (0x6000 ≤ key && key < 0x6200) || geometryKeys.contains key then
    match findKey key with
    | some r => if inst < r.insts then some r else none
    | none => none
  else none

/-- The 32-bit value of an entry as its key's type reads it, in range. -/
def setValue (r : KeySpec) (v : Nat) : Option Int :=
  let x : Int := if (typeBits r.type).2 then toSigned 32 v else v
  if keyRangeOk r unset x then some x else none

/-- Strictly ascending (key, instance). -/
def kiLt (a b : Nat × Nat × Nat) : Bool := a.1 < b.1 || (a.1 == b.1 && a.2.1 < b.2.1)

/-- The first failing entry with its reason of Table 09.8, or the parsed entries. -/
def parseEntries (b : Bytes) : Option (Nat × Nat × Nat) → List (Nat × Nat × Nat) → Nat → (Nat × Nat × Nat) ⊕ List (Nat × Nat × Int)
  | _, [], _ => .inr []
  | prev, e :: es, i =>
    if (match prev with | some p => !kiLt p e | none => false) then .inl (2, e.1, e.2.1)
    else
      match setKey e.1 e.2.1 with
      | none => .inl (3, e.1, e.2.1)
      | some r =>
        match setValue r e.2.2 with
        | none => .inl (4, e.1, e.2.1)
        | some v =>
          if rd b (8 + 8 * i + 3) 1 != 0 then .inl (4, e.1, e.2.1)
          else
            match parseEntries b (some e) es (i + 1) with
            | .inl x => .inl x
            | .inr xs => .inr ((e.1, e.2.1, v) :: xs)

/-- An entry whose range depends on others: `si_index` by function, `si_reaction` of functions 1 and 2 only. -/
def dependent (q : SafetySet) (e : Nat × Nat × Int) : Bool :=
  let fn := setVal q 0x6100 e.2.1
  let top : Int := if fn == 3 || fn == 4 then 1 else if fn == 9 then 7 else 0
  (e.1 == 0x6102 && e.2.2 > top) || (e.1 == 0x6106 && e.2.2 != 0 && fn != 1 && fn != 2)

/-- The inputs of a function assigned to a car by a set. -/
def setInputs (q : SafetySet) (fn c : Nat) : List Nat :=
  inputs96.filter (fun i => setVal q 0x6100 i == (fn : Int) && setVal q 0x6101 i == (c : Int))

/-- The rules of R224 for one enabled car. -/
def carRules (q : SafetySet) (c : Nat) : Bool :=
  let n := fun (fn : Nat) => (setInputs q fn c).length
  let at_ := fun (fn k : Nat) => ((setInputs q fn c).filter (fun i => setVal q 0x6102 i == (k : Int))).length
  let side := fun (k : Nat) => bitAt (setVal q 0x6002 c).toNat k
  let up := setVal q 0x6011 c
  let dn := setVal q 0x6012 c
  [5, 7, 8, 11, 12].all (fun fn => n fn == 1)
    && [3, 4].all (fun fn => [0, 1].all (fun k => at_ fn k == b2n (side k)))
    && n 1 ≥ 1 && n 6 ≤ 1
    && (up == unset || dn == unset || dn < up)
    && [0x6005, 0x6006, 0x6007, 0x6008].all (fun k => setVal q k c ≤ setVal q 0x6003 c)

def setEnables (q : SafetySet) (c : Nat) : Bool := setVal q 0x6001 c == 1

/-- The assignment rules of R224. -/
def setRules (q : SafetySet) : Bool :=
  cars8.all (fun c => !setEnables q c || carRules q c)
    && inputs96.all (fun i => let c := setVal q 0x6101 i; c == 0xFF || setEnables q c.toNat)

/-- Reasons 2 to 5 with the failing entry, or the set a body holds. (log entry 64: DEDUCED) -/
def parseSet (b : Bytes) : (Nat × Nat × Nat) ⊕ SafetySet :=
  if b.length != 8 + 8 * rd b 4 2 || rd b 6 2 != 0 then .inl (2, 0, 0)
  else
    match parseEntries b none (bodyEntries b) 0 with
    | .inl e => .inl e
    | .inr es =>
      let q : SafetySet := { number := rd b 0 4, entries := es, digest := sha256 b }
      match es.find? (dependent q) with
      | some e => .inl (4, e.1, e.2.1)
      | none => if setRules q then .inr q else .inl (5, 0, 0)

/-- 1 provisional, 2 complete (R210), and the enabled cars of a set. -/
def stateOfSet (q : SafetySet) : Nat :=
  if cars8.any (fun c => setEnables q c && (setVal q 0x6011 c == unset || setVal q 0x6012 c == unset)) then 1 else 2
/-- Log entry 64: DEDUCED. -/
def carsOfSet (q : SafetySet) : Nat := maskOf 8 (setEnables q)

/-! ### Staging and confirming (R224 to R226) -/

def stageReply (st reason : Nat) (q : Option SafetySet) (key inst : Nat) : Bytes :=
  match q with
  | none => le 1 st ++ le 1 reason ++ zeros 6 ++ le 2 key ++ le 1 inst ++ zeros 9
  | some q => le 1 st ++ le 1 reason ++ le 1 (stateOfSet q) ++ le 1 (carsOfSet q) ++ le 4 q.number ++ le 2 key ++ le 1 inst
      ++ le 1 0 ++ q.digest.take 6 ++ le 2 120

/-- The status that goes with a reason of Table 09.8. (log entry 64: DEDUCED) -/
def stageStatus (reason : Nat) : Nat := match reason with | 1 => stWrongMode | 4 => stRange | _ => stBadParam

/-- A set is staged: its window opens, replacing another, and an enrolment window closes as expired (R398).
(log entry 64: DEDUCED) -/
def stageSet (s : State) (slot : Nat) : State × Bytes :=
  let k := s.imgSlot (slotKey 3 slot)
  if !(k.state == 3 || k.state == 4 || k.state == 5) then (s, stageReply stWrongMode 1 none 0 0)
  else
    match parseSet (k.data.drop 160) with
    | .inl (r, key, inst) => (s, stageReply (stageStatus r) r none key inst)
    | .inr q =>
      let s := closeEnrol s 3
      let s := { s with saf := { s.saf with staged := some (q, slot, s.frame), confirmedAt := none, setExpired := false } }
      (event s 0x6150 (le 4 q.number), stageReply stOk 0 (some q) 0 0)

def actSafetySetStage (h : Hdr) (rsv : Bool) (slot : U8) (s : State) : State :=
  serve s h { op := 0x41, insts := 1, len := 20, lenOk := h.len == 4, checks := [(rsv || slot.toNat > 1, stBadParam)] }
    (fun s => stageSet s slot.toNat)

def execSafetySetStage (h : Hdr) (rsv : Bool) (slot : U8) (s : State) : Host.Outcome State Fault Refusal :=
  hostRow s (.safetySetStage h rsv slot) h 0x41 20 (actSafetySetStage h rsv slot)

/-- The first failing condition of R226, 0 for none. -/
def confirmReason (s : State) (number : Nat) (code : Bytes) : Nat :=
  match s.saf.staged with
  | none => if s.saf.setExpired then 2 else 1
  | some (q, _, opened) =>
    if s.msSince opened > 120000 then 2
    else if (match s.saf.confirmedAt with | some t => decide (s.msSince t > 60000) | none => true) then 3
    else if q.number != number || q.digest.take 6 != code then 4
    else if !cars8.all (fun c => !setEnables q c || (s.standstill c && (siblings (outOf c 0)).all (fun o => !s.energised o))) then 5
    else 0

/-- The geometry values of a set as parameter entries. -/
def geometryOf (q : SafetySet) : List (Nat × Int) :=
  (keyRows.filter (fun r => geometryKeys.contains r.key)).flatMap (fun r =>
    (List.range r.insts).map (fun i => (kix r.key i, setVal q r.key i)))

/-- The confirmed set is written; geometry keys are replaced in the committed set, in force and in the staging copy. -/
def adoptSet (s : State) (q : SafetySet) : State :=
  let put := fun t => (geometryOf q).foldl (fun t e => tset paramDflt t e.1 e.2) t
  { s with
    saf := { s.saf with set := some q, staged := none, confirmedAt := none, setExpired := false }
    params := { s.params with
      committed := { s.params.committed with vals := put s.params.committed.vals }
      force := put s.params.force
      staged := { s.params.staged with vals := put s.params.staged.vals } } }

def confirmReply (s : State) (st reason : Nat) (q : Option SafetySet) : Bytes :=
  match q with
  | none => le 1 st ++ le 1 reason ++ zeros 2 ++ le 4 (setNumber s) ++ zeros 8
  | some q => le 1 st ++ le 1 reason ++ le 1 (stateOfSet q) ++ le 1 (carsOfSet q) ++ le 4 q.number ++ le 5 s.opTime ++ zeros 3

/-- Log entry 64: DEDUCED. -/
def confirmSet (s : State) (number : Nat) (code : Bytes) : State × Bytes :=
  match confirmReason s number code, s.saf.staged with
  | 0, some (q, _, _) =>
    let s := event (adoptSet s q) 0x6151 (le 4 q.number)
    (s, confirmReply s stOk 0 (some q))
  | r, _ => (s, confirmReply s (if r == 4 then stAuthFailed else stWrongMode) r none)

def actSafetySetConfirm (h : Hdr) (rsv : Bool) (setNumber : U32) (code : Bytes) (s : State) : State :=
  serve s h { op := 0x42, insts := 1, len := 16, lenOk := h.len == 12, checks := [(rsv, stBadParam)], mirrored := true }
    (fun s => confirmSet s setNumber.toNat code)

def execSafetySetConfirm (h : Hdr) (rsv : Bool) (setNumber : U32) (code : Bytes) (s : State) :
    Host.Outcome State Fault Refusal :=
  if Instr.wellFormed (.safetySetConfirm h rsv setNumber code) then
    hostRow s (.safetySetConfirm h rsv setNumber code) h 0x42 16 (actSafetySetConfirm h rsv setNumber code)
  else .fault .illFormed

/-- CONFIRM_WINDOW_EXPIRY: 120 s without a confirmation. -/
def execConfirmWindowExpiry (s : State) : Host.Outcome State Fault Refusal :=
  .next (if s.running && s.saf.staged.isSome then
      event { s with saf := { s.saf with staged := none, confirmedAt := none, setExpired := true } } 0x6152
    else s)

/-! ### TRIP_RESET_REQUEST (R246) -/

def tripResetReply (s : State) (st : Nat) : Bytes :=
  le 1 st ++ le 1 s.saf.tripWin.state ++ le 1 (trippedMask s) ++ le 1 (maskOf 8 (blockedCar s))
    ++ le 4 (s.windowLeft s.saf.tripWin 60000) ++ (cars8.map (fun c => le 2 (firstCause s c))).flatten

def actTripResetRead (h : Hdr) (rsv : Bool) (cars : U8) (s : State) : State :=
  serve s h { op := 0x43, insts := 1, len := 24, isRead := true, lenOk := h.len == 4, checks := [(rsv || cars != 0, stBadParam)] }
    (fun s => (s, tripResetReply s stOk))

def execTripResetRead (h : Hdr) (rsv : Bool) (cars : U8) (s : State) : Host.Outcome State Fault Refusal :=
  hostRow s (.tripResetRead h rsv cars) h 0x43 24 (actTripResetRead h rsv cars)

/-- The conditions of R246 on the selected cars, and the window. (log entry 64: DEDUCED) -/
def armTrip (s : State) (cars : Nat) : State × Bytes :=
  if s.saf.tripWin.state == 1 then (s, tripResetReply s stBusy)
  else if cars8.any (fun c => bitAt cars c && (!(s.carSaf c).trip || blockedCar s c)) then (s, tripResetReply s stWrongMode)
  else
    let s := { s with saf := { s.saf with tripWin := { state := 1, cars := cars, armedAt := s.frame } } }
    (s, tripResetReply s stOk)

def actTripResetArm (h : Hdr) (rsv : Bool) (cars : U8) (s : State) : State :=
  serve s h { op := 0x43, insts := 1, len := 24, lenOk := h.len == 4, checks := [(rsv || cars == 0, stBadParam)], mirrored := true }
    (fun s => armTrip s cars.toNat)

def execTripResetArm (h : Hdr) (rsv : Bool) (cars : U8) (s : State) : Host.Outcome State Fault Refusal :=
  hostRow s (.tripResetArm h rsv cars) h 0x43 24 (actTripResetArm h rsv cars)

def disarmTrip (s : State) : State × Bytes :=
  let s := if s.saf.tripWin.state == 1 then { s with saf := { s.saf with tripWin := {} } } else s
  (s, tripResetReply s stOk)

def actTripResetDisarm (h : Hdr) (rsv : Bool) (cars : U8) (s : State) : State :=
  serve s h { op := 0x43, insts := 1, len := 24, lenOk := h.len == 4, checks := [(rsv || cars != 0, stBadParam)], mirrored := true }
    disarmTrip

def execTripResetDisarm (h : Hdr) (rsv : Bool) (cars : U8) (s : State) : Host.Outcome State Fault Refusal :=
  hostRow s (.tripResetDisarm h rsv cars) h 0x43 24 (actTripResetDisarm h rsv cars)

/-- TRIP_RESET_WINDOW_EXPIRY: 60 s. -/
def execTripResetWindowExpiry (s : State) : Host.Outcome State Fault Refusal :=
  .next (if s.running then { s with saf := { s.saf with tripWin := expireWindow s.saf.tripWin } } else s)

/-! ### LOCKOUT_RESET_REQUEST (R249) -/

def lockReply (s : State) (st reason : Nat) : Bytes :=
  le 1 st ++ le 1 s.saf.lockWin.state ++ le 1 reason ++ le 1 0 ++ le 4 (s.windowLeft s.saf.lockWin 60000)
    ++ le 2 (if s.latch.isSet then s.latch.cause else 0) ++ le 5 (if s.latch.isSet then s.latch.time else 0) ++ le 1 0

def actLockoutResetRead (h : Hdr) (rsv : Bool) (token : Bytes) (s : State) : State :=
  serve s h { op := 0x44, insts := 1, len := 16, isRead := true, lenOk := h.len == 36
              checks := [(rsv || !zeroToken token, stBadParam)] }
    (fun s => (s, lockReply s stOk 0))

def execLockoutResetRead (h : Hdr) (rsv : Bool) (token : Bytes) (s : State) : Host.Outcome State Fault Refusal :=
  if Instr.wellFormed (.lockoutResetRead h rsv token) then
    hostRow s (.lockoutResetRead h rsv token) h 0x44 16 (actLockoutResetRead h rsv token)
  else .fault .illFormed

def armLock (s : State) : State × Bytes :=
  if !outs32.all (fun o => legsOpen (s.out o)) then (s, lockReply s stWrongMode 1)
  else if s.img.tap != 15 then (s, lockReply s stWrongMode 2)
  else if s.saf.lockWin.state == 1 then (s, lockReply s stBusy 0)
  else
    let s := { s with saf := { s.saf with lockWin := { state := 1, armedAt := s.frame } } }
    (s, lockReply s stOk 0)

def actLockoutResetArm (h : Hdr) (rsv : Bool) (token : Bytes) (s : State) : State :=
  serve s h { op := 0x44, insts := 1, len := 16, lenOk := h.len == 36
              checks := [(rsv, stBadParam), (zeroToken token, stAuthRequired)] }
    (fun s => withToken s 16 [0x44] token armLock)

def execLockoutResetArm (h : Hdr) (rsv : Bool) (token : Bytes) (s : State) : Host.Outcome State Fault Refusal :=
  if Instr.wellFormed (.lockoutResetArm h rsv token) then
    hostRow s (.lockoutResetArm h rsv token) h 0x44 16 (actLockoutResetArm h rsv token)
  else .fault .illFormed

/-- LOCKOUT_RESET_WINDOW_EXPIRY: 60 s. -/
def execLockoutResetWindowExpiry (s : State) : Host.Outcome State Fault Refusal :=
  .next (if s.running then { s with saf := { s.saf with lockWin := expireWindow s.saf.lockWin } } else s)

/-! ### Operations of the reset key switch (R225, R245) -/

/-- What an operation is. -/
inductive LrstKind where
  | reset | confirm | void
  deriving DecidableEq, Repr

/-- R245: both lines within 200 ms in and out, not operated again, and the hold decides. -/
def lrstKind (o : LrstOp) : LrstKind :=
  if o.bothEntered && !o.reoperated && o.entryMs ≤ 200 && o.releaseMs ≤ 200 then
    if 500 ≤ o.holdMs && o.holdMs ≤ 1500 then .reset
    else if 2000 ≤ o.holdMs && o.holdMs ≤ 10000 then .confirm else .void
  else .void

/-- A held input is released. -/
def releaseInput (q : SafIn) : SafIn := { q with held := false, runA := 0, runB := 0 }

/-- Held inputs of a car, and the unassigned ones (R198, R246). -/
def releaseInputs (s : State) (car : Option Nat) : State :=
  forEach inputs96 (fun s i =>
    if s.assigned i == car then s.modSafIn i releaseInput else s) s

/-- The latch of one car clears; beyond a final limit only the way back stays open (R207). -/
def clearTrip (s : State) (c : Nat) : State :=
  let s := s.modCarSaf c (fun k =>
    { k with
      trip := false, causes := [], tripTime := 0
      posRun := 0, spdRun := 0, limRunA := 0, limRunB := 0, ovRunA := 0, ovRunB := 0, etRunA := 0, etRunB := 0
      finalDir := if beyondFinal s c then some (wayBack s c, s.place c) else none })
  let s := { s with fm := { s.fm with carReaction := tset (dft none) s.fm.carReaction c none } }
  releaseInputs s (some c)

/-- The selected cars that hold a trip and no present cause. -/
def clearable (s : State) : List Nat :=
  cars8.filter (fun c => bitAt s.saf.tripWin.cars c && (s.carSaf c).trip && presentCauses s c == 0)

/-- A reset operation in an armed trip window, on the device whose cars run. -/
def resetTrips (s : State) : State :=
  let cs := clearable s
  let s := forEach cs clearTrip s
  let s := if cs.isEmpty then s else releaseInputs s none
  let s := { s with saf := { s.saf with tripWin := { s.saf.tripWin with state := 2 } } }
  let s := event s 0x6210 (le 1 (maskOf 8 cs.contains))
  notifyAll s 1 0x43 0 (tripResetReply s stOk)

/-- The same operation on a standby with the mirrored window (R247): cars that fail its own conditions stay latched. -/
def resetMirrored (s : State) : State :=
  let cs := (clearable s).filter (fun c => s.atRest c)
  let left := maskOf 8 (fun c => bitAt s.saf.tripWin.cars c && !cs.contains c)
  let s := forEach cs clearTrip s
  let s := if cs.isEmpty then s else releaseInputs s none
  { s with saf := { s.saf with tripWin := { s.saf.tripWin with state := 2 } }, pair := { s.pair with resetUnmet := left } }

/-- A reset operation in an armed lockout window (R249). -/
def resetLockout (s : State) : State :=
  let s := releaseInputs { s with latch := {}, saf := { s.saf with lockWin := { s.saf.lockWin with state := 2 } } } none
  startProving (event s 0x6211) 8

def resetOperation (s : State) : State :=
  let s := if s.saf.tripWin.state == 1 then
      (if s.mode == .shadow then resetMirrored s else resetTrips s) else s
  if s.saf.lockWin.state == 1 && s.mode == .lockout then resetLockout s else s

/-- A confirmation operation: it confirms a staged set and enrols a key (R225, R398). -/
def confirmOperation (s : State) : State :=
  let s := if s.saf.staged.isSome then { s with saf := { s.saf with confirmedAt := some s.frame } } else s
  enrolKey s

def voidWindow (w : Window) : Window := if w.state == 1 then { w with state := 4 } else w

/-- A void operation ends every armed window (R245), an open confirmation window only notes it (R225). -/
def voidOperation (s : State) : State :=
  let s := event s 0x6201
  let s := if s.saf.staged.isSome then event s 0x6152 else s
  let s := { s with saf := { s.saf with tripWin := voidWindow s.saf.tripWin, lockWin := voidWindow s.saf.lockWin } }
  closeEnrol s 4

/-- LRST_OPERATION_END. -/
def execLrstOperationEnd (op : LrstOp) (s : State) : Host.Outcome State Fault Refusal :=
  .next (if !s.working then s
    else match lrstKind op with
      | .reset => resetOperation s
      | .confirm => confirmOperation s
      | .void => voidOperation s)

end Sys2Proof.Machine
end

