-- ==== Sys2Proof/Machine/HostRun.lean ====
section
/-! DEFINITION. The execution queue (R373, R374): what each host request does when its turn comes, and the requests whose
turn has come. -/

namespace Sys2Proof.Machine

/-- A host request as the queue sees it: header, opcode, bytes of its full reply layout, and what executing it does. -/
structure HostReq where
  hdr : Hdr
  op : Nat
  len : Nat
  act : State → State

/-- Checks 2 and 3 of R376 for an opcode absent from Table 16.6, or 0xF0. -/
def unknownOpcode (h : Hdr) (opcode : Nat) (s : State) : State :=
  answer s h opcode false (refusal 4 (if h.flags != 0 then stBadParam else stBadOpcode))

/-- The request a command is, if it is one. -/
def hostOf : Instr → Option HostReq
  | .ping h rsv => some ⟨h, 0x00, 4, actPing h rsv⟩
  | .identityRead h rsv nonce => some ⟨h, 0x01, 236, actIdentityRead h rsv nonce⟩
  | .modeRequest h rsv target token => some ⟨h, 0x02, 4, actModeRequest h rsv target token⟩
  | .healthRead h rsv => some ⟨h, 0x03, 116, actHealthRead h rsv⟩
  | .slackRead h rsv options => some ⟨h, 0x04, 140, actSlackRead h rsv options⟩
  | .timeMark h rsv wallMs source accuracy => some ⟨h, 0x05, 16, actTimeMark h rsv wallMs source accuracy⟩
  | .paramRead h rsv key keyInst which => some ⟨h, 0x06, 16, actParamRead h rsv key keyInst which⟩
  | .paramWrite h rsv count entries => some ⟨h, 0x07, 8, actParamWrite h rsv count entries⟩
  | .paramCommit h rsv => some ⟨h, 0x08, 16, actParamCommit h rsv⟩
  | .paramCommitRead h rsv => some ⟨h, 0x08, 16, actParamCommitRead h rsv⟩
  | .paramDiscard h rsv => some ⟨h, 0x08, 16, actParamDiscard h rsv⟩
  | .provingReport h rsv which => some ⟨h, 0x09, reportLen which.toNat, actProvingReport h rsv which⟩
  | .callEnter h rsv kind origin dest destGroup pax flags car level =>
    some ⟨h, 0x10, 4, actCallEnter h rsv kind origin dest destGroup pax flags car level⟩
  | .callCancel h rsv callId => some ⟨h, 0x11, 4, actCallCancel h rsv callId⟩
  | .callQuery h rsv callId => some ⟨h, 0x12, 28, actCallQuery h rsv callId⟩
  | .itineraryRead h rsv => some ⟨h, 0x13, 4, actItineraryRead h rsv⟩
  | .carRegimeSet h rsv regime => some ⟨h, 0x14, 4, actCarRegimeSet h rsv regime⟩
  | .carServiceRemove h rsv => some ⟨h, 0x15, 4, actCarServiceRemove h rsv⟩
  | .carServiceAdd h rsv => some ⟨h, 0x15, 4, actCarServiceAdd h rsv⟩
  | .powerBudgetOverrideSet h rsv motorW regenW => some ⟨h, 0x16, 20, actPowerBudgetOverrideSet h rsv motorW regenW⟩
  | .powerBudgetOverrideRelease h rsv _ _ => some ⟨h, 0x16, 20, actPowerBudgetOverrideRelease h rsv⟩
  | .groupStatus h rsv => some ⟨h, 0x17, 28, actGroupStatus h rsv⟩
  | .tripTarget h rsv kind landing position vLimit => some ⟨h, 0x20, 16, actTripTarget h rsv kind landing position vLimit⟩
  | .jog h rsv direction => some ⟨h, 0x21, 8, actJog h rsv direction⟩
  | .stop h rsv cls => some ⟨h, 0x22, 8, actStop h rsv cls⟩
  | .motionStatus h rsv => some ⟨h, 0x23, 52, actMotionStatus h rsv⟩
  | .learnRunRead h rsv dzInput nSwitch switches => some ⟨h, 0x24, 72, actLearnRunRead h rsv dzInput nSwitch switches⟩
  | .learnRunStart h rsv dzInput nSwitch switches => some ⟨h, 0x24, 72, actLearnRunStart h rsv dzInput nSwitch switches⟩
  | .learnRunAbort h rsv dzInput nSwitch switches => some ⟨h, 0x24, 72, actLearnRunAbort h rsv dzInput nSwitch switches⟩
  | .brakeTestRead h rsv brakes directions => some ⟨h, 0x25, 16, actBrakeTestRead h rsv brakes directions⟩
  | .brakeTestStart h rsv brakes directions => some ⟨h, 0x25, 16, actBrakeTestStart h rsv brakes directions⟩
  | .positionRead h rsv source => some ⟨h, 0x26, if source == 2 then 24 else 48, actPositionRead h rsv source⟩
  | .doorStop h rsv targetPos vLimit => some ⟨h, 0x28, 8, actDoorStop h rsv targetPos vLimit⟩
  | .doorOpen h rsv targetPos vLimit => some ⟨h, 0x28, 8, actDoorOpen h rsv targetPos vLimit⟩
  | .doorClose h rsv targetPos vLimit => some ⟨h, 0x28, 8, actDoorClose h rsv targetPos vLimit⟩
  | .doorNudgeClose h rsv targetPos vLimit => some ⟨h, 0x28, 8, actDoorNudgeClose h rsv targetPos vLimit⟩
  | .doorHoldOpen h rsv targetPos vLimit => some ⟨h, 0x28, 8, actDoorHoldOpen h rsv targetPos vLimit⟩
  | .doorReleaseHold h rsv targetPos vLimit => some ⟨h, 0x28, 8, actDoorReleaseHold h rsv targetPos vLimit⟩
  | .doorReference h rsv targetPos vLimit => some ⟨h, 0x28, 8, actDoorReference h rsv targetPos vLimit⟩
  | .doorStatus h rsv => some ⟨h, 0x29, 52, actDoorStatus h rsv⟩
  | .doorTableWrite h rsv phases count entries => some ⟨h, 0x2A, 8, actDoorTableWrite h rsv phases count entries⟩
  | .doorTableRead h rsv => some ⟨h, 0x2B, 8, actDoorTableRead h rsv⟩
  | .loopConfigWrite h rsv cfg => some ⟨h, 0x30, 4, actLoopConfigWrite h rsv cfg⟩
  | .loopCoeffStage h rsv nSections uMin uMax slew ffGain sections =>
    some ⟨h, 0x31, 4, actLoopCoeffStage h rsv nSections uMin uMax slew ffGain sections⟩
  | .loopCoeffSwap h rsv mask => some ⟨h, 0x32, 16, actLoopCoeffSwap h rsv mask⟩
  | .loopCoeffSwapReset h rsv mask => some ⟨h, 0x32, 16, actLoopCoeffSwapReset h rsv mask⟩
  | .injectStart h rsv slot signal node amplitude p1 p2 p3 p4 =>
    some ⟨h, 0x33, 12, actInjectStart h rsv slot signal node amplitude p1 p2 p3 p4⟩
  | .injectStop h rsv slotMask => some ⟨h, 0x34, 4, actInjectStop h rsv slotMask⟩
  | .captureArm h rsv trigLoop trigger trigArg decimation nodes depth pretrigger level timeoutMs =>
    some ⟨h, 0x35, 8, actCaptureArm h rsv trigLoop trigger trigArg decimation nodes depth pretrigger level timeoutMs⟩
  | .captureRead h rsv channel first count => some ⟨h, 0x36, 16, actCaptureRead h rsv channel first count⟩
  | .loopStatus h rsv => some ⟨h, 0x37, 40, actLoopStatus h rsv⟩
  | .safetyStatus h rsv view => some ⟨h, 0x40, if view == 1 then 388 else 64, actSafetyStatus h rsv view⟩
  | .safetySetStage h rsv slot => some ⟨h, 0x41, 20, actSafetySetStage h rsv slot⟩
  | .safetySetConfirm h rsv setNumber code => some ⟨h, 0x42, 16, actSafetySetConfirm h rsv setNumber code⟩
  | .tripResetRead h rsv cars => some ⟨h, 0x43, 24, actTripResetRead h rsv cars⟩
  | .tripResetArm h rsv cars => some ⟨h, 0x43, 24, actTripResetArm h rsv cars⟩
  | .tripResetDisarm h rsv cars => some ⟨h, 0x43, 24, actTripResetDisarm h rsv cars⟩
  | .lockoutResetRead h rsv token => some ⟨h, 0x44, 16, actLockoutResetRead h rsv token⟩
  | .lockoutResetArm h rsv token => some ⟨h, 0x44, 16, actLockoutResetArm h rsv token⟩
  | .outputTestReport h rsv => some ⟨h, 0x45, 516, actOutputTestReport h rsv⟩
  | .pairStatus h rsv => some ⟨h, 0x50, 40, actPairStatus h rsv⟩
  | .handoverRead h rsv => some ⟨h, 0x51, 12, actHandoverRead h rsv⟩
  | .handoverRequest h rsv => some ⟨h, 0x51, 12, actHandoverRequest h rsv⟩
  | .handoverActivateTadpoles h rsv => some ⟨h, 0x51, 12, actHandoverActivateTadpoles h rsv⟩
  | .partnerReleaseRead h rsv token => some ⟨h, 0x52, 4, actPartnerReleaseRead h rsv token⟩
  | .partnerRelease h rsv token => some ⟨h, 0x52, 4, actPartnerRelease h rsv token⟩
  | .partnerAdmitRead h rsv unit token => some ⟨h, 0x53, 16, actPartnerAdmitRead h rsv unit token⟩
  | .partnerAdmit h rsv unit token => some ⟨h, 0x53, 16, actPartnerAdmit h rsv unit token⟩
  | .mirrorStatus h rsv => some ⟨h, 0x54, 24, actMirrorStatus h rsv⟩
  | .portConfig h rsv use cls rate ring car phase guardNs peerPair poll probeMs =>
    some ⟨h, 0x60, 4, actPortConfig h rsv use cls rate ring car phase guardNs peerPair poll probeMs⟩
  | .portStatus h rsv => some ⟨h, 0x61, 108, actPortStatus h rsv⟩
  | .nodeList h rsv first count => some ⟨h, 0x62, 4, actNodeList h rsv first count⟩
  | .pointRead h rsv point count => some ⟨h, 0x63, 12, actPointRead h rsv point count⟩
  | .pointWriteOutput h rsv point value => some ⟨h, 0x64, 8, actPointWriteOutput h rsv point value⟩
  | .pointForce h rsv point value => some ⟨h, 0x64, 8, actPointForce h rsv point value⟩
  | .pointForceRelease h rsv point value => some ⟨h, 0x64, 8, actPointForceRelease h rsv point value⟩
  | .pointMapWrite h rsv node expectProfile landing group side nEntries entries =>
    some ⟨h, 0x65, 4, actPointMapWrite h rsv node expectProfile landing group side nEntries entries⟩
  | .nodeMessageSend h rsv node msgLen data => some ⟨h, 0x66, 4, actNodeMessageSend h rsv node msgLen data⟩
  | .nodeMessageRead h rsv node msgLen => some ⟨h, 0x66, 4, actNodeMessageRead h rsv node msgLen⟩
  | .logCursorOpen h rsv from_ seq => some ⟨h, 0x70, 16, actLogCursorOpen h rsv from_ seq⟩
  | .logRead h rsv cursor maxCount => some ⟨h, 0x71, 20, actLogRead h rsv cursor maxCount⟩
  | .logCursorClose h rsv cursor => some ⟨h, 0x72, 4, actLogCursorClose h rsv cursor⟩
  | .logStatus h rsv => some ⟨h, 0x73, 40, actLogStatus h rsv⟩
  | .logClearChallenge h rsv => some ⟨h, 0x74, 36, actLogClearChallenge h rsv⟩
  | .logClear h rsv token => some ⟨h, 0x75, 12, actLogClear h rsv token⟩
  | .rateLimitRead h rsv burst code refillMs => some ⟨h, 0x76, 8, actRateLimitRead h rsv burst code refillMs⟩
  | .rateLimitSet h rsv burst code refillMs => some ⟨h, 0x76, 8, actRateLimitSet h rsv burst code refillMs⟩
  | .rateLimitRemove h rsv burst code refillMs => some ⟨h, 0x76, 8, actRateLimitRemove h rsv burst code refillMs⟩
  | .imageBegin h rsv type slot totalLen => some ⟨h, 0x80, 4, actImageBegin h rsv type slot totalLen⟩
  | .imageChunk h rsv offset len data => some ⟨h, 0x81, 8, actImageChunk h rsv offset len data⟩
  | .imageEnd h rsv => some ⟨h, 0x82, 40, actImageEnd h rsv⟩
  | .imageActivate h rsv type slot => some ⟨h, 0x83, 4, actImageActivate h rsv type slot⟩
  | .imageStatus h rsv => some ⟨h, 0x84, 340, actImageStatus h rsv⟩
  | .authChallenge h rsv => some ⟨h, 0x85, 36, actAuthChallenge h rsv⟩
  | .keyEnrolRead h rsv keyId key token => some ⟨h, 0x86, 16, actKeyEnrolRead h rsv keyId key token⟩
  | .keyEnrol h rsv keyId key token => some ⟨h, 0x86, 16, actKeyEnrol h rsv keyId key token⟩
  | .unknownOpcodePacket h opcode => some ⟨h, opcode.toNat, 4, unknownOpcode h opcode.toNat⟩
  | _ => none

/-- A defined opcode with an undefined action: refused at the first check that fails, at the latest at check 7. -/
def undefinedAction (s : State) (h : Hdr) (op insts len : Nat) (lenOk : Bool) : State :=
  serve s h { op := op, insts := insts, len := len, lenOk := lenOk, checks := [(true, stBadParam)] } (fun s => (s, refusal len stBadParam))

/-- The request at the head of the queue has its turn. (log entry 75: DEDUCED) -/
def takeTurn (s : State) : Waiting → State
  | .cmd i _ _ _ => match hostOf i with | some r => startReq s r.hdr r.op r.act | none => s
  | .action h op insts len lenOk => startReq s h op (fun s => undefinedAction s h op insts len lenOk)
  | .ready r => sendReply s r

/-- Requests run one after the other until one holds its reply; `n` bounds how many. -/
def drainN : Nat → State → State
  | 0, s => s
  | n + 1, s =>
    match s.host.waiting with
    | [] => s
    | w :: rest =>
      if s.hostBusy then s else drainN n (takeTurn { s with host := { s.host with waiting := rest } } w)

/-- The requests that were waiting have their turn while no reply is held (R374). (log entry 75: DEDUCED) -/
def drain (s : State) : State := drainN s.host.waiting.length s

end Sys2Proof.Machine
end

