-- ==== Sys2Proof/Machine/Croaks.lean ====
section
/-! DEFINITION. The croak bus (R258 to R262, R264, R266): frames, own slots, what a croak of another slot does, line
faults and a silent partner. -/

namespace Sys2Proof.Machine

/-! ### Frames (Table 11.2) -/

/-- Bits `lo` to `lo + n - 1` of a frame. -/
def croakField (f : BitVec 40) (lo n : Nat) : Nat := f.toNat / 2 ^ lo % 2 ^ n

/-- Start bit 0, stop bit 1 and a CRC-6 that agrees. -/
def croakChecks (f : BitVec 40) : Bool :=
  croakField f 39 1 == 0 && croakField f 0 1 == 1 && croakField f 1 6 == crc6 f

/-- The frame that the device sends, with the verdict it carries. -/
def croakFrame (s : State) (verdict : Option (Nat × Bool)) : BitVec 40 :=
  let v := match verdict with | some (p, b) => 2 ^ 18 + p * 2 ^ 16 + b2n b * 2 ^ 15 | none => 0
  let body := BitVec.ofNat 40 (s.pins.pos.toNat * 2 ^ 36 + s.ownRole % 8 * 2 ^ 33 + s.epoch % 256 * 2 ^ 25
    + s.healthBits * 2 ^ 21 + b2n s.pair.arbRequest * 2 ^ 20 + b2n (!s.twinLost) * 2 ^ 19 + v + s.pair.pairTag % 256 * 2 ^ 7 + 1)
  body ||| BitVec.ofNat 40 (crc6 body * 2)

/-! ### The own slot -/

/-- A slot's period ends. Ten misses leave nothing of it. (log entry 81: DEDUCED) -/
def rollSlot (k : Croak) : Croak :=
  let roles := ((if k.now then k.role else 0xFF) :: k.roles).take 10
  if roles.any (· != 0xFF) then
    { k with now := false, roles := roles, activeRun := if k.now && k.role == 1 then k.activeRun + 1 else 0 }
  else {}

/-- R262: LOCKOUT without croaking. -/
def collide (s : State) : State :=
  raise { s with pair := { s.pair with mute := true } } { code := 0x7140, sev := 4 }

/-- R262 over the first 10 periods of croaking: the croak just past was read back on neither line, others were heard. -/
def startRule (s : State) : State :=
  let p := s.pair
  let others := (List.range 9).any (fun n => n != s.pins.pos.toNat && (s.croak n).now)
  if p.lastFrame != 0 && p.croaks ≤ 10 && !p.backA && !p.backB && others then
    let s := { s with pair := { s.pair with startMisses := p.startMisses + 1 } }
    if p.startMisses + 1 ≥ 3 then collide s else s
  else { s with pair := { s.pair with startMisses := 0 } }

/-- The last five periods of a slot. -/
def last5 (k : Croak) : List Nat := k.roles.take 5

/-- The verdict for pair `p`: POS[0] of the device that is to hold the active role (R266). -/
def verdictFor (s : State) (p : Nat) : Bool :=
  let a := s.croak (2 * p)
  let b := s.croak (2 * p + 1)
  let any := fun (k : Croak) (rs : List Nat) => (last5 k).any (fun r => rs.contains r)
  let inA := (last5 a).any (· != 0xFF)
  let inB := (last5 b).any (· != 0xFF)
  if inA != inB then inB
  else if any a [1, 6] != any b [1, 6] then any b [1, 6]
  else if any a [1, 5] && any b [1, 5] then decide (a.activeRun < b.activeRun)
  else decide (b.health < a.health)

/-- The verdict that goes into the next croak, and what is left of the queue. (log entry 81: DEDUCED) -/
def nextVerdict (s : State) : Option (Nat × Bool × Nat) × List (Nat × Bool) :=
  if !(s.mode == .service || s.mode == .shadow || s.mode == .commission) then (none, s.pair.verdictQueue)
  else
    let q := s.pair.verdictQueue
    let later := q.map (fun e => (e.1, false))
    match s.pair.verdict with
    | some (p, b, n + 1) => (some (p, b, n), later)
    | _ =>
      match (List.range 4).find? (fun p => q.contains (p, false)) with
      | some p => (some (p, verdictFor s p, 9), later.filter (fun e => e.1 != p))
      | none => (none, later)

/-- The device sends its croak. -/
def sendCroak (s : State) : State :=
  if s.ownRole == 0xFF then { s with pair := { s.pair with lastFrame := 0 } }
  else
    let (v, q) := nextVerdict s
    let f := croakFrame s (v.map (fun x => (x.1, x.2.1)))
    let p := s.pair
    { s with pair := { p with
        lastFrame := f, backA := false, backB := false, croaks := min 11 (p.croaks + 1), verdict := v, verdictQueue := q
        claimLeft := if s.ownRole == 5 then p.claimLeft - 1 else p.claimLeft } }

/-- CROAK_SLOT: a croak period ends and the device croaks, in the modes that croak. -/
def execCroakSlot (s : State) : Host.Outcome State Fault Refusal :=
  .next (if !s.running then s
    else
      let s := startRule s
      sendCroak (forEach (List.range 9) (fun s n => s.modCroak n rollSlot) s))

/-! ### Croaks heard -/

/-- Arbitration is asked for pair `p` in slot `n`, or its request has cleared (R266). -/
def hearRequest (s : State) (n : Nat) : State :=
  let p := n / 2
  if n == 8 || p == s.pairNo then s
  else
    let q := s.pair.verdictQueue
    let serving := match s.pair.verdict with | some v => v.1 == p | none => false
    if (s.croak (2 * p)).arbRequest || (s.croak (2 * p + 1)).arbRequest then
      if serving || q.any (fun e => e.1 == p) then s
      else { s with pair := { s.pair with verdictQueue := q ++ [(p, n + 1 == s.pins.pos.toNat)] } }
    else { s with pair := { s.pair with
      verdictQueue := q.filter (fun e => e.1 != p), verdict := if serving then none else s.pair.verdict } }

/-- A verdict for the own pair from a counted slot; each slot counts once (R266, R267). -/
def hearVerdict (s : State) (n : Nat) (f : BitVec 40) : State :=
  let p := s.pair
  if p.arbRequest && croakField f 18 1 == 1 && croakField f 16 2 == s.pairNo && p.arbCounted.contains n
      && !p.arbVotes.any (fun v => v.1 == n) then
    { s with pair := { p with arbVotes := p.arbVotes ++ [(n, croakField f 15 1 == 0)] } }
  else s

/-- The partner's croak while this device is a standby. (log entry 83: DEDUCED) -/
def standbyHears (s : State) (r : Nat) : State :=
  let p := s.pair
  if p.settleWait then settle s
  else if p.awaiting then s
  else if r == 3 || r == 4 then
    if p.claiming then s
    else { s with pair := { p with yieldHeard := some (p.yieldHeard.getD p.lastCommit) } }
  else if (r == 1 || r == 2 || r == 6) && !p.claiming && !p.inStep && !p.resyncing && !s.twinLost then
    if p.paired && p.pairTag != 0 && p.pairTag == s.partner.pairTag then { s with pair := { p with resyncing := true } }
    else event { s with pair := { p with awaiting := true } } 0x7152
  else s

/-- The partner's croak while this device is in charge: hand-over (R273), return of a partner (R268, R280).
(log entry 83: DEDUCED) -/
def activeHears (s : State) (r : Nat) : State :=
  let s := if r == 3 || (r == 4 && s.pair.hand == 1) then partnerLostInHand s else s
  let s := if s.pair.takenOver && (r == 1 || r == 6) then { s with saf := { s.saf with vetoOut := true } } else s
  let s :=
    if s.pair.handIn && s.mode == .service then
      if r == 1 then giveBack s else if r == 6 then s else { s with pair := { s.pair with handIn := false } }
    else s
  let s := if s.pair.inStep && r != 0 && s.pair.hand < 2 then leaveStep s else s
  if s.incharge && r == 0 && s.pair.paired && s.partner.pairTag == s.pair.pairTag && !s.pair.inStep && !s.twinLost then
    { s with pair := { s.pair with resyncing := true } }
  else s

/-- R268: both devices croak active or claim, other than during a hand-over. (log entry 81: DEDUCED) -/
def splitWatch (s : State) (r : Nat) : State :=
  let own := s.ownRole
  let both := (r == 1 || r == 5) && (own == 1 || own == 5) && s.pair.hand == 0 && !s.pair.handIn && !s.pair.incoming
  if !both then { s with pair := { s.pair with split := false } }
  else if s.pair.split then s
  else splitClaim s

/-- What the partner's croak of role `r` leads to. (log entry 82: DEDUCED) -/
def hearPartner (s : State) (r : Nat) : State :=
  let s := { s with pair := { s.pair with lastSign := s.frame } }
  let s := if s.mode == .shadow then standbyHears s r else if s.incharge then activeHears s r else s
  let s := if s.passive && s.anyOutOn then s.allOff else s
  splitWatch s r

/-- A checking croak of slot `n` other than the own: its fields, once a period. -/
def hearSlot (s : State) (n : Nat) (f : BitVec 40) : State :=
  let s := s.modCroak n (fun k => { k with
    heard := true, now := true, role := croakField f 33 3, health := croakField f 21 4, arbRequest := croakField f 20 1 == 1
    twinOk := croakField f 19 1 == 1, pairTag := croakField f 7 8 })
  let s := hearVerdict (hearRequest s n) n f
  if n == s.partnerSlot && s.mode != .proving then hearPartner s (croakField f 33 3) else s

/-- The own slot: the croak sent, read back; any other is a collision (R262). -/
def hearOwn (s : State) (line : Nat) (f : BitVec 40) : State :=
  if f == s.pair.lastFrame then
    let s := { s with pair := { s.pair with backA := s.pair.backA || line == 0, backB := s.pair.backB || line == 1 } }
    s.modCroak s.pins.pos.toNat (fun k => { k with heard := true, now := true, role := croakField f 33 3, health := croakField f 21 4 })
  else if s.pair.mute then s
  else collide s

/-- The device listens on the croak bus once unit 0x09 has passed (R262). -/
def State.listening (s : State) : Bool := s.running && (s.mode != .proving || (s.unit 9).result < 2)

/-- CROAK_RECEIVED: line 0 is CRK_A, 1 CRK_B. A frame that does not check is no croak. -/
def execCroakReceived (line : Fin 2) (slot : Fin 9) (frame : BitVec 40) (s : State) : Host.Outcome State Fault Refusal :=
  .next (if !(s.listening && croakChecks frame) then s
    else
      let s := { s with pair := { s.pair with crkGood := s.pair.crkGood ||| BitVec.ofNat 2 (2 ^ (line : Nat)) } }
      if (slot : Nat) == s.pins.pos.toNat then hearOwn s line frame
      else if (s.croak slot).now then s
      else drain (hearSlot s slot frame))

/-! ### Faults and silence -/

/-- CROAK_LINE_FAULT (R260), once while the line stays faulty. -/
def execCroakLineFault (line : Fin 2) (s : State) : Host.Outcome State Fault Refusal :=
  .next (if s.listening && s.pair.crkGood.getLsbD line then
      record { s with pair := { s.pair with crkGood := s.pair.crkGood &&& ~~~ BitVec.ofNat 2 (2 ^ (line : Nat)) } }
        { code := 0x7141, sev := 1, inst := line }
    else s)

/-- OWN_CROAK_NOT_READ_BACK (R261). -/
def execOwnCroakNotReadBack (s : State) : Host.Outcome State Fault Refusal :=
  .next (if s.power == .on && s.incharge then
      let s := record s { code := 0x7142, sev := 1 }
      if s.twinLost then lockoutBy s 0x7142 6 false else s
    else s)

/-- A partner that neither croaks nor answers on the twin link (R264, R271, R279). (log entry 82: DEDUCED) -/
def silentPartner (s : State) : State :=
  if !s.pair.paired then s
  else if s.mode == .shadow then
    if s.pair.awaiting || s.pair.claiming || s.pair.settleWait then s
    else requestArb { s with pair := { s.pair with
      claiming := true, claimLeft := 0, cleanSilence := decide (s.frame ≤ s.pair.lastSign + 32) } } 2
  else if s.incharge then
    let s := partnerLostInHand (record s { code := 0x7120, sev := 1 })
    if s.pair.yielding then finishYield s else s
  else s

/-- PARTNER_SILENT: five croaks missed (Table 11.4). -/
def execPartnerSilent (s : State) : Host.Outcome State Fault Refusal :=
  .next (if s.working && s.partner.heard then
      let s := s.modCroak s.partnerSlot (fun k => { k with heard := false })
      if s.twinLost then drain (silentPartner s) else record s { code := 0x7141, sev := 1 }
    else s)

end Sys2Proof.Machine
end

