-- ==== Sys2Proof/Machine/Twin.lean ====
section
/-! DEFINITION. The twin link (R253 to R257): lanes, what a standby loads from a verified commit, lost and missing commits,
and the end of a resync. -/

namespace Sys2Proof.Machine

/-- A value of the last second joins a list that keeps what can still be the largest of the last second. -/
def pushMax (frame v : Nat) (l : List (Nat × Nat)) : List (Nat × Nat) :=
  (frame, v) :: l.filter (fun e => decide (v < e.2) && decide (frame < e.1 + 32000))

/-! ### Lanes (R253, R256, R264, R273) -/

/-- Both lanes are lost: the twin link is. -/
def loseTwin (s : State) : State :=
  let fell := s.inStepStandby
  let s := if s.pair.inStep then leaveStep s else record s { code := 0x7122, sev := 1 }
  let s := releaseAll { s with pair := { s.pair with
    fellInStep := fell, resyncing := false, incoming := s.pair.incoming && decide (s.pair.h1 ≤ s.epoch) } }
  let s := if s.pair.hand == 1 then abortHand s 8 else s
  if !s.partner.heard then silentPartner s
  else if s.mode == .shadow && s.pair.paired && !s.pair.awaiting && s.partnerRole == 1 && !s.pair.arbRequest then requestArb s 4
  else s

/-- TWIN_LANE_LOST: no valid frame or idle sequence for two epochs. -/
def execTwinLaneLost (lane : Fin 2) (s : State) : Host.Outcome State Fault Refusal :=
  .next (if s.working && s.pair.lanes.getLsbD lane then
      let s := { s with pair := { s.pair with lanes := s.pair.lanes &&& ~~~ BitVec.ofNat 2 (2 ^ (lane : Nat)) } }
      if s.twinLost then drain (loseTwin s) else record s { code := 0x7121, sev := 1, inst := lane }
    else s)

/-- TWIN_LANE_RESTORED: the lane delivers again; a paired device that had lost the link resyncs. -/
def execTwinLaneRestored (lane : Fin 2) (s : State) : Host.Outcome State Fault Refusal :=
  .next (if s.working then
      let back := s.twinLost && s.pair.paired && !s.pair.inStep && (s.incharge || (s.mode == .shadow && !s.pair.awaiting))
      { s with pair := { s.pair with
          lanes := s.pair.lanes ||| BitVec.ofNat 2 (2 ^ (lane : Nat)), resyncing := s.pair.resyncing || back
          lastSign := s.frame } }
    else s)

/-! ### Loading a commit (R257) -/

/-- The health record's `divergence` goes up by one. (log entry 83: DEDUCED) -/
def diverge (s : State) : State :=
  { s with proving := { s.proving with divergence := satN 16 (s.proving.divergence + 1) } }

/-- R80 for channel `n`: the count offset at the first sample of epoch `e`, and the mirrored flags and angle, which goes on by
the counts of the own samples since. (log entry 84: DEDUCED) -/
def loadChannel (m : Mirror) (s : State) (n : Nat) : State :=
  let theirs := tget (dft {}) m.fb.chans n
  let own := s.enc n
  let s := s.modEnc n (fun k => { k with referenced := theirs.referenced, uncertain := theirs.uncertain, angle := theirs.angle })
  match own.hist.find? (fun h => h.1 == tickEdge (4 * m.epoch)) with
  | none => s
  | some h =>
    let offset := theirs.trip - h.2
    let angle := (((theirs.angle : Int) + own.trip.toInt - h.2) % max 1 (s.par 0x1002 n)).toNat
    let s := s.modEnc n (fun k => { k with offset := offset, angle := angle })
    if s.pair.inStep && !s.unitSkipped 0x08 && decide (4 < (offset - own.offset).natAbs) then
      diverge (record s { code := 0x1320, sev := 1, inst := n })
    else s

/-- R80 for car `c`. -/
def loadCarFb (m : Mirror) (s : State) (c : Nat) : State :=
  let k := tget (dft {}) m.fb.cars c
  s.modCarFb c (fun f => { f with c := k.c, cAnchor := k.cAnchor, anchored := k.anchored, tripDist := k.tripDist })

/-- A door takes the mirrored state (R135) and keeps what its own samples estimate (R140 to R143).
(log entry 84: DEDUCED) -/
def loadDoor (own m : Door) : Door :=
  { m with
    iPrev := own.iPrev, thetaPrev := own.thetaPrev, rotPrev := own.rotPrev, fastSamples := own.fastSamples
    speeds := own.speeds, estValid := own.estValid, estSpeed := own.estSpeed, delta := own.delta, force := own.force
    tracked := own.tracked, stallRun := own.stallRun, stalled := own.stalled, nodeLost := own.nodeLost }

/-- A requester of the active stands for every channel here: a takeover sends completions to all of them (R380). -/
def everyChan (l : List (Chan × U16)) : List (Chan × U16) :=
  ((l.map (fun n => [(Chan.port, n.2), (Chan.link, n.2)])).flatten).eraseDups

def loadMotion (own m : Motion) : Motion :=
  { hoist := tmap (dft {}) m.hoist (fun h => { h with bt := { h.bt with notify := everyChan h.bt.notify } }), slots := m.slots
    doors := (List.range 16).foldl (fun t d =>
      tset (dft {}) t d (loadDoor (tget (dft {}) own.doors d) (tget (dft {}) m.doors d))) [] }

/-- What the nodes of the doors go on from (R135). -/
def doorBases (m : Motion) : Tbl DoorBase :=
  (List.range 16).foldl (fun t d =>
    let x := tget (dft {}) m.doors d
    tset (dft {}) t d { pos := x.pos, address := x.address, frac := x.frac, increment := x.increment, refSpeed := x.refSpeed }) []

/-- R102 for loop `l`: the comparison, then the mirrored states, banks and flags. -/
def loadLoop (m : Mirror) (s : State) (l : Nat) : State :=
  let own := s.loop l
  let k := tget (dft {}) m.loops.loops l
  let diff := (own.edge - k.u).natAbs
  let compare := own.running && k.running && s.pair.inStep && s.loopRole l != 0 && !s.unitSkipped (4 + s.laneOf l)
  let ovr := compare && decide (s.par 0x2110 l < (diff : Int))
  let run := if ovr then own.shadowRun + 1 else if compare then 0 else own.shadowRun
  let diverged := ovr && decide (s.parN 0x2002 0 ≤ run)
  let s := s.modLoop l (fun x => { x with
    active := k.active, staged := k.staged, stageSeq := k.stageSeq, lastSwapEpoch := k.lastSwapEpoch
    secs := k.secs, aw := k.aw, u := k.u
    shadowRun := if diverged then 0 else run
    shadowDiffs := if compare then pushMax s.frame diff x.shadowDiffs else x.shadowDiffs })
  if diverged then diverge (record s { code := 0x2401, sev := 1, inst := l }) else s

/-- The calls of the active, whose completions a takeover sends to every channel (R380). -/
def loadDisp (d : Disp) : Disp :=
  { d with calls := d.calls.map (fun k => { k with notify := everyChan k.notify }) }

/-- Car-trip latches join the own ones (R247); windows, safe directions and output states are the active's.
(log entry 84: DEDUCED) -/
def loadSafety (m : Mirror) (s : State) : State :=
  let s := forEach cars8 (fun s c =>
    let k := tget (dft {}) m.saf.cars c
    s.modCarSaf c (fun x => { x with
      trip := x.trip || k.trip
      tripTime := if x.trip then x.tripTime else k.tripTime
      causes := x.causes ++ k.causes.filter (fun e => !x.causes.contains e)
      dirLatch := k.dirLatch })) s
  let s := { s with saf := { s.saf with tripWin := m.saf.tripWin } }
  forEach outs32 (fun s o =>
    let on := m.outsOn.contains o
    s.modOut o (fun x => { x with partnerOn := on, partnerOff := if x.partnerOn && !on then s.frame else x.partnerOff })) s

/-- The committed set whole, at its epoch; the staging copy and the learned positions (R384, R386, R430). -/
def loadParams (m : Mirror) (s : State) : State :=
  let s := if s.params.committed = m.params then s else adoptParams s m.params
  { s with params := { s.params with staged := m.staged, learned := m.learned } }

/-- One record of the active enters the own buffer with its number (R303); a `TIME_MARK` is the previous mark of the next
one (R309). -/
def loadRecord (s : State) (r : Record) : State :=
  let l := s.log
  if l.buffer.length ≥ 1024 then { s with log := { l with discarded := l.discarded + 1 } }
  else { s with log := { enterRec l r with
    lastMark := if r.code == 0x9140 then some (rd r.payload 0 8, r.opTime) else l.lastMark } }

/-- A clear of the active's log clears this one (R313). -/
def loadClear (s : State) (cleared : Option Nat) : State :=
  if cleared.isNone || cleared == s.log.lastClear then s
  else
    passCursors { s with log := { s.log with
      log := [], buffer := [], ring := [], ringLost := none, reserved := none, notKept := 0, firstNotKept := 0
      warned := false, damagedSeqs := [], lastClear := cleared } }

/-- A sequence number at or after `next`, in their 32-bit order. -/
def seqFrom (next seq : Nat) : Bool := (seq + 2 ^ 32 - next) % 2 ^ 32 < 2 ^ 31

/-- The recorder: next sequence, unflushed records, limits, operating time. A resync never lowers the own sequence (R301). -/
def loadRec (m : Mirror) (s : State) : State :=
  let s := loadClear s m.cleared
  let s := forEach (m.unflushed.filter (fun r => seqFrom s.log.nextSeq r.seq)) loadRecord s
  let next := if s.pair.inStep || seqFrom s.log.nextSeq m.nextSeq then m.nextSeq else s.log.nextSeq
  { s with log := { s.log with nextSeq := next, rates := m.rates, ratesNext := none }
           opTime := max s.opTime m.opTime }

/-- Host messages that a takeover will report (R366). -/
def loadMessages (m : Mirror) (s : State) : State :=
  let s := forEach (s.links.nodes.filter (fun n => n.2.txState == 1)) (fun s n =>
    s.modNode (n.1 / 256) (n.1 % 256) (fun x => { x with txState := 0, txHost := none })) s
  forEach m.messages (fun s e => s.modNode (e.1 / 256) (e.1 % 256) (fun x => { x with txState := 1, txHost := some e.2 })) s

/-- What the commit says of a pending hand-over: h1 makes this device the incoming one and abandons a slice (R50). -/
def loadHand (m : Mirror) (s : State) : State :=
  match m.h1 with
  | some (h1, act) =>
    if s.pair.inStep then
      abandonSlice { s with pair := { s.pair with incoming := true, h1 := h1, handAction := if act then 2 else 1 } }
    else s
  | none => { s with pair := { s.pair with incoming := false } }

/-- A verified commit: every item of Table 11.1. (log entry 84: DEDUCED) -/
def loadMirror (s : State) (m : Mirror) : State :=
  let s := forEach ((List.range 16).filter (chanAssigned s)) (loadChannel m) s
  let s := forEach cars8 (loadCarFb m) s
  let s := forEach (List.range 64) (loadLoop m) s
  let s := { s with
    loops := { s.loops with swap := m.loops.swap.map (fun w => { w with hdr := none }) }
    motion := loadMotion s.motion m.motion
    disp := loadDisp m.disp
    host := { s.host with replay := m.replay }
    proving := { s.proving with bgReload := none }
    pair := { s.pair with activeDigests := m.digests, doorBase := doorBases m.motion } }
  loadHand m (loadMessages m (loadRec m (loadParams m (loadSafety m s))))

/-- A commit verified by the standby. (log entry 84: DEDUCED) -/
def commitVerified (s : State) (m : Mirror) : State :=
  let s := loadMirror s m
  { s with pair := { s.pair with
      lastCommit := m.epoch, commitsOk := satN 32 (s.pair.commitsOk + 1), retrying := false, lastSign := s.frame } }

/-- A commit that fails its check: retransmitted once, as class T; failing twice, it ends the in-step state (R256). -/
def commitBad (s : State) : State :=
  if s.pair.retrying then leaveStep s
  else { s with pair := { s.pair with retrying := true, commitsRetried := satN 32 (s.pair.commitsRetried + 1) } }

/-- COMMIT_RECEIVED: by a standby in step or in its resync. -/
def execCommitReceived (good : Bool) (m : Mirror) (s : State) : Host.Outcome State Fault Refusal :=
  .next (if s.power == .on && s.mode == .shadow && !s.twinLost && !s.pair.awaiting && (s.pair.inStep || s.pair.resyncing) then
      if good then commitVerified s m else commitBad s
    else s)

/-- COMMIT_MISSING: a commit has been missing for two epochs. (log entry 84: DEDUCED) -/
def execCommitMissing (s : State) : Host.Outcome State Fault Refusal :=
  .next (if s.working then drain (leaveStep s) else s)

/-- RESYNC_COMPLETE (R256, R301): both devices go on from the larger next sequence, and the next record carries `seq_jump`.
A device that waited for admission is now paired (R280). The active records event 0x7123 for the pair. -/
def resynced (s : State) (partnerSeq : Nat) : State :=
  let p := s.pair
  let p := if p.awaiting then
      { p with awaiting := false, paired := true, pairTag := s.partner.pairTag
               partnerUnit := match p.twin with | some t => t.unit | none => p.partnerUnit } else p
  let next := if seqFrom s.log.nextSeq partnerSeq then partnerSeq else s.log.nextSeq
  let s := { s with
    pair := { p with inStep := true, resyncing := false, retrying := false, fellInStep := false, resyncs := satN 32 (p.resyncs + 1) }
    log := { s.log with nextSeq := next, jumpNext := true } }
  if s.incharge then event s 0x7123 else s

/-- Log entry 86: DESIGN CHOICE. -/
def execResyncComplete (partnerSeq : Nat) (s : State) : Host.Outcome State Fault Refusal :=
  .next (if s.working && !s.twinLost && !s.pair.inStep
        && (if s.mode == .shadow then s.pair.awaiting || s.pair.paired && s.pair.resyncing else s.incharge && s.pair.resyncing) then
      resynced s (partnerSeq % 2 ^ 32)
    else s)

end Sys2Proof.Machine
end

