-- ==== Sys2Proof/Machine/Memory.lean ====
section
/-! DEFINITION. Memory integrity in service (R290 to R298). -/

namespace Sys2Proof.Machine

def State.modMem (s : State) (f : Mem → Mem) : State := { s with mem := f s.mem }

/-! ### Stuck words and sparing (R293) -/

/-- Spare banks not yet taken, by PROVING, by a copy or in service. -/
def freeSpares (s : State) : Nat := 2 - (s.proving.banksBad.length + s.mem.spared + s.mem.copying.length + s.mem.takeover.length)

/-- A stuck word of SRAM bank `b`: above `mem_stuck_max` the bank is copied to a spare or waits for PROVING. -/
def stuckWord (s : State) (b : Nat) : State :=
  let n := tget (dft 0) s.mem.stuck b + 1
  let s := s.modMem (fun m => { m with stuck := tset (dft 0) m.stuck b n })
  let m := s.mem
  if n ≤ s.parN 0xA021 0 || m.copying.contains b || m.takeover.contains b || m.pending.contains b then s
  else if freeSpares s > 0 then s.modMem (fun m => { m with copying := m.copying ++ [b] })
  else record (s.modMem (fun m => { m with pending := m.pending ++ [b] })) { code := 0xA306, sev := 1, inst := b }

/-- BANK_COPY_COMPLETE: the spare takes over at the next epoch boundary. (log entry 86: DESIGN CHOICE) -/
def execBankCopyComplete (bank : Fin 26) (s : State) : Host.Outcome State Fault Refusal :=
  .next (if s.working && s.mem.copying.contains (bank : Nat) then
      s.modMem (fun m => { m with copying := m.copying.filter (· != (bank : Nat)), takeover := m.takeover ++ [(bank : Nat)] })
    else s)

/-- Spares whose copies are complete take over, with event 0xA305 each. -/
def sparesAtEpoch (s : State) : State :=
  let todo := s.mem.takeover
  let s := s.modMem (fun m => { m with takeover := [] })
  forEach todo (fun s b =>
    record (s.modMem (fun m => { m with spared := m.spared + 1, stuck := tset (dft 0) m.stuck b 0 })) { code := 0xA305, sev := 1, inst := b }) s

/-! ### Lost words (Table 12.4, R295, R296) -/

/-- The region byte of event 0xA304 or 0xA314. -/
def regionCode : Region → Nat
  | .carState _ => 0 | .itinerary _ => 1 | .calls _ => 2 | .points _ => 3 | .records _ => 4 | .capture _ => 5
  | .policy _ => 6 | .island => 7 | .other => 8 | .copy _ _ => 9 | .log _ => 10

/-- Severity and car of a lost word. (log entry 30: DEDUCED) -/
def regionSeverity : Region → Nat × Option Nat
  | .carState c => (3, some (c : Nat))
  | .itinerary c => (2, some (c : Nat))
  | .calls _ => (1, none)
  | .points _ => (1, none)
  | .records _ => (1, none)
  | .capture _ => (0, none)
  | .policy reloaded => (if reloaded then 1 else 4, none)
  | .island => (4, none)
  | .other => (4, none)
  | .copy item both =>
    if !both then (1, none)
    else match item with
      | .lockoutLatch => (1, none)
      | .carTrip c => (3, some (c : Nat))
      | _ => (4, none)
  | .log _ => (1, none)

/-- Mirrored state of Table 11.1, whose loss a standby meets with a resync. -/
def mirroredRegion : Region → Bool
  | .carState _ => true | .itinerary _ => true | .calls _ => true | .records _ => true | _ => false

/-- One of the car's calls enters its empty itinerary again: a boarded call by its destination only.
(log entry 32: DEDUCED) -/
def reinsert (s : State) (c : Nat) (k : Call) : State :=
  if k.state == 2 && k.kind != 1 && k.kind != 2 then s
  else
    let j := if k.state == 2 then { k with kind := 1 } else k
    match bestOf ((spots s c j).map (fun e => (insertionCost s c j e, e.1))) with
    | some (_, l) => s.modDcar c (fun d => { d with itin := l.map (fun x =>
        if k.kind == 3 && x.calls.any (fun u => u.1 == k.id) then { x with priority := true } else x) })
    | none => s

/-- The itinerary rebuilt from the car's remaining calls. (log entry 32: DEDUCED) -/
def rebuildItin (s : State) (c : Nat) : State :=
  let ks := s.disp.calls.filter (fun k => liveCall k && k.car == s.boardCar c && k.state != 0)
  forEach ks (fun s k => reinsert s c k) (s.modDcar c (fun d => { d with itin := [] }))

/-- The captured samples of the word read 0x80000000. -/
def loseSamples (c : Capture) (cells : List (Nat × Fin 4)) : Capture :=
  { c with samples := (c.samples.reverse.mapIdx (fun i row =>
      cells.foldl (fun r e => if e.1 == i then r.set (e.2 : Nat) (-2147483648) else r) row)).reverse }

/-- What is lost with the word, and what it is rewritten from. (log entry 30: DEDUCED) -/
def loseData (s : State) : Region → State
  | .itinerary c => rebuildItin s c
  | .calls ids =>
    let s := forEach ids (fun s i => (unassign s i).dropCall i) s
    if s.dispatches then enterLatches s else s
  | .points word => forEach (List.range 8) (fun s n => s.modPoint (8 * word.toNat + n) (fun x => { output := x.output })) s
  | .records seqs =>
    let there := fun r : Record => !seqs.contains r.seq
    { s with log := { s.log with
        buffer := s.log.buffer.filter there
        flushing := s.log.flushing.map (fun n => ((s.log.buffer.take n).filter there).length)
        gapNext := true } }
  | .capture cells => s.modCap (fun c => loseSamples c cells)
  | .copy .lockoutLatch true =>
    if s.latch.isSet then s else { s with latch := { isSet := true, cause := 0xA314, time := s.opTime } }
  | .copy (.carTrip _) _ | .copy .lockoutLatch _ => s
  | .copy item true => s.modMem (fun m => { m with itemLost := true, secretsLost := m.secretsLost || item == .secrets })
  | .log seq => { s with log := { s.log with damagedSeqs := s.log.damagedSeqs ++ [seq] } }
  | _ => s

/-- R295: a standby's lost word of mirrored state ends the in-step state and brings a resync. -/
def standbyLoss (s : State) (f : Finding) (r : Region) : State :=
  let s := leaveStep (loseData (record s { f with sev := 1 }) r)
  { s with pair := { s.pair with resyncing := s.pair.paired && !s.pair.awaiting && !s.twinLost } }

/-- An uncorrectable word: its data is lost. A word of a bank beyond sparing makes the active yield where R298 allows.
(log entry 31: DEDUCED) -/
def loseWord (s : State) (mram : Bool) (bank : Nat) (r : Region) : State :=
  let (sev, car) := regionSeverity r
  let f : Finding := { code := if mram then 0xA314 else 0xA304, sev := sev, cls := 2, inst := if mram then 0xFF else bank
                       car := car, payload := le 1 (regionCode r) }
  if s.mode == .shadow && mirroredRegion r then standbyLoss s f r
  else if !mram && s.mem.pending.contains bank && (sev == 2 || sev == 3) && s.mayYield (fun h => h.degraded / 16 % 16 != 0) then
    tailDrop (record s f) f.code sev
  else raise (loseData s r) f

/-! ### SCRUB_READ -/

/-- Counters of Table 12.6, by memory and finding. -/
def countFind (mram : Bool) (found : MemFind) (m : Mem) : Mem :=
  let up := satN 32
  match mram, found with
  | _, .clean => m
  | false, .corrected false => { m with sramCorrT := up (m.sramCorrT + 1) }
  | false, .corrected true => { m with sramCorrL := up (m.sramCorrL + 1) }
  | false, .transient => { m with sramUncT := up (m.sramUncT + 1) }
  | false, .lost => { m with sramUncL := up (m.sramUncL + 1) }
  | true, .corrected false => { m with mramCorrT := up (m.mramCorrT + 1) }
  | true, .corrected true => { m with mramCorrL := up (m.mramCorrL + 1) }
  | true, .transient => { m with mramUncT := up (m.mramUncT + 1) }
  | true, .lost => { m with mramUncL := up (m.mramUncL + 1) }

/-- A read of one codeword and what the code and the re-read find (R287, R290, R293, R294). (log entry 31: DEDUCED) -/
def memRead (s : State) (mram : Bool) (bank : Nat) (found : MemFind) (held : Region) : State :=
  let base := if mram then 0xA311 else 0xA301
  let inst := if mram then 0xFF else bank
  let s := s.modMem (countFind mram found)
  match found with
  | .clean => s
  | .corrected false => raise s { code := base, sev := 0, cls := 1, inst := inst }
  | .corrected true =>
    let s := raise s { code := base + 1, sev := 1, cls := 2, inst := inst }
    if mram then s else stuckWord s bank
  | .transient => raise s { code := base + 2, sev := 0, cls := 1, inst := inst }
  | .lost => loseWord s mram bank held

/-- SCRUB_READ: the scrubber, or the word's user, reads a codeword. -/
def execScrubRead (mram : Bool) (bank : Fin 26) (found : MemFind) (held : Region) (s : State) : Host.Outcome State Fault Refusal :=
  .next (if s.working then drain (memRead s mram bank found held) else s)

/-- SCRUB_PASS_COMPLETE: an SRAM pass ends; `scrub_target_ms` acts from the next one (R292). -/
def execScrubPassComplete (ms : Nat) (s : State) : Host.Outcome State Fault Refusal :=
  .next (if s.working then
      let s := (s.latch' .nextPass none).modMem (fun m =>
        { m with scrubLast := satN 16 ms, scrubMax := max m.scrubMax (satN 16 ms) })
      if 4000 < ms then record s { code := 0xA321, sev := 1 } else s
    else s)

end Sys2Proof.Machine
end

