-- ==== Sys2Proof/Machine/Events.lean ====
section
/-! DEFINITION. The samples of chapters 04 to 07, the epoch boundary (R254), and the completions that release what
waits for them. -/

namespace Sys2Proof.Machine

/-- After a sample or a boundary: a swap that is whole is answered, and requests behind it have their turn. -/
def settleUp (s : State) : State := drain (if s.incharge then swapDone s else s)

/-! ### Samples -/

/-- LOOP_SAMPLE: an auxiliary loop at its own rate and phase (R82). -/
def execLoopSample (l : Fin 64) (s : State) : Host.Outcome State Fault Refusal :=
  .next (if s.loopRole l == 3 && s.hoistRuns then settleUp (loopSample s l false) else s)

/-- A side of car `c` opens or stands open. (log entry 51: DEDUCED) -/
def sideOpens (s : State) (c : Nat) : Bool :=
  (List.range 2).any (fun side =>
    (s.door (2 * c + side)).state == .opening || (s.door (2 * c + side)).state == .opened)

/-- Log entry 51: DEDUCED. -/
def sideOpen (s : State) (c : Nat) : Bool := (List.range 2).any (fun side => (s.door (2 * c + side)).state == .opened)

/-- What levelling, advanced opening and the end of a Rescue move lead to (R114, R150, R187). -/
def afterHoist (s : State) (c : Nat) (old : Hoist) : State :=
  let h := s.hoist c
  let s := if h.phase == .running && (s.carSaf c).advBridge && !sideOpens s c then serveHere s c else s
  let s := if h.levelled && !old.levelled && sideOpen s c then doorsOpened s c else s
  if h.rescueDone && !old.rescueDone then rescueArrived s c else s

/-- HOIST_SAMPLE of a car. -/
def execHoistSample (car : Fin 8) (s : State) : Host.Outcome State Fault Refusal :=
  .next (if !s.working then s
    else
      let t := hoistSample s car
      if t.hoistRuns then settleUp (afterHoist t car (s.hoist car)) else t)

/-- DOOR_SAMPLE of an operator; open doors and locked doors serve the car's stop (R159). The shadow computation is suspended
while the door engine is under test (R49). -/
def execDoorSample (op : Fin 16) (s : State) : Host.Outcome State Fault Refusal :=
  .next (if s.doorsRun op && !s.suspended 0x0B then
      let c := doorCar op
      let t := doorSample s op
      let t := if (t.door op).state == .opened && (s.door op).state != .opened then doorsOpened t c else t
      settleUp (stopServed t c)
    else s)

/-! ### Completions -/

/-- FLUSH_COMPLETE (R304): reset may end, and a clear that waited for it is done (R313).
(log entry 86: DESIGN CHOICE) -/
def execFlushComplete (us : Nat) (s : State) : Host.Outcome State Fault Refusal :=
  .next (
    let s := tryRelease (endFlush s us)
    match s.log.clearing with
    | some h =>
      if s.log.flushing.isNone && s.running then
        let (s, p) := clearLog s
        drain (answer s h 0x75 true p)
      else s
    | none => s)

/-- RELEASE_CHECK_END (R240). -/
def execReleaseCheckEnd (held : Bool) (s : State) : Host.Outcome State Fault Refusal :=
  .next (drain (releaseCheckEnd s held))

/-- COMMIT_ACK_RECEIVED: the commit of `epoch` is complete, `us` after its boundary (R254, R255). -/
def execCommitAckReceived (epoch us : Nat) (s : State) : Host.Outcome State Fault Refusal :=
  .next (if s.power == .on && s.inStepActive && !s.twinLost && decide (epoch ≤ s.pair.sentEpoch) then
      let s := { s with pair := { s.pair with
        lastCommit := epoch, commitsOk := satN 32 (s.pair.commitsOk + 1), acks := pushMax s.frame us s.pair.acks } }
      drain (releaseUpTo s epoch)
    else s)

/-! ### The epoch boundary -/

/-- Outputs demanded for the boundary join the demands, and starts go on (R112). -/
def boundaryDemands (s : State) : State :=
  forEach cars8 (fun s c =>
    let s := match (s.hoist c).demEpoch with
      | some d => s.modHoist c (fun h => { h with dem := h.dem ||| d, demEpoch := none })
      | none => s
    checkReady s c) s

/-- R277: a car that a stale takeover took out returns once levelled with its doors closed and locked. -/
def staleReturn (s : State) : State :=
  forEach cars8 (fun s c =>
    if (s.dcar c).staleOut && (s.hoist c).levelled && s.doorsLocked c then s.modDcar c (fun d => { d with staleOut := false })
    else s) s

/-- The active's commit leaves; a yielding one sends none (R254, R270). -/
def sendCommit (s : State) : State :=
  let s := { s with pair := { s.pair with sentEpoch := if s.pair.yielding then s.pair.sentEpoch else s.epoch } }
  if s.inStepActive || s.pair.yielding then s else releaseUpTo s s.epoch

/-- The boundary on a device in charge. -/
def activeBoundary (s : State) : State :=
  let s := ratesAtEpoch (commitAtEpoch (swapBoundary (boundaryDemands s)))
  let s := staleReturn (if s.dispatches then dispatchEpoch s else s)
  pairBoundary (sendCommit s)

/-- The standby's part: loop outputs are kept for the comparison of R102, findings have left with the frames before, and
an epoch without a commit is counted (Table 03.11). -/
def shadowBoundary (s : State) : State :=
  let p := s.pair
  let late := p.inStep && decide (p.lastCommit + 1 < s.epoch)
  let s := forEach ((List.range 64).filter (fun l => s.loopRole l != 0)) (fun s l => s.modLoop l (fun x => { x with edge := x.u })) s
  let s := { s with
    pair := { s.pair with findingsOut := [] }
    proving := { s.proving with epochsMissed := satN 16 (s.proving.epochsMissed + b2n late) } }
  pairBoundary s

/-- A device that no longer drives answers what it still holds with NOT_ACTIVE (R379). (log entry 77: DEDUCED) -/
def dropHeld (s : State) : State :=
  if !s.host.held.isEmpty || s.params.commit.isSome || (s.loops.swap.bind (·.hdr)).isSome then failHeld s else s

/-- R395: a standby that activated a tadpole resyncs. -/
def imagesBoundary (s : State) : State :=
  let (s, changed) := imagesAtEpoch s
  if changed then { leaveStep s with pair := { (leaveStep s).pair with resyncing := s.pair.paired && !s.twinLost } } else s

/-- EPOCH_BOUNDARY. (log entry 77: DEDUCED) -/
def epochBoundary (s : State) : State :=
  let s := modeNotice (endReactions (sparesAtEpoch (imagesBoundary s)))
  if s.incharge then activeBoundary s
  else dropHeld (if s.mode == .shadow then shadowBoundary s else s)

def execEpochBoundary (s : State) : Host.Outcome State Fault Refusal :=
  .next (if s.working then settleUp (epochBoundary s) else s)

end Sys2Proof.Machine
end

