-- ==== Sys2Proof/Machine/Packets.lean ====
section
/-! DEFINITION. Sparas packets from a host (Table 16.3): the request a packet spells, field by field as the request layouts
of the owning chapters place them. -/

namespace Sys2Proof.Machine

/-! ### Fields of a payload; bytes beyond its end read 0 -/

def f8 (p : Bytes) (o : Nat) : U8 := BitVec.ofNat 8 (rd p o 1)
def f16 (p : Bytes) (o : Nat) : U16 := BitVec.ofNat 16 (rd p o 2)
def f32 (p : Bytes) (o : Nat) : U32 := BitVec.ofNat 32 (rd p o 4)
def f64 (p : Bytes) (o : Nat) : U64 := BitVec.ofNat 64 (rd p o 8)
/-- `n` bytes from offset `o`. -/
def fN (p : Bytes) (o n : Nat) : Bytes := fit n (p.drop o)
/-- Reserved bytes that are not zero. -/
def nz (p : Bytes) (o n : Nat) : Bool := (fN p o n).any (· != 0)

/-- Table 16.8's entries. -/
def paramEntries (p : Bytes) (n : Nat) : List ParamEntry :=
  (List.range n).map (fun i => let o := 4 + 12 * i; { key := f16 p o, inst := f8 p (o + 2), resv := f8 p (o + 3), value := f64 p (o + 4) })

/-- Table 05.6. -/
def loopCfgOf (p : Bytes) : LoopCfg :=
  { role := f8 p 0, owner := f8 p 1, rate := f8 p 2, phase := f8 p 3, format := f8 p 4, sections := f8 p 5, awMode := f8 p 6
    refSrc := f16 p 8, fbSrc := f16 p 10, ffSrc := f16 p 12, outDst := f16 p 14, errFs := f32 p 16, errWrap := f32 p 20
    deadband := f32 p 24, ffFs := f32 p 28, outFs := f32 p 32, shadowTol := f16 p 36 }

/-- A section of Table 05.7. -/
def secWire (p : Bytes) (o : Nat) : SecWire :=
  { b0 := f16 p o, b1 := f16 p (o + 2), b2 := f16 p (o + 4), a1 := f16 p (o + 6), a2 := f16 p (o + 8), cshift := f8 p (o + 10)
    flags := f8 p (o + 11) }

/-! ### Requests by opcode; none for an undefined action -/

/-- Opcodes 0x00 to 0x17. -/
def readLow (h : Hdr) (op : Nat) (p : Bytes) : Option Instr :=
  match op with
  | 0x00 => some (.ping h false)
  | 0x01 => some (.identityRead h false (fN p 0 16))
  | 0x02 => some (.modeRequest h (nz p 1 3) (f8 p 0) (fN p 4 32))
  | 0x03 => some (.healthRead h false)
  | 0x04 => some (.slackRead h false (f8 p 0))
  | 0x05 => some (.timeMark h (nz p 10 2) (f64 p 0) (f8 p 8) (f8 p 9))
  | 0x06 => some (.paramRead h false (f16 p 0) (f8 p 2) (f8 p 3))
  | 0x07 => some (.paramWrite h (nz p 1 3) (f8 p 0) (paramEntries p (rd p 0 1)))
  | 0x08 => match rd p 0 1 with
    | 0 => some (.paramCommitRead h (nz p 1 3))
    | 1 => some (.paramCommit h (nz p 1 3))
    | 2 => some (.paramDiscard h (nz p 1 3))
    | _ => none
  | 0x09 => some (.provingReport h false (f8 p 0))
  | 0x10 => some (.callEnter h false (f8 p 0) (f8 p 1) (f8 p 2) (f8 p 3) (f8 p 4) (f8 p 5) (f8 p 6) (f8 p 7))
  | 0x11 => some (.callCancel h (nz p 2 2) (f16 p 0))
  | 0x12 => some (.callQuery h (nz p 2 2) (f16 p 0))
  | 0x13 => some (.itineraryRead h false)
  | 0x14 => some (.carRegimeSet h (nz p 1 3) (f8 p 0))
  | 0x15 => match rd p 0 1 with
    | 0 => some (.carServiceRemove h (nz p 1 3))
    | 1 => some (.carServiceAdd h (nz p 1 3))
    | _ => none
  | 0x16 => match rd p 0 1 with
    | 0 => some (.powerBudgetOverrideSet h (nz p 1 3) (f32 p 4) (f32 p 8))
    | 1 => some (.powerBudgetOverrideRelease h (nz p 1 3) (f32 p 4) (f32 p 8))
    | _ => none
  | _ => some (.groupStatus h false)

/-- Opcodes 0x20 to 0x2B. -/
def readMotion (h : Hdr) (op : Nat) (p : Bytes) : Option Instr :=
  match op with
  | 0x20 => some (.tripTarget h (nz p 2 2) (f8 p 0) (f8 p 1) (f32 p 4) (f32 p 8))
  | 0x21 => some (.jog h (nz p 1 3) (f8 p 0))
  | 0x22 => some (.stop h (nz p 1 3) (f8 p 0))
  | 0x23 => some (.motionStatus h false)
  | 0x24 =>
    let sw := (List.range 8).map (fun i => f8 p (4 + i))
    match rd p 0 1 with
    | 0 => some (.learnRunRead h (nz p 3 1) (f8 p 1) (f8 p 2) sw)
    | 1 => some (.learnRunStart h (nz p 3 1) (f8 p 1) (f8 p 2) sw)
    | 2 => some (.learnRunAbort h (nz p 3 1) (f8 p 1) (f8 p 2) sw)
    | _ => none
  | 0x25 => match rd p 0 1 with
    | 0 => some (.brakeTestRead h (nz p 3 1) (f8 p 1) (f8 p 2))
    | 1 => some (.brakeTestStart h (nz p 3 1) (f8 p 1) (f8 p 2))
    | _ => none
  | 0x26 => some (.positionRead h (nz p 1 3) (f8 p 0))
  | 0x28 =>
    let t := f32 p 4
    let v := f32 p 8
    match rd p 0 1 with
    | 0 => some (.doorStop h (nz p 1 3) t v)
    | 1 => some (.doorOpen h (nz p 1 3) t v)
    | 2 => some (.doorClose h (nz p 1 3) t v)
    | 3 => some (.doorNudgeClose h (nz p 1 3) t v)
    | 4 => some (.doorHoldOpen h (nz p 1 3) t v)
    | 5 => some (.doorReleaseHold h (nz p 1 3) t v)
    | 6 => some (.doorReference h (nz p 1 3) t v)
    | _ => none
  | 0x29 => some (.doorStatus h false)
  | 0x2A => some (.doorTableWrite h (nz p 1 1) (f8 p 0) (f16 p 2)
      ((List.range (if h.len == 4 + 2 * rd p 2 2 then rd p 2 2 else 0)).map (fun i => f16 p (4 + 2 * i))))
  | _ => some (.doorTableRead h false)

/-- Opcodes 0x30 to 0x37. -/
def readLoops (h : Hdr) (op : Nat) (p : Bytes) : Option Instr :=
  match op with
  | 0x30 => some (.loopConfigWrite h (nz p 7 1 || nz p 38 2) (loopCfgOf p))
  | 0x31 => some (.loopCoeffStage h (nz p 1 1 || nz p 10 2) (f8 p 0) (f16 p 2) (f16 p 4) (f16 p 6) (f16 p 8)
      ((List.range 16).map (fun i => secWire p (12 + 12 * i))))
  | 0x32 => match rd p 8 1 with
    | 0 => some (.loopCoeffSwap h (nz p 9 3) (f64 p 0))
    | 1 => some (.loopCoeffSwapReset h (nz p 9 3) (f64 p 0))
    | _ => none
  | 0x33 => some (.injectStart h (nz p 3 1 || nz p 6 2) (f8 p 0) (f8 p 1) (f8 p 2) (f16 p 4) (f32 p 8) (f32 p 12) (f32 p 16) (f32 p 20))
  | 0x34 => some (.injectStop h (nz p 1 3) (f8 p 0))
  | 0x35 => some (.captureArm h false (f8 p 0) (f8 p 1) (f8 p 2) (f8 p 3) ((List.range 4).map (fun i => f16 p (4 + 2 * i)))
      (f32 p 12) (f32 p 16) (f32 p 20) (f32 p 24))
  | 0x36 => some (.captureRead h (nz p 1 3 || nz p 10 2) (f8 p 0) (f32 p 4) (f16 p 8))
  | _ => some (.loopStatus h false)

/-- Opcodes 0x40 to 0x54. -/
def readSafety (h : Hdr) (op : Nat) (p : Bytes) : Option Instr :=
  match op with
  | 0x40 => some (.safetyStatus h (nz p 1 3) (f8 p 0))
  | 0x41 => some (.safetySetStage h (nz p 1 3) (f8 p 0))
  | 0x42 => some (.safetySetConfirm h (nz p 10 2) (f32 p 0) (fN p 4 6))
  | 0x43 => match rd p 0 1 with
    | 0 => some (.tripResetRead h (nz p 2 2) (f8 p 1))
    | 1 => some (.tripResetArm h (nz p 2 2) (f8 p 1))
    | 2 => some (.tripResetDisarm h (nz p 2 2) (f8 p 1))
    | _ => none
  | 0x44 => match rd p 0 1 with
    | 0 => some (.lockoutResetRead h (nz p 1 3) (fN p 4 32))
    | 1 => some (.lockoutResetArm h (nz p 1 3) (fN p 4 32))
    | _ => none
  | 0x45 => some (.outputTestReport h false)
  | 0x50 => some (.pairStatus h false)
  | 0x51 => match rd p 0 1 with
    | 0 => some (.handoverRead h (nz p 1 3))
    | 1 => some (.handoverRequest h (nz p 1 3))
    | 2 => some (.handoverActivateTadpoles h (nz p 1 3))
    | _ => none
  | 0x52 => match rd p 0 1 with
    | 0 => some (.partnerReleaseRead h (nz p 1 3) (fN p 4 32))
    | 1 => some (.partnerRelease h (nz p 1 3) (fN p 4 32))
    | _ => none
  | 0x53 => match rd p 0 1 with
    | 0 => some (.partnerAdmitRead h (nz p 1 3) (f64 p 4) (fN p 12 32))
    | 1 => some (.partnerAdmit h (nz p 1 3) (f64 p 4) (fN p 12 32))
    | _ => none
  | _ => some (.mirrorStatus h false)

/-- Opcodes 0x60 to 0x86. -/
def readHigh (h : Hdr) (op : Nat) (p : Bytes) : Option Instr :=
  match op with
  | 0x60 => some (.portConfig h false (f8 p 0) (f8 p 1) (f8 p 2) (f8 p 3) (f8 p 4) (f8 p 5) (f16 p 6) (f8 p 8) (f8 p 9) (f16 p 10))
  | 0x61 => some (.portStatus h false)
  | 0x62 => some (.nodeList h (nz p 2 2) (f8 p 0) (f8 p 1))
  | 0x63 => some (.pointRead h (nz p 6 2) (f32 p 0) (f16 p 4))
  | 0x64 => match rd p 4 1 with
    | 0 => some (.pointWriteOutput h (nz p 5 1) (f32 p 0) (f16 p 6))
    | 1 => some (.pointForce h (nz p 5 1) (f32 p 0) (f16 p 6))
    | 2 => some (.pointForceRelease h (nz p 5 1) (f32 p 0) (f16 p 6))
    | _ => none
  | 0x65 => some (.pointMapWrite h (nz p 5 1) (f8 p 0) (f8 p 1) (f8 p 2) (f8 p 3) (f8 p 4) (f16 p 6)
      ((List.range (if h.len == 8 + 16 * rd p 6 2 then rd p 6 2 else 0)).map (fun i => fN p (8 + 16 * i) 16)))
  | 0x66 => match rd p 1 1 with
    | 0 => some (.nodeMessageSend h false (f8 p 0) (f16 p 2) (p.drop 4))
    | 1 => some (.nodeMessageRead h false (f8 p 0) (f16 p 2))
    | _ => none
  | 0x70 => some (.logCursorOpen h (nz p 1 3) (f8 p 0) (f32 p 4))
  | 0x71 => some (.logRead h (nz p 2 2) (f8 p 0) (f8 p 1))
  | 0x72 => some (.logCursorClose h (nz p 1 3) (f8 p 0))
  | 0x73 => some (.logStatus h false)
  | 0x74 => some (.logClearChallenge h false)
  | 0x75 => some (.logClear h false (fN p 0 32))
  | 0x76 => match rd p 0 1 with
    | 0 => some (.rateLimitRead h false (f8 p 1) (f16 p 2) (f32 p 4))
    | 1 => some (.rateLimitSet h false (f8 p 1) (f16 p 2) (f32 p 4))
    | 2 => some (.rateLimitRemove h false (f8 p 1) (f16 p 2) (f32 p 4))
    | _ => none
  | 0x80 => some (.imageBegin h (nz p 2 2) (f8 p 0) (f8 p 1) (f32 p 4))
  | 0x81 => some (.imageChunk h (nz p 6 2) (f32 p 0) (f16 p 4) (p.drop 8))
  | 0x82 => some (.imageEnd h false)
  | 0x83 => some (.imageActivate h (nz p 2 2) (f8 p 0) (f8 p 1))
  | 0x84 => some (.imageStatus h false)
  | 0x85 => some (.authChallenge h false)
  | _ => match rd p 0 1 with
    | 0 => some (.keyEnrolRead h (nz p 2 2) (f8 p 1) (fN p 4 64) (fN p 68 32))
    | 1 => some (.keyEnrol h (nz p 2 2) (f8 p 1) (fN p 4 64) (fN p 68 32))
    | _ => none

/-- The request of a packet with a defined opcode. -/
def readRequest (h : Hdr) (op : Nat) (p : Bytes) : Option Instr :=
  if op < 0x20 then readLow h op p
  else if op < 0x30 then readMotion h op p
  else if op < 0x40 then readLoops h op p
  else if op < 0x60 then readSafety h op p
  else readHigh h op p

/-- An opcode with actions: instances, bytes of the full reply layout, and whether the request's length fits. -/
def actionShape (h : Hdr) (op : Nat) (p : Bytes) : Nat × Nat × Bool :=
  match op with
  | 0x08 => (1, 16, h.len == 4)
  | 0x15 => (8, 4, h.len == 4)
  | 0x16 => (4, 20, h.len == 12)
  | 0x24 => (8, 72, h.len == 12)
  | 0x25 => (8, 16, h.len == 4)
  | 0x28 => (16, 8, h.len == 12)
  | 0x32 => (1, 16, h.len == 12)
  | 0x43 => (1, 24, h.len == 4)
  | 0x44 => (1, 16, h.len == 36)
  | 0x51 => (1, 12, h.len == 4)
  | 0x52 => (1, 4, h.len == 36)
  | 0x53 => (1, 16, h.len == 44)
  | 0x64 => (1, 8, h.len == 8)
  | 0x66 => (64, 4, h.len == 4 + rd p 2 2)
  | 0x76 => (1, 8, h.len == 8)
  | _ => (1, 16, h.len == 100)

/-! ### Packets -/

/-- The header and check fields of a packet. (log entry 76: DEDUCED) -/
def hdrOf (ch : Chan) (b : Bytes) : Hdr :=
  { chan := ch, flags := f8 b 1, inst := f8 b 5, seq := f16 b 6, crc := f32 b (b.length - 4), len := b.length - 12 }

/-- The CRC over everything before it agrees. -/
def crcAgrees (b : Bytes) : Bool := crc32c (b.take (b.length - 4)) == f32 b (b.length - 4)

/-- A refusal that no check of the queue precedes: BAD_CRC (R371) or BAD_LENGTH of a frame (R372). It is answered in its
turn and leaves no entry in the replay record. (log entry 76: DEDUCED) -/
def refuseAtOnce (s : State) (h : Hdr) (op st : Nat) : State :=
  if !s.chanUp h.chan then s
  else if (s.chan h.chan).waiting.length ≥ 16 then
    event (match h.chan with | .port => s.hqError 2 | .link => s) 0xA410
  else
    let s := s.modChan h.chan (fun c => { c with waiting := c.waiting ++ [(h.seq, h.crc)] })
    let r : HeldReply := { hdr := h, opcode := op, payload := refusal 4 st, epoch := 0 }
    if s.hostBusy || !s.host.waiting.isEmpty then { s with host := { s.host with waiting := s.host.waiting ++ [.ready r] } }
    else sendReply s r

/-- A packet with a good CRC is complete. -/
def completePacket (s : State) (ch : Chan) (b : Bytes) : State :=
  let h := hdrOf ch b
  let op := rd b 4 1
  let p := (b.drop 8).take h.len
  if (findOp op).isNone then
    complete s (.cmd (.unknownOpcodePacket h (f8 b 4)) h op 4) h op 4 (unknownOpcode h op)
  else
    match readRequest h op p with
    | some i =>
      match hostOf i with
      | some r => complete s (.cmd i h op r.len) h op r.len r.act
      | none => s
    | none =>
      let (insts, len, ok) := actionShape h op p
      complete s (.action h op insts len ok) h op len (fun s => undefinedAction s h op insts len ok)

/-- A packet is complete: check 1 of R376, then what it asks for. -/
def takePacket (s : State) (ch : Chan) (b : Bytes) : State :=
  if crcAgrees b then completePacket s ch b else refuseAtOnce s (hdrOf ch b) (rd b 4 1) stBadCrc

end Sys2Proof.Machine
end

