-- ==== Sys2Proof/Machine/HostPort.lean ====
section
/-! DEFINITION. The host port's transactions (R368 to R371), packets without a request row, and frames of a host channel
(R372). -/

namespace Sys2Proof.Machine

/-! ### Packets without a request row -/

/-- UNKNOWN_OPCODE_PACKET: an opcode absent from Table 16.6, or 0xF0. -/
def execUnknownOpcodePacket (h : Hdr) (opcode : U8) (s : State) : Host.Outcome State Fault Refusal :=
  if (findOp opcode.toNat).isSome then .fault .illFormed
  else hostRow s (.unknownOpcodePacket h opcode) h opcode.toNat 4 (unknownOpcode h opcode.toNat)

/-- BAD_CRC_PACKET: answered BAD_CRC with opcode, instance and sequence as received (R371). -/
def execBadCrcPacket (h : Hdr) (opcode : U8) (s : State) : Host.Outcome State Fault Refusal :=
  .next (refuseAtOnce s h opcode.toNat stBadCrc)

/-! ### The assembler (R371) -/

def State.setAsm (s : State) (b : Bytes) : State := { s with host := { s.host with asm := b } }

/-- Bytes are hunted for sync and collected into packets; `n` bounds the passes. What is left waits for more.
(log entry 76: DEDUCED) -/
def assemble : Nat → State → Bytes → State
  | 0, s, b => s.setAsm b
  | n + 1, s, b =>
    match b with
    | [] => s.setAsm []
    | x :: rest =>
      if x != 0xE7#8 then assemble n (s.hqError 1) rest
      else if b.length < 4 then s.setAsm b
      else
        let len := rd b 2 2
        if len < 12 || len > 4096 then assemble n (s.hqError 1) rest
        else if b.length < len then s.setAsm b
        else assemble n (takePacket s .port (b.take len)) (b.drop len)

/-- A partial packet is discarded: bit 0 of `errors`, event 0xA410. (log entry 76: DEDUCED) -/
def discardPartial (s : State) : State :=
  if s.host.asm.isEmpty then s else event ((s.setAsm []).hqError 0) 0xA410

/-! ### Transactions (Table 16.1) -/

/-- `role` of Table 16.2 is the own croak role. -/
def statusWord (s : State) : Bytes :=
  let c := s.host.port
  le 1 (modeCode s.mode) ++ le 1 s.ownRole ++ le 1 (satN 8 c.out.length) ++ le 1 c.waiting.length
    ++ le 2 (match c.out with | p :: _ => packetLen p | [] => 0) ++ le 1 s.host.errors.toNat ++ le 1 0

def State.drove (s : State) (b : Bytes) : State := { s with host := { s.host with sent := b } }

/-- HQ_STATUS returns the status word and clears the error bits it returned. -/
def execHqStatus (s : State) : Host.Outcome State Fault Refusal :=
  .next (if s.chanUp .port then
      let s := s.drove (statusWord s)
      { s with host := { s.host with errors := 0 } }
    else s)

/-- HQ_WRITE appends bytes to the assembler. -/
def execHqWrite (bytes : Bytes) (s : State) : Host.Outcome State Fault Refusal :=
  if Instr.wellFormed (.hqWrite bytes) then
    .next (if s.chanUp .port then
        let b := s.host.asm ++ bytes
        assemble (b.length + 1) (s.drove []) b
      else s)
  else .fault .illFormed

/-- HQ_READ with `clocked` bytes: the head packet and zeros; it leaves if its last byte was clocked, else bit 3 is set. -/
def execHqRead (clocked : Nat) (s : State) : Host.Outcome State Fault Refusal :=
  .next (if s.chanUp .port then
      match s.host.port.out with
      | [] => s.drove (zeros clocked)
      | p :: _ =>
        let s := s.drove (fit clocked (packetBytes p))
        if clocked < packetLen p then s.hqError 3 else popOut s .port
    else s)

/-- HQ_FLUSH discards a partly assembled packet. (log entry 76: DEDUCED) -/
def execHqFlush (s : State) : Host.Outcome State Fault Refusal :=
  .next (if s.chanUp .port then discardPartial (s.drove []) else s)

/-- HQ_UNKNOWN_COMMAND: ignored, with bit 5 of `errors`; a command byte of Table 16.1 is none. -/
def execHqUnknownCommand (byte : U8) (s : State) : Host.Outcome State Fault Refusal :=
  if byte == 0x11 || byte == 0x22 || byte == 0x33 || byte == 0x44 then .fault .illFormed
  else .next (if s.chanUp .port then (s.drove []).hqError 5 else s)

/-- PARTIAL_PACKET_TIMEOUT: `hq_partial_ms` after the last byte. -/
def execPartialPacketTimeout (s : State) : Host.Outcome State Fault Refusal :=
  .next (if s.chanUp .port then discardPartial s else s)

/-! ### Host channels (R336, R372) -/

/-- HOST_CHANNEL_FRAME: a good frame of type 0x20. A packet whose `length` differs from the frame's is answered BAD_LENGTH.
(log entry 76: DEDUCED) -/
def execHostChannelFrame (port : Fin 64) (bytes : Bytes) (s : State) : Host.Outcome State Fault Refusal :=
  .next (if s.working && s.portUse port == 2 then
      let s := { s with host := { s.host with linkUp := true } }
      if bytes.length < 12 || rd bytes 0 1 != 0xE7 then s
      else if rd bytes 2 2 != bytes.length then refuseAtOnce s (hdrOf .link bytes) (rd bytes 4 1) stBadLength
      else takePacket s .link bytes
    else s)

end Sys2Proof.Machine
end

