-- ==== Sys2Proof/Machine/Dispatch.lean ====
section
/-! DEFINITION. What each command does: one arm per constructor, in the order of spec/opcode_table.json. -/

namespace Sys2Proof.Machine

/-- The effect of command `i` on everything but the queue. -/
def exec (i : Instr) (s : State) : Host.Outcome State Fault Refusal :=
  match i with
  | .ping h rsv => Sys2Proof.Machine.execPing h rsv s
  | .identityRead h rsv nonce => Sys2Proof.Machine.execIdentityRead h rsv nonce s
  | .modeRequest h rsv target token => Sys2Proof.Machine.execModeRequest h rsv target token s
  | .healthRead h rsv => Sys2Proof.Machine.execHealthRead h rsv s
  | .slackRead h rsv options => Sys2Proof.Machine.execSlackRead h rsv options s
  | .timeMark h rsv wallMs source accuracy => Sys2Proof.Machine.execTimeMark h rsv wallMs source accuracy s
  | .paramRead h rsv key keyInst which => Sys2Proof.Machine.execParamRead h rsv key keyInst which s
  | .paramWrite h rsv count entries => Sys2Proof.Machine.execParamWrite h rsv count entries s
  | .paramCommit h rsv => Sys2Proof.Machine.execParamCommit h rsv s
  | .paramCommitRead h rsv => Sys2Proof.Machine.execParamCommitRead h rsv s
  | .paramDiscard h rsv => Sys2Proof.Machine.execParamDiscard h rsv s
  | .provingReport h rsv which => Sys2Proof.Machine.execProvingReport h rsv which s
  | .callEnter h rsv kind origin dest destGroup pax flags car level => Sys2Proof.Machine.execCallEnter h rsv kind origin dest destGroup pax flags car level s
  | .callCancel h rsv callId => Sys2Proof.Machine.execCallCancel h rsv callId s
  | .callQuery h rsv callId => Sys2Proof.Machine.execCallQuery h rsv callId s
  | .itineraryRead h rsv => Sys2Proof.Machine.execItineraryRead h rsv s
  | .carRegimeSet h rsv regime => Sys2Proof.Machine.execCarRegimeSet h rsv regime s
  | .carServiceRemove h rsv => Sys2Proof.Machine.execCarServiceRemove h rsv s
  | .carServiceAdd h rsv => Sys2Proof.Machine.execCarServiceAdd h rsv s
  | .powerBudgetOverrideSet h rsv motorW regenW => Sys2Proof.Machine.execPowerBudgetOverrideSet h rsv motorW regenW s
  | .powerBudgetOverrideRelease h rsv motorW regenW => Sys2Proof.Machine.execPowerBudgetOverrideRelease h rsv motorW regenW s
  | .groupStatus h rsv => Sys2Proof.Machine.execGroupStatus h rsv s
  | .tripTarget h rsv kind landing position vLimit => Sys2Proof.Machine.execTripTarget h rsv kind landing position vLimit s
  | .jog h rsv direction => Sys2Proof.Machine.execJog h rsv direction s
  | .stop h rsv cls => Sys2Proof.Machine.execStop h rsv cls s
  | .motionStatus h rsv => Sys2Proof.Machine.execMotionStatus h rsv s
  | .learnRunRead h rsv dzInput nSwitch switches => Sys2Proof.Machine.execLearnRunRead h rsv dzInput nSwitch switches s
  | .learnRunStart h rsv dzInput nSwitch switches => Sys2Proof.Machine.execLearnRunStart h rsv dzInput nSwitch switches s
  | .learnRunAbort h rsv dzInput nSwitch switches => Sys2Proof.Machine.execLearnRunAbort h rsv dzInput nSwitch switches s
  | .brakeTestRead h rsv brakes directions => Sys2Proof.Machine.execBrakeTestRead h rsv brakes directions s
  | .brakeTestStart h rsv brakes directions => Sys2Proof.Machine.execBrakeTestStart h rsv brakes directions s
  | .positionRead h rsv source => Sys2Proof.Machine.execPositionRead h rsv source s
  | .doorStop h rsv targetPos vLimit => Sys2Proof.Machine.execDoorStop h rsv targetPos vLimit s
  | .doorOpen h rsv targetPos vLimit => Sys2Proof.Machine.execDoorOpen h rsv targetPos vLimit s
  | .doorClose h rsv targetPos vLimit => Sys2Proof.Machine.execDoorClose h rsv targetPos vLimit s
  | .doorNudgeClose h rsv targetPos vLimit => Sys2Proof.Machine.execDoorNudgeClose h rsv targetPos vLimit s
  | .doorHoldOpen h rsv targetPos vLimit => Sys2Proof.Machine.execDoorHoldOpen h rsv targetPos vLimit s
  | .doorReleaseHold h rsv targetPos vLimit => Sys2Proof.Machine.execDoorReleaseHold h rsv targetPos vLimit s
  | .doorReference h rsv targetPos vLimit => Sys2Proof.Machine.execDoorReference h rsv targetPos vLimit s
  | .doorStatus h rsv => Sys2Proof.Machine.execDoorStatus h rsv s
  | .doorTableWrite h rsv phases count entries => Sys2Proof.Machine.execDoorTableWrite h rsv phases count entries s
  | .doorTableRead h rsv => Sys2Proof.Machine.execDoorTableRead h rsv s
  | .loopConfigWrite h rsv cfg => Sys2Proof.Machine.execLoopConfigWrite h rsv cfg s
  | .loopCoeffStage h rsv nSections uMin uMax slew ffGain sections => Sys2Proof.Machine.execLoopCoeffStage h rsv nSections uMin uMax slew ffGain sections s
  | .loopCoeffSwap h rsv mask => Sys2Proof.Machine.execLoopCoeffSwap h rsv mask s
  | .loopCoeffSwapReset h rsv mask => Sys2Proof.Machine.execLoopCoeffSwapReset h rsv mask s
  | .injectStart h rsv slot signal node amplitude p1 p2 p3 p4 => Sys2Proof.Machine.execInjectStart h rsv slot signal node amplitude p1 p2 p3 p4 s
  | .injectStop h rsv slotMask => Sys2Proof.Machine.execInjectStop h rsv slotMask s
  | .captureArm h rsv trigLoop trigger trigArg decimation nodes depth pretrigger level timeoutMs => Sys2Proof.Machine.execCaptureArm h rsv trigLoop trigger trigArg decimation nodes depth pretrigger level timeoutMs s
  | .captureRead h rsv channel first count => Sys2Proof.Machine.execCaptureRead h rsv channel first count s
  | .loopStatus h rsv => Sys2Proof.Machine.execLoopStatus h rsv s
  | .safetyStatus h rsv view => Sys2Proof.Machine.execSafetyStatus h rsv view s
  | .safetySetStage h rsv slot => Sys2Proof.Machine.execSafetySetStage h rsv slot s
  | .safetySetConfirm h rsv setNumber code => Sys2Proof.Machine.execSafetySetConfirm h rsv setNumber code s
  | .tripResetRead h rsv cars => Sys2Proof.Machine.execTripResetRead h rsv cars s
  | .tripResetArm h rsv cars => Sys2Proof.Machine.execTripResetArm h rsv cars s
  | .tripResetDisarm h rsv cars => Sys2Proof.Machine.execTripResetDisarm h rsv cars s
  | .lockoutResetRead h rsv token => Sys2Proof.Machine.execLockoutResetRead h rsv token s
  | .lockoutResetArm h rsv token => Sys2Proof.Machine.execLockoutResetArm h rsv token s
  | .outputTestReport h rsv => Sys2Proof.Machine.execOutputTestReport h rsv s
  | .pairStatus h rsv => Sys2Proof.Machine.execPairStatus h rsv s
  | .handoverRead h rsv => Sys2Proof.Machine.execHandoverRead h rsv s
  | .handoverRequest h rsv => Sys2Proof.Machine.execHandoverRequest h rsv s
  | .handoverActivateTadpoles h rsv => Sys2Proof.Machine.execHandoverActivateTadpoles h rsv s
  | .partnerReleaseRead h rsv token => Sys2Proof.Machine.execPartnerReleaseRead h rsv token s
  | .partnerRelease h rsv token => Sys2Proof.Machine.execPartnerRelease h rsv token s
  | .partnerAdmitRead h rsv unit token => Sys2Proof.Machine.execPartnerAdmitRead h rsv unit token s
  | .partnerAdmit h rsv unit token => Sys2Proof.Machine.execPartnerAdmit h rsv unit token s
  | .mirrorStatus h rsv => Sys2Proof.Machine.execMirrorStatus h rsv s
  | .portConfig h rsv use cls rate ring car phase guardNs peerPair poll probeMs => Sys2Proof.Machine.execPortConfig h rsv use cls rate ring car phase guardNs peerPair poll probeMs s
  | .portStatus h rsv => Sys2Proof.Machine.execPortStatus h rsv s
  | .nodeList h rsv first count => Sys2Proof.Machine.execNodeList h rsv first count s
  | .pointRead h rsv point count => Sys2Proof.Machine.execPointRead h rsv point count s
  | .pointWriteOutput h rsv point value => Sys2Proof.Machine.execPointWriteOutput h rsv point value s
  | .pointForce h rsv point value => Sys2Proof.Machine.execPointForce h rsv point value s
  | .pointForceRelease h rsv point value => Sys2Proof.Machine.execPointForceRelease h rsv point value s
  | .pointMapWrite h rsv node expectProfile landing group side nEntries entries => Sys2Proof.Machine.execPointMapWrite h rsv node expectProfile landing group side nEntries entries s
  | .nodeMessageSend h rsv node msgLen data => Sys2Proof.Machine.execNodeMessageSend h rsv node msgLen data s
  | .nodeMessageRead h rsv node msgLen => Sys2Proof.Machine.execNodeMessageRead h rsv node msgLen s
  | .logCursorOpen h rsv from_ seq => Sys2Proof.Machine.execLogCursorOpen h rsv from_ seq s
  | .logRead h rsv cursor maxCount => Sys2Proof.Machine.execLogRead h rsv cursor maxCount s
  | .logCursorClose h rsv cursor => Sys2Proof.Machine.execLogCursorClose h rsv cursor s
  | .logStatus h rsv => Sys2Proof.Machine.execLogStatus h rsv s
  | .logClearChallenge h rsv => Sys2Proof.Machine.execLogClearChallenge h rsv s
  | .logClear h rsv token => Sys2Proof.Machine.execLogClear h rsv token s
  | .rateLimitRead h rsv burst code refillMs => Sys2Proof.Machine.execRateLimitRead h rsv burst code refillMs s
  | .rateLimitSet h rsv burst code refillMs => Sys2Proof.Machine.execRateLimitSet h rsv burst code refillMs s
  | .rateLimitRemove h rsv burst code refillMs => Sys2Proof.Machine.execRateLimitRemove h rsv burst code refillMs s
  | .imageBegin h rsv type slot totalLen => Sys2Proof.Machine.execImageBegin h rsv type slot totalLen s
  | .imageChunk h rsv offset len data => Sys2Proof.Machine.execImageChunk h rsv offset len data s
  | .imageEnd h rsv => Sys2Proof.Machine.execImageEnd h rsv s
  | .imageActivate h rsv type slot => Sys2Proof.Machine.execImageActivate h rsv type slot s
  | .imageStatus h rsv => Sys2Proof.Machine.execImageStatus h rsv s
  | .authChallenge h rsv => Sys2Proof.Machine.execAuthChallenge h rsv s
  | .keyEnrolRead h rsv keyId key token => Sys2Proof.Machine.execKeyEnrolRead h rsv keyId key token s
  | .keyEnrol h rsv keyId key token => Sys2Proof.Machine.execKeyEnrol h rsv keyId key token s
  | .unknownOpcodePacket h opcode => Sys2Proof.Machine.execUnknownOpcodePacket h opcode s
  | .badCrcPacket h opcode => Sys2Proof.Machine.execBadCrcPacket h opcode s
  | .hqStatus => Sys2Proof.Machine.execHqStatus s
  | .hqWrite bytes => Sys2Proof.Machine.execHqWrite bytes s
  | .hqRead clocked => Sys2Proof.Machine.execHqRead clocked s
  | .hqFlush => Sys2Proof.Machine.execHqFlush s
  | .hqUnknownCommand byte => Sys2Proof.Machine.execHqUnknownCommand byte s
  | .partialPacketTimeout => Sys2Proof.Machine.execPartialPacketTimeout s
  | .vaonEntersRange => Sys2Proof.Machine.execVaonEntersRange s
  | .wakeHigh => Sys2Proof.Machine.execWakeHigh s
  | .wakeLow => Sys2Proof.Machine.execWakeLow s
  | .heldWakeDemandTaken => Sys2Proof.Machine.execHeldWakeDemandTaken s
  | .modeTransitionBegin => Sys2Proof.Machine.execModeTransitionBegin s
  | .rstNLow => Sys2Proof.Machine.execRstNLow s
  | .resetRelease => Sys2Proof.Machine.execResetRelease s
  | .supplyLoss vaon => Sys2Proof.Machine.execSupplyLoss vaon s
  | .suppliesRestored => Sys2Proof.Machine.execSuppliesRestored s
  | .provingUnitComplete unit result details durUs => Sys2Proof.Machine.execProvingUnitComplete unit result details durUs s
  | .bgSliceStart unit => Sys2Proof.Machine.execBgSliceStart unit s
  | .bgSliceComplete unit done result detail => Sys2Proof.Machine.execBgSliceComplete unit done result detail s
  | .bgCycleOverdue => Sys2Proof.Machine.execBgCycleOverdue s
  | .healthPublish tj vcore => Sys2Proof.Machine.execHealthPublish tj vcore s
  | .healthRecordReceived rec twin => Sys2Proof.Machine.execHealthRecordReceived rec twin s
  | .posStrapChange pos => Sys2Proof.Machine.execPosStrapChange pos s
  | .sampleFrameTick work => Sys2Proof.Machine.execSampleFrameTick work s
  | .epochBoundary => Sys2Proof.Machine.execEpochBoundary s
  | .shedEvaluation => Sys2Proof.Machine.execShedEvaluation s
  | .epochMarkReceived phase => Sys2Proof.Machine.execEpochMarkReceived phase s
  | .safetyCycle count hsfb lsfb ld => Sys2Proof.Machine.execSafetyCycle count hsfb lsfb ld s
  | .timebaseMarkMissing => Sys2Proof.Machine.execTimebaseMarkMissing s
  | .encoderSample samples => Sys2Proof.Machine.execEncoderSample samples s
  | .referenceMark chan edge => Sys2Proof.Machine.execReferenceMark chan edge s
  | .hoistSample car => Sys2Proof.Machine.execHoistSample car s
  | .auxObserverSample chan => Sys2Proof.Machine.execAuxObserverSample chan s
  | .ssiFrameReceived port word preHigh monoLow latch => Sys2Proof.Machine.execSsiFrameReceived port word preHigh monoLow latch s
  | .ssiClockAbsent port => Sys2Proof.Machine.execSsiClockAbsent port s
  | .loopSample loop => Sys2Proof.Machine.execLoopSample loop s
  | .injectionTimeout slot => Sys2Proof.Machine.execInjectionTimeout slot s
  | .captureTimeout => Sys2Proof.Machine.execCaptureTimeout s
  | .persistentAnomaly car => Sys2Proof.Machine.execPersistentAnomaly car s
  | .tripAdmission car => Sys2Proof.Machine.execTripAdmission car s
  | .pretorqueSettleExpiry car => Sys2Proof.Machine.execPretorqueSettleExpiry car s
  | .brakesOpenConfirmed car => Sys2Proof.Machine.execBrakesOpenConfirmed car s
  | .startTimeout car => Sys2Proof.Machine.execStartTimeout car s
  | .brakesClosedConfirmed car => Sys2Proof.Machine.execBrakesClosedConfirmed car s
  | .torqueHoldExpiry car => Sys2Proof.Machine.execTorqueHoldExpiry car s
  | .torqueRampEnd car => Sys2Proof.Machine.execTorqueRampEnd car s
  | .relevelDelayExpiry car => Sys2Proof.Machine.execRelevelDelayExpiry car s
  | .reversalDwellExpiry car => Sys2Proof.Machine.execReversalDwellExpiry car s
  | .jogKeepaliveExpiry car => Sys2Proof.Machine.execJogKeepaliveExpiry car s
  | .jogReversalHoldExpiry car => Sys2Proof.Machine.execJogReversalHoldExpiry car s
  | .brakeTestPhaseEnd car => Sys2Proof.Machine.execBrakeTestPhaseEnd car s
  | .doorSample op => Sys2Proof.Machine.execDoorSample op s
  | .doorLockConfirmed op => Sys2Proof.Machine.execDoorLockConfirmed op s
  | .doorLockTimeout op => Sys2Proof.Machine.execDoorLockTimeout op s
  | .referencingTimeout op => Sys2Proof.Machine.execReferencingTimeout op s
  | .openRetryExpiry op => Sys2Proof.Machine.execOpenRetryExpiry op s
  | .nudgeTimerExpiry op => Sys2Proof.Machine.execNudgeTimerExpiry op s
  | .doorDwellExpiry op => Sys2Proof.Machine.execDoorDwellExpiry op s
  | .tableCrcConfirm op crc => Sys2Proof.Machine.execTableCrcConfirm op crc s
  | .callEvaluation => Sys2Proof.Machine.execCallEvaluation s
  | .carSummaryReceived pair hd summary => Sys2Proof.Machine.execCarSummaryReceived pair hd summary s
  | .forwardedCallReceived pair hd call best => Sys2Proof.Machine.execForwardedCallReceived pair hd call best s
  | .decisionReceived pair hd call best => Sys2Proof.Machine.execDecisionReceived pair hd call best s
  | .transferItemReceived pair hd item => Sys2Proof.Machine.execTransferItemReceived pair hd item s
  | .transferLegReceived pair hd call => Sys2Proof.Machine.execTransferLegReceived pair hd call s
  | .groupEpochReceived pair hd number => Sys2Proof.Machine.execGroupEpochReceived pair hd number s
  | .groupEpochBoundary => Sys2Proof.Machine.execGroupEpochBoundary s
  | .pairOutOfReach pair => Sys2Proof.Machine.execPairOutOfReach pair s
  | .refinePeriod => Sys2Proof.Machine.execRefinePeriod s
  | .regimeChange car => Sys2Proof.Machine.execRegimeChange car s
  | .safetyInputChange island input channel seen => Sys2Proof.Machine.execSafetyInputChange island input channel seen s
  | .safetyInputChatterEnd input => Sys2Proof.Machine.execSafetyInputChatterEnd input s
  | .brakeOpenTimeout car brake => Sys2Proof.Machine.execBrakeOpenTimeout car brake s
  | .brakeCloseTimeout car brake => Sys2Proof.Machine.execBrakeCloseTimeout car brake s
  | .brakeTestOverdue car => Sys2Proof.Machine.execBrakeTestOverdue car s
  | .confirmWindowExpiry => Sys2Proof.Machine.execConfirmWindowExpiry s
  | .lrstOperationEnd op => Sys2Proof.Machine.execLrstOperationEnd op s
  | .tripResetWindowExpiry => Sys2Proof.Machine.execTripResetWindowExpiry s
  | .lockoutResetWindowExpiry => Sys2Proof.Machine.execLockoutResetWindowExpiry s
  | .enrolWindowExpiry => Sys2Proof.Machine.execEnrolWindowExpiry s
  | .outputConfirmTimeout out => Sys2Proof.Machine.execOutputConfirmTimeout out s
  | .darkTestStart out side => Sys2Proof.Machine.execDarkTestStart out side s
  | .darkTestJudge out hsfb lsfb => Sys2Proof.Machine.execDarkTestJudge out hsfb lsfb s
  | .darkTestPulseEnd out => Sys2Proof.Machine.execDarkTestPulseEnd out s
  | .darkTestSettleEnd out closed => Sys2Proof.Machine.execDarkTestSettleEnd out closed s
  | .darkTestRepeat out => Sys2Proof.Machine.execDarkTestRepeat out s
  | .releaseCheckStart => Sys2Proof.Machine.execReleaseCheckStart s
  | .releaseCheckEnd held => Sys2Proof.Machine.execReleaseCheckEnd held s
  | .vetoReceived => Sys2Proof.Machine.execVetoReceived s
  | .vetoAssert out => Sys2Proof.Machine.execVetoAssert out s
  | .twinLaneLost lane => Sys2Proof.Machine.execTwinLaneLost lane s
  | .commitReceived good m => Sys2Proof.Machine.execCommitReceived good m s
  | .commitAckReceived epoch ackUs => Sys2Proof.Machine.execCommitAckReceived epoch ackUs s
  | .commitMissing => Sys2Proof.Machine.execCommitMissing s
  | .resyncComplete partnerSeq => Sys2Proof.Machine.execResyncComplete partnerSeq s
  | .partnerFindingReceived f => Sys2Proof.Machine.execPartnerFindingReceived f s
  | .croakSlot => Sys2Proof.Machine.execCroakSlot s
  | .croakReceived line slot frame => Sys2Proof.Machine.execCroakReceived line slot frame s
  | .croakLineFault line => Sys2Proof.Machine.execCroakLineFault line s
  | .ownCroakNotReadBack => Sys2Proof.Machine.execOwnCroakNotReadBack s
  | .partnerSilent => Sys2Proof.Machine.execPartnerSilent s
  | .claimPeriodsElapsed => Sys2Proof.Machine.execClaimPeriodsElapsed s
  | .soloWaitExpiry => Sys2Proof.Machine.execSoloWaitExpiry s
  | .arbitrationDeadline => Sys2Proof.Machine.execArbitrationDeadline s
  | .yieldReceived lastEpoch => Sys2Proof.Machine.execYieldReceived lastEpoch s
  | .yieldTakeover => Sys2Proof.Machine.execYieldTakeover s
  | .silentPartnerTakeover => Sys2Proof.Machine.execSilentPartnerTakeover s
  | .scrubRead mram bank found held => Sys2Proof.Machine.execScrubRead mram bank found held s
  | .scrubPassComplete ms => Sys2Proof.Machine.execScrubPassComplete ms s
  | .bankCopyComplete bank => Sys2Proof.Machine.execBankCopyComplete bank s
  | .operatingTimeSave => Sys2Proof.Machine.execOperatingTimeSave s
  | .flushStart => Sys2Proof.Machine.execFlushStart s
  | .flushTimer => Sys2Proof.Machine.execFlushTimer s
  | .flushComplete us => Sys2Proof.Machine.execFlushComplete us s
  | .pfailFall => Sys2Proof.Machine.execPfailFall s
  | .pfailRise => Sys2Proof.Machine.execPfailRise s
  | .rateTokenRefill code => Sys2Proof.Machine.execRateTokenRefill code s
  | .cursorIdleClose cursor => Sys2Proof.Machine.execCursorIdleClose cursor s
  | .portCycleStart port mismatch heard => Sys2Proof.Machine.execPortCycleStart port mismatch heard s
  | .nodeReply f => Sys2Proof.Machine.execNodeReply f s
  | .discoveryReply d => Sys2Proof.Machine.execDiscoveryReply d s
  | .ringHeaderCheck port heard => Sys2Proof.Machine.execRingHeaderCheck port heard s
  | .ringProbe port => Sys2Proof.Machine.execRingProbe port s
  | .hostChannelFrame port bytes => Sys2Proof.Machine.execHostChannelFrame port bytes s
  | .hostChannelDown port => Sys2Proof.Machine.execHostChannelDown port s
  | .nodeLost port addr => Sys2Proof.Machine.execNodeLost port addr s
  | .pointStuck point => Sys2Proof.Machine.execPointStuck point s
  | .imageVerifyComplete => Sys2Proof.Machine.execImageVerifyComplete s
  | .imageSessionIdle => Sys2Proof.Machine.execImageSessionIdle s
  | .baseImageRestart => Sys2Proof.Machine.execBaseImageRestart s
  | .tapInstructionUpdate code => Sys2Proof.Machine.execTapInstructionUpdate code s
  | .secretReload => Sys2Proof.Machine.execSecretReload s
  | .temperatureExcursion tj => Sys2Proof.Machine.execTemperatureExcursion tj s
  | .overtemperatureLockout tj => Sys2Proof.Machine.execOvertemperatureLockout tj s
  | .twinLaneRestored lane => Sys2Proof.Machine.execTwinLaneRestored lane s
  | .dormantOrderReceived => Sys2Proof.Machine.execDormantOrderReceived s

end Sys2Proof.Machine
end

