-- ==== Sys2Proof/Safety.lean ====
section
/-! DEFINITION. The words in which statements are made: what every step keeps (R232, R306, R373), when a host request
has its turn at once and how it is answered. -/

namespace Sys2Proof.Machine

/-! ### What every step keeps -/

/-- The gate pins of an output are static low and no demand is left that would restart them. -/
def outStill (x : Out) : Bool := !x.want && !x.hs && !x.ls

/-- R232: DORMANT, PROVING, SHADOW and LOCKOUT modes, reset and a supply out of range leave every gate pin static. -/
def GatesStatic (s : State) : Prop :=
  (s.power = .on ∧ (s.mode = .service ∨ s.mode = .commission)) ∨ ∀ o, o < 32 → outStill (s.out o) = true

/-- R373: at most 16 requests are outstanding on a channel. R306: at most 1,024 unflushed records are buffered. -/
def QueuesBounded (s : State) : Prop :=
  s.host.port.waiting.length ≤ 16 ∧ s.host.link.waiting.length ≤ 16 ∧ s.log.buffer.length ≤ 1024

/-- The table of outputs is in its canonical form: keys rising, no entry that an unlisted output reads as. -/
def OutsCanonical (s : State) : Prop := tblWf (dft {}) s.saf.outs = true

/-- The invariant of the whole device. -/
def Inv (s : State) : Prop := GatesStatic s ∧ QueuesBounded s ∧ OutsCanonical s

/-! ### The parts of the device -/

/-- The parts in which the device's state is divided to say what a command leaves unchanged. -/
inductive Part where
  | power | mode | pins | latch | frame | times | transition | restart | slack | feedback | loops | hoists |
  doors | doorTables | dispatch | outputs | safetySet | safety | ports | nodes | points | frozen | pairing |
  pair | proving | mramLog | journal | reactions | memory | committed | learned | params | host | keys | stored
  | images | free
  deriving DecidableEq, Repr

/-- A part is the same in both states. The `journal` is the recorder apart from the log in MRAM, with the counts that go
with each finding (R285 to R289, R303) and the findings that a standby sends to its active. -/
def Part.same (s t : State) : Part → Prop
  | .power => t.power = s.power
  | .mode => t.mode = s.mode
  | .pins => t.pins = s.pins
  | .latch => t.latch = s.latch
  | .frame => t.frame = s.frame
  | .times => t.opTime = s.opTime ∧ t.opSaved = s.opSaved ∧ t.powerCycle = s.powerCycle
  | .transition => t.transition = s.transition
  | .restart => t.resetFrom = s.resetFrom ∧ t.entryRecs = s.entryRecs
  | .slack => t.slack = s.slack
  | .feedback => t.fb = s.fb
  | .loops => t.loops = s.loops
  | .hoists => t.motion.hoist = s.motion.hoist
  | .doors => t.motion.doors = s.motion.doors
  | .doorTables => t.motion.slots = s.motion.slots
  | .dispatch => t.disp = s.disp
  | .outputs => t.saf.outs = s.saf.outs
  | .safetySet => t.saf.set = s.saf.set
  | .safety => t.saf = { s.saf with outs := t.saf.outs, set := t.saf.set }
  | .ports => t.links.ports = s.links.ports
  | .nodes => t.links.nodes = s.links.nodes
  | .points => t.links.points = s.links.points
  | .frozen => t.frozen = s.frozen
  | .pairing => t.pair.paired = s.pair.paired ∧ t.pair.pairTag = s.pair.pairTag
      ∧ t.pair.partnerUnit = s.pair.partnerUnit
  | .pair => t.pair = { s.pair with
      paired := t.pair.paired, pairTag := t.pair.pairTag, partnerUnit := t.pair.partnerUnit,
      findingsOut := t.pair.findingsOut }
  | .proving => t.proving = { s.proving with
      countT := t.proving.countT, countL := t.proving.countL, shadowMaxSev := t.proving.shadowMaxSev }
  | .mramLog => t.log.log = s.log.log
  | .journal => t.log = { s.log with log := t.log.log } ∧ t.pair.findingsOut = s.pair.findingsOut
      ∧ t.fm.maxSev = s.fm.maxSev ∧ t.fm.nestMax = s.fm.nestMax ∧ t.fm.countT = s.fm.countT
      ∧ t.fm.countL = s.fm.countL ∧ t.fm.lastCode = s.fm.lastCode ∧ t.fm.lastSev = s.fm.lastSev
      ∧ t.fm.lastTime = s.fm.lastTime ∧ t.fm.roleL = s.fm.roleL ∧ t.proving.shadowMaxSev = s.proving.shadowMaxSev
      ∧ t.proving.countT = s.proving.countT ∧ t.proving.countL = s.proving.countL
  | .reactions => t.fm = { s.fm with
      maxSev := t.fm.maxSev, nestMax := t.fm.nestMax, countT := t.fm.countT, countL := t.fm.countL,
      lastCode := t.fm.lastCode, lastSev := t.fm.lastSev, lastTime := t.fm.lastTime, roleL := t.fm.roleL }
  | .memory => t.mem = s.mem
  | .committed => t.params.committed = s.params.committed
  | .learned => t.params.learned = s.params.learned
  | .params => t.params = { s.params with committed := t.params.committed, learned := t.params.learned }
  | .host => t.host = s.host
  | .keys => t.img.keys = s.img.keys ∧ t.img.keysLoaded = s.img.keysLoaded
  | .stored => t.img.slots = s.img.slots ∧ t.img.floors = s.img.floors ∧ t.img.policyNext = s.img.policyNext
  | .images => t.img = { s.img with
      slots := t.img.slots, floors := t.img.floors, policyNext := t.img.policyNext, keys := t.img.keys,
      keysLoaded := t.img.keysLoaded }
  | .free => t.free = s.free

/-! ### What each command may change -/

/-- What answering a request changes: its channel, and the journal where a queue overflows. -/
def answered : List Part :=
  [.journal, .host]

/-- What a raised finding may change: its reaction trips a car, opens outputs, ends runs or enters LOCKOUT. -/
def reacting : List Part :=
  [.mode, .latch, .transition, .loops, .hoists, .doors, .dispatch, .outputs, .safety, .pair, .proving, .journal,
   .reactions]

/-- What a command may change that lets waiting requests take their turn: whatever a request changes. -/
def turns : List Part :=
  [.mode, .latch, .times, .transition, .slack, .loops, .hoists, .doors, .doorTables, .dispatch, .outputs,
   .safetySet, .safety, .nodes, .points, .pairing, .pair, .proving, .mramLog, .journal, .reactions, .committed,
   .params, .host, .stored, .images, .free]

/-- What a new PROVING clears. -/
def restarted : List Part :=
  [.power, .mode, .pins, .frame, .transition, .restart, .slack, .feedback, .loops, .hoists, .doors, .dispatch,
   .outputs, .safety, .ports, .nodes, .points, .frozen, .pair, .proving, .mramLog, .journal, .reactions, .memory,
   .params, .host, .keys, .stored, .images]

/-- The parts a command may change. -/
def changes : Instr → List Part
  | .hqStatus .. | .hqUnknownCommand .. => [.host]
  | .bgSliceStart .. | .healthPublish .. => [.proving]
  | .shedEvaluation .. => [.slack]
  | .epochMarkReceived .. | .yieldReceived .. | .twinLaneRestored .. => [.pair]
  | .auxObserverSample .. => [.feedback]
  | .pretorqueSettleExpiry .. | .brakesOpenConfirmed .. | .torqueHoldExpiry .. | .reversalDwellExpiry .. |
    .jogReversalHoldExpiry .. => [.hoists]
  | .refinePeriod .. => [.dispatch]
  | .safetyInputChatterEnd .. | .tripResetWindowExpiry .. | .lockoutResetWindowExpiry .. => [.safety]
  | .darkTestStart .. | .darkTestPulseEnd .. | .darkTestRepeat .. => [.outputs]
  | .partnerFindingReceived .. | .flushStart .. | .flushTimer .. | .rateTokenRefill .. | .cursorIdleClose .. =>
    [.journal]
  | .bankCopyComplete .. => [.memory]
  | .operatingTimeSave .. => [.times]
  | .ringProbe .. => [.ports]
  | .ping .. | .identityRead .. | .healthRead .. | .timeMark .. | .paramRead .. | .paramCommitRead .. |
    .provingReport .. | .callQuery .. | .itineraryRead .. | .groupStatus .. | .motionStatus .. | .learnRunRead .. |
    .brakeTestRead .. | .positionRead .. | .doorStatus .. | .doorTableRead .. | .captureRead .. | .loopStatus .. |
    .safetyStatus .. | .tripResetRead .. | .lockoutResetRead .. | .outputTestReport .. | .pairStatus .. |
    .handoverRead .. | .partnerReleaseRead .. | .portStatus .. | .nodeList .. | .pointRead .. | .nodeMessageRead ..
    | .logCursorOpen .. | .logRead .. | .logCursorClose .. | .logStatus .. | .rateLimitRead .. | .rateLimitSet .. |
    .rateLimitRemove .. | .imageStatus .. | .keyEnrolRead .. | .unknownOpcodePacket .. | .badCrcPacket .. | .hqRead
    .. | .hqFlush .. | .partialPacketTimeout .. | .hostChannelDown .. => answered
  | .bgCycleOverdue .. | .temperatureExcursion .. => [.proving, .journal]
  | .posStrapChange .. | .pfailFall .. | .pfailRise .. => [.pins, .journal]
  | .injectionTimeout .. | .captureTimeout .. => [.loops, .journal]
  | .brakesClosedConfirmed .. => [.hoists, .safety]
  | .jogKeepaliveExpiry .. => [.hoists, .journal]
  | .doorLockConfirmed .. => [.doors, .journal]
  | .pairOutOfReach .. => [.dispatch, .journal]
  | .brakeTestOverdue .. | .confirmWindowExpiry .. | .vetoAssert .. => [.safety, .journal]
  | .releaseCheckStart .. => [.outputs, .pair]
  | .croakLineFault .. => [.pair, .journal]
  | .pointStuck .. => [.points, .journal]
  | .imageSessionIdle .. => [.stored, .images]
  | .slackRead .. => [.slack] ++ answered
  | .paramWrite .. | .paramCommit .. | .paramDiscard .. | .loopConfigWrite .. | .portConfig .. | .pointMapWrite ..
    => [.params] ++ answered
  | .callEnter .. | .callCancel .. | .carRegimeSet .. | .carServiceRemove .. | .carServiceAdd .. |
    .powerBudgetOverrideSet .. | .powerBudgetOverrideRelease .. => [.dispatch] ++ answered
  | .tripTarget .. | .jog .. => [.hoists] ++ answered
  | .loopCoeffStage .. | .loopCoeffSwap .. | .loopCoeffSwapReset .. | .injectStop .. | .captureArm .. => [.loops] ++
    answered
  | .safetySetStage .. | .tripResetArm .. | .tripResetDisarm .. | .enrolWindowExpiry .. => [.safety] ++ answered
  | .partnerAdmitRead .. | .mirrorStatus .. | .logClearChallenge .. => [.free] ++ answered
  | .pointWriteOutput .. | .pointForce .. | .pointForceRelease .. => [.points] ++ answered
  | .nodeMessageSend .. => [.nodes] ++ answered
  | .imageChunk .. => [.images] ++ answered
  | .vaonEntersRange .. => [.power, .pins, .restart]
  | .openRetryExpiry .. | .nudgeTimerExpiry .. | .doorDwellExpiry .. => [.doors, .journal, .params]
  | .forwardedCallReceived .. | .transferLegReceived .. | .groupEpochReceived .. => [.dispatch, .ports, .journal]
  | .groupEpochBoundary .. => [.dispatch, .journal, .params]
  | .resyncComplete .. => [.pairing, .pair, .journal]
  | .scrubPassComplete .. => [.journal, .memory, .params]
  | .learnRunStart .. | .brakeTestStart .. => [.hoists, .params] ++ answered
  | .doorStop .. | .doorOpen .. | .doorClose .. | .doorNudgeClose .. | .doorHoldOpen .. | .doorReleaseHold .. |
    .doorReference .. => [.doors, .params] ++ answered
  | .doorTableWrite .. => [.doors, .doorTables] ++ answered
  | .injectStart .. => [.loops, .params] ++ answered
  | .lockoutResetArm .. | .keyEnrol .. => [.safety, .images] ++ answered
  | .handoverRequest .. | .handoverActivateTadpoles .. => [.loops, .pair] ++ answered
  | .logClear .. => [.times, .mramLog] ++ answered
  | .imageEnd .. | .imageActivate .. | .imageVerifyComplete .. => [.stored, .images] ++ answered
  | .authChallenge .. => [.images, .free] ++ answered
  | .healthRecordReceived .. => [.outputs, .pair] ++ answered
  | .brakeTestPhaseEnd .. => [.hoists, .safety] ++ answered
  | .learnRunAbort .. => [.loops, .hoists, .doors] ++ answered
  | .imageBegin .. => [.params, .stored, .images] ++ answered
  | .regimeChange .. => [.loops, .hoists, .doors, .dispatch, .journal]
  | .discoveryReply .. => [.doors, .ports, .nodes, .points, .journal]
  | .stop .. => [.loops, .hoists, .doors, .outputs] ++ answered
  | .safetySetConfirm .. => [.safetySet, .safety, .committed, .params] ++ answered
  | .partnerRelease .. => [.dispatch, .pairing, .pair, .images] ++ answered
  | .callEvaluation .. => [.hoists, .doors, .dispatch, .params] ++ answered
  | .transferItemReceived .. => [.doors, .dispatch, .ports, .params] ++ answered
  | .partnerAdmit .. => [.safety, .pairing, .pair, .images, .free] ++ answered
  | .tripAdmission .. => [.feedback, .loops, .hoists, .dispatch, .safety, .journal, .params]
  | .decisionReceived .. => [.hoists, .doors, .dispatch, .ports, .params] ++ answered
  | .claimPeriodsElapsed .. | .soloWaitExpiry .. | .arbitrationDeadline .. => [.mode, .transition, .slack, .loops,
    .outputs, .safety, .pair, .proving, .journal]
  | .ownCroakNotReadBack .. => [.mode, .latch, .transition, .loops, .outputs, .safety, .pair, .proving, .journal,
    .reactions]
  | .heldWakeDemandTaken .. | .dormantOrderReceived .. => [.mode, .pins, .transition, .loops, .outputs, .pairing,
    .pair, .memory, .keys, .stored, .images] ++ answered
  | .rstNLow .. => [.power, .pins, .transition, .restart, .loops, .outputs, .pairing, .memory, .keys, .stored,
    .images] ++ answered
  | .persistentAnomaly .. | .startTimeout .. | .referencingTimeout .. | .tableCrcConfirm .. | .safetyInputChange ..
    | .brakeCloseTimeout .. | .darkTestJudge .. | .croakSlot .. | .overtemperatureLockout .. => reacting
  | .supplyLoss .. => [.power, .mode, .pins, .transition, .restart, .loops, .outputs, .pairing, .memory, .keys,
    .stored, .images] ++ answered
  | .bgSliceComplete .. | .torqueRampEnd .. | .relevelDelayExpiry .. | .doorLockTimeout .. => [.params] ++ reacting
  | .timebaseMarkMissing .. => [.slack] ++ reacting
  | .encoderSample .. | .referenceMark .. | .ssiFrameReceived .. | .ssiClockAbsent .. => [.feedback] ++ reacting
  | .carSummaryReceived .. | .ringHeaderCheck .. => [.ports] ++ reacting
  | .brakeOpenTimeout .. | .outputConfirmTimeout .. | .darkTestSettleEnd .. => [.host] ++ reacting
  | .vetoReceived .. => [.pins] ++ reacting
  | .wakeLow .. => [.power, .mode, .pins, .transition, .restart, .loops, .outputs, .pairing, .pair, .memory, .keys,
    .stored, .images] ++ answered
  | .safetyCycle .. => [.slack, .feedback, .host] ++ reacting
  | .nodeLost .. => [.ports, .nodes, .host] ++ reacting
  | .secretReload .. => [.pairing, .keys, .images] ++ reacting
  | .modeRequest .. => [.mode, .latch, .transition, .slack, .loops, .dispatch, .outputs, .safety, .points, .pair,
    .proving, .reactions, .committed, .params, .images] ++ answered
  | .portCycleStart .. | .nodeReply .. => [.ports, .nodes, .points, .host] ++ reacting
  | .tapInstructionUpdate .. => [.pairing, .host, .keys, .images] ++ reacting
  | .commitReceived .. => [.times, .feedback, .loops, .hoists, .doors, .doorTables, .dispatch, .outputs, .safety,
    .ports, .nodes, .points, .pair, .proving, .mramLog, .committed, .learned, .params] ++ answered
  | .yieldTakeover .. | .silentPartnerTakeover .. => [.slack, .feedback, .ports, .nodes, .points, .params, .host] ++
    reacting
  | .provingUnitComplete .. => [.mode, .pins, .latch, .times, .transition, .restart, .slack, .loops, .outputs,
    .safety, .pairing, .pair, .proving, .reactions, .memory, .committed, .params, .keys, .stored, .images] ++
    answered
  | .sampleFrameTick .. => [.frame, .times, .slack, .feedback, .doorTables, .ports, .nodes, .points, .frozen] ++
    reacting
  | .hqWrite .. | .loopSample .. | .doorSample .. | .releaseCheckEnd .. | .twinLaneLost .. | .commitAckReceived .. |
    .commitMissing .. | .croakReceived .. | .partnerSilent .. | .hostChannelFrame .. => turns
  | .scrubRead .. => [.memory] ++ turns
  | .wakeHigh .. | .resetRelease .. | .suppliesRestored .. | .baseImageRestart .. => restarted
  | .hoistSample .. => [.feedback, .learned] ++ turns
  | .modeTransitionBegin .. => [.pairing] ++ restarted
  | .epochBoundary .. => [.feedback, .ports, .memory] ++ turns
  | .lrstOperationEnd .. => [.latch] ++ restarted
  | .flushComplete .. => [.latch, .times, .doorTables, .safetySet, .pairing, .committed, .free] ++ restarted

/-! ### Requests -/

/-- A request that completes now has its turn at once: its channel is up with room for it (R373), no request with its
sequence is outstanding (R378), nothing waits before it (R374), and it is no repeat of a stored one (R255). -/
def turnAtOnce (s : State) (h : Hdr) : Prop :=
  s.chanUp h.chan = true ∧ (s.chan h.chan).waiting.length < 16
    ∧ ((s.chan h.chan).waiting.any (fun w => w.1 == h.seq)) = false
    ∧ s.hostBusy = false ∧ s.host.waiting = []
    ∧ (replayMode s.mode = true → (s.host.replay.any (fun e => e.1 == h.seq && e.2.1 == h.crc)) = false)

/-- The request passes checks 2 to 6 of R376: flags, opcode and mode, length, instance. -/
def passes (s : State) (h : Hdr) (op insts len : Nat) (isRead : Bool) : Prop :=
  h.flags = 0 ∧ modeCheck s op isRead = none ∧ h.len = len ∧ (insts = 1 → h.inst = 0) ∧ h.inst.toNat < insts

/-- The state in which a request that has its turn is executed: it is outstanding. -/
def takenOn (s : State) (h : Hdr) : State :=
  s.modChan h.chan (fun c => { c with waiting := c.waiting ++ [(h.seq, h.crc)] })

/-- The reply packet of a request. -/
def replyPkt (h : Hdr) (op : Nat) (payload : Bytes) : OutPkt :=
  { notify := false, opcode := op, inst := h.inst.toNat, seq := h.seq.toNat, payload := payload
    req := some (h.seq, h.crc) }

/-- The reply `payload` stands last in the request's channel. -/
def replied (t : State) (h : Hdr) (op : Nat) (payload : Bytes) : Prop :=
  (t.chan h.chan).out.getLast? = some (replyPkt h op payload)

/-- Only the host unit differs. -/
def onlyHost (s t : State) : Prop := t = { s with host := t.host }

/-- The request has its turn at once and passes checks 2 to 6. -/
def hasTurn (s : State) (h : Hdr) (op insts len : Nat) (isRead : Bool) : Prop :=
  turnAtOnce s h ∧ passes s h op insts len isRead

/-- A read request: it is answered with `p` of the state in which it is executed, and only the host unit changes. -/
def readsBack (i : Instr) (h : Hdr) (op : Nat) (p : State → Bytes) (s : State) : Prop :=
  ∃ t, exec i s = .next t ∧ onlyHost s t ∧ replied t h op (p (takenOn s h))

/-- A request with an effect: it is answered with the second part of `e`, and the first is the state apart from its
answer. -/
def servedBy (i : Instr) (h : Hdr) (op : Nat) (mirrored : Bool) (e : State → State × Bytes) (s : State) : Prop :=
  exec i s = .next (answer (e (takenOn s h)).1 h op mirrored (e (takenOn s h)).2)

/-- A request whose reply waits: executing it is `f`. -/
def runsAs (i : Instr) (h : Hdr) (f : State → State) (s : State) : Prop := exec i s = .next (f (takenOn s h))

/-- The reply that refuses a request with `st`: the rest of its layout is zero, but for the mode in `MODE_REQUEST`'s and the
0xFF that stands for no entry in `PARAM_WRITE`'s and for no landing in `TRIP_TARGET`'s and `STOP`'s (R377). -/
def refusedWith (s : State) (r : HostReq) (st : Nat) : Bytes :=
  if r.op = 0x02 then modeReply s st (modeCode s.mode) 0
  else if r.op = 0x07 ∨ r.op = 0x20 then le 1 st ++ [0xFF] ++ zeros (r.len - 2)
  else if r.op = 0x22 then le 1 st ++ [0, 0xFF] ++ zeros (r.len - 3)
  else refusal r.len st

/-- PROVING has started anew in `t`: its outputs are off, nothing of the host, the ports or the croak bus is left, and what
MRAM keeps of `s` is there. -/
def provesAgain (s t : State) : Prop :=
  t.power = .on ∧ t.mode = .proving ∧ t.proving.running = true ∧ t.proving.units = [] ∧ t.frame = 0
    ∧ t.pins.pos = s.pins.posNow ∧ t.saf.outs = [] ∧ t.host = {} ∧ t.links = {} ∧ t.disp = {} ∧ t.fb = {}
    ∧ t.latch = s.latch ∧ t.params.committed = s.params.committed ∧ t.params.staged = s.params.committed
    ∧ t.saf.set = s.saf.set ∧ t.log.log = s.log.log ∧ t.motion.slots = s.motion.slots

/-- A good inter-pair item of a pair out there, heard by an active on port `p` in its own format. -/
def itemFrom (s : State) (pair : Nat) (hd : IpHdr) (p : Nat) : Prop :=
  s.dispatches = true ∧ pair ≠ s.pairNo ∧ s.peerPort pair = some p ∧ hd.good = true ∧ hd.format.toNat = s.ipFormat

/-- The item is new, and is known from then on. -/
def newItem (s : State) (p item : Nat) (hd : IpHdr) : Prop := (s.lport p).seen.contains (item, hd.seq.toNat) = false
def noteItem (s : State) (p item : Nat) (hd : IpHdr) : State :=
  s.modPort p (fun q => { q with seen := ((item, hd.seq.toNat) :: q.seen).take 64 })

/-- The fields of `INJECT_START` are in range for their signal, at a loop rate of `hz` (Table 05.10, R97). -/
def injectFits (hz signal : Nat) (amp : Int) (p1 p2 p3 p4 : Nat) : Prop :=
  match signal with
  | 0 => 0 < amp ∧ 7 ≤ p1 ∧ p1 ≤ 15 ∧ 1 ≤ p2 ∧ p2 ≤ 64 ∧ p4 = 0
  | 1 => 0 < amp ∧ (100 ≤ p1 ∧ p1 ≤ hz * 250) ∧ (100 ≤ p2 ∧ p2 ≤ hz * 250) ∧ 2 ≤ p3 ∧ p3 ≤ 256
      ∧ (1 ≤ p4 / 65536 ∧ p4 / 65536 ≤ 1000) ∧ 1 ≤ p4 % 65536 ∧ p4 % 65536 ≤ 1000
  | 2 => 0 < amp ∧ (100 ≤ p1 ∧ p1 ≤ hz * 250) ∧ (100 ≤ p2 ∧ p2 ≤ hz * 250) ∧ p4 ≤ 1
  | 3 => p3 = 0 ∧ p4 = 0
  | _ => False

/-- The level of a channel that an island has accepted. -/
def safLevel (q : SafIn) (isl : Island) (ch : Nat) : Bool :=
  match isl, ch with | .a, 0 => q.aa.level | .a, _ => q.ab.level | .b, 0 => q.ba.level | .b, _ => q.bb.level

/-- The command can occur: its operands agree with the layout they come from, and a packet of an unknown opcode or a
transaction of an unknown command names one that no table has. (log entry 3: DESIGN CHOICE) -/
def occurs : Instr → Bool
  | .unknownOpcodePacket _ op => (findOp op.toNat).isNone
  | .hqUnknownCommand b => !(b == 0x11 || b == 0x22 || b == 0x33 || b == 0x44)
  | i => i.wellFormed

/-- The events that a device takes note of though it does not run: power, reset and the pins, the end of the last flush, and
the steps of an output's dark test or release check that was under way. -/
def stirsAsleep : Instr → Bool
  | .vaonEntersRange => true
  | .wakeHigh => true
  | .wakeLow => true
  | .rstNLow => true
  | .resetRelease => true
  | .supplyLoss _ => true
  | .suppliesRestored => true
  | .posStrapChange _ => true
  | .pfailFall => true
  | .pfailRise => true
  | .flushComplete _ => true
  | .darkTestJudge _ _ _ => true
  | .darkTestPulseEnd _ => true
  | .darkTestSettleEnd _ _ => true
  | .releaseCheckStart => true
  | .releaseCheckEnd _ => true
  | _ => false

/-- The request with header `h` is the last of those that wait for their turn. -/
def waitsLast (s t : State) (h : Hdr) (w : Waiting) : Prop :=
  t = { takenOn s h with host := { (takenOn s h).host with waiting := s.host.waiting ++ [w] } }

end Sys2Proof.Machine
end

