-- ==== Sys2Proof/Certificates/Slice0/Obligations.lean ====
section
/-! DEFINITION. The statements for the provers: the block and its queue, requests, what each command that occurs does,
and the rules of the whole device. -/

open Sys2Proof Sys2Proof.Machine

/-! ### The block -/

/-- One step runs the command at the front of the queue on the state with the queue's rest. -/
def Obligations.StepRunsFrontCommand : Prop :=
  ∀ (c : Instr) (s : State), step { s with pending := c :: s.pending } = exec c s

/-- Model's choice (log entry 2): with no command waiting the block idles. -/
def Obligations.StepIdlesOnEmptyQueue : Prop :=
  ∀ s : State, s.pending = [] → step s = .next s

/-- R232, R306, R373 as one invariant: every step from every state keeps it. -/
def Obligations.EveryStepKeepsInv : Prop :=
  ∀ s t : State, Inv s → step s = .next t → Inv t

/-- The state after reset has the invariant. -/
def Obligations.ResetHasInv : Prop := Inv State.reset

/-! ### Requests -/

/-- R374: a request that arrives while the one before it is unanswered waits behind the others. -/
def Obligations.RequestsWaitTheirTurn : Prop :=
  ∀ (i : Instr) (r : HostReq) (s : State), hostOf i = some r → Instr.wellFormed i = true →
    s.chanUp r.hdr.chan = true → (s.chan r.hdr.chan).waiting.length < 16 →
    ((s.chan r.hdr.chan).waiting.any (fun w => w.1 == r.hdr.seq)) = false →
    (replayMode s.mode = true → (s.host.replay.any (fun e => e.1 == r.hdr.seq && e.2.1 == r.hdr.crc)) = false) →
    (s.hostBusy = true ∨ s.host.waiting ≠ []) →
    (∀ k o, i ≠ .unknownOpcodePacket k o) →
    ∃ t, exec i s = .next t ∧ waitsLast s t r.hdr (.cmd i r.hdr r.op r.len)

/-- R373: a request that completes with 16 outstanding on its channel is discarded unanswered, with event 0xA410; on the
host port bit 2 of `errors` is set. -/
def Obligations.FullWindowDiscards : Prop :=
  ∀ (i : Instr) (r : HostReq) (s : State), hostOf i = some r → Instr.wellFormed i = true →
    s.chanUp r.hdr.chan = true → 16 ≤ (s.chan r.hdr.chan).waiting.length → (∀ k o, i ≠ .unknownOpcodePacket k o) →
    exec i s = .next (event (match r.hdr.chan with | .port => s.hqError 2 | .link => s) 0xA410)

/-- R376, check 2: a request with `flags` other than 0 is answered BAD_PARAM and three zero bytes, whatever its opcode,
and changes nothing else. -/
def Obligations.FlagsRefused : Prop :=
  ∀ (i : Instr) (r : HostReq) (s : State), hostOf i = some r → Instr.wellFormed i = true → turnAtOnce s r.hdr →
    r.hdr.flags ≠ 0 → (∀ k o, i ≠ .unknownOpcodePacket k o) →
    ∃ t, exec i s = .next t ∧ onlyHost s t ∧ replied t r.hdr r.op [0x13#8, 0, 0, 0]

/-- R378: a request whose sequence is outstanding on its channel with another CRC is answered BAD_PARAM, the rest of its
layout zero; the same request again changes nothing. -/
def Obligations.OutstandingSequenceRefused : Prop :=
  ∀ (i : Instr) (r : HostReq) (s : State), hostOf i = some r → Instr.wellFormed i = true →
    s.chanUp r.hdr.chan = true → (s.chan r.hdr.chan).waiting.length < 16 → (∀ k o, i ≠ .unknownOpcodePacket k o) →
    ((s.chan r.hdr.chan).waiting.contains (r.hdr.seq, r.hdr.crc) = true → exec i s = .next s) ∧
    ((s.chan r.hdr.chan).waiting.contains (r.hdr.seq, r.hdr.crc) = false →
      ((s.chan r.hdr.chan).waiting.any (fun w => w.1 == r.hdr.seq)) = true → s.hostBusy = false → s.host.waiting = [] →
      ∃ t, exec i s = .next t ∧ onlyHost s t ∧ replied t r.hdr r.op (refusal r.len stBadParam))

/-- R374, R376: a request without a row, and a packet with a bad CRC, each answered in its turn. -/
def Obligations.PacketsWithoutRowAnswered : Prop :=
  ∀ (s : State) (h : Hdr) (op : U8), turnAtOnce s h →
    (findOp op.toNat = none → h.flags = 0 →
      ∃ t, exec (.unknownOpcodePacket h op) s = .next t ∧ onlyHost s t ∧ replied t h op.toNat [0x12#8, 0, 0, 0]) ∧
    (∃ t, exec (.badCrcPacket h op) s = .next t ∧ onlyHost s t ∧ replied t h op.toNat [0x11#8, 0, 0, 0])

/-- R369, R371: the host port's transactions. -/
def Obligations.HostPortTransactions : Prop :=
  ∀ s : State, s.chanUp .port = true →
    (exec .hqStatus s = .next { s with host := { s.host with sent := statusWord s, errors := 0 } }) ∧
    (∀ n, s.host.port.out = [] → exec (.hqRead n) s = .next (s.drove (zeros n))) ∧
    (∀ n p rest, s.host.port.out = p :: rest → n < packetLen p →
      exec (.hqRead n) s = .next ((s.drove (fit n (packetBytes p))).hqError 3)) ∧
    (∀ n p rest, s.host.port.out = p :: rest → packetLen p ≤ n → s.host.port.dropped = 0 →
      ∃ t, exec (.hqRead n) s = .next t ∧ onlyHost s t ∧ t.host.port.out = rest ∧ t.host.sent = fit n (packetBytes p)
        ∧ t.host.port.waiting = (match p.req with | some r => s.host.port.waiting.erase r | none => s.host.port.waiting)) ∧
    (∀ b, Instr.wellFormed (.hqWrite b) = true → s.host.asm = [] → b.length < 4 → b.head? = some 0xE7#8 →
      exec (.hqWrite b) s = .next ((s.drove []).setAsm b)) ∧
    (s.host.asm ≠ [] → exec .hqFlush s = .next (event (((s.drove []).setAsm []).hqError 0) 0xA410)) ∧
    (s.host.asm ≠ [] → exec .partialPacketTimeout s = .next (event ((s.setAsm []).hqError 0) 0xA410)) ∧
    (∀ b : U8, b ≠ 0x11 → b ≠ 0x22 → b ≠ 0x33 → b ≠ 0x44 →
      exec (.hqUnknownCommand b) s = .next ((s.drove []).hqError 5))

/-! ### Requests that only read -/

/-- R383 and chapters 03, 13 and 16: device status. -/
def Obligations.DeviceReadsAnswered : Prop :=
  ∀ (s : State) (h : Hdr),
    (hasTurn s h 0x00 1 0 false → readsBack (.ping h false) h 0x00
      (fun s => [0#8] ++ le 1 (modeCode s.mode) ++ le 1 s.ownRole ++ le 1 s.pins.pos.toNat) s) ∧
    (∀ nonce, nonce.length = 16 → hasTurn s h 0x01 1 16 false →
      readsBack (.identityRead h false nonce) h 0x01 (fun s => identityReply s nonce) s) ∧
    (hasTurn s h 0x03 1 0 false → readsBack (.healthRead h false) h 0x03 healthReply s) ∧
    (hasTurn s h 0x04 1 1 false → readsBack (.slackRead h false 0) h 0x04 slackReply s) ∧
    (∀ (key : U16) (inst which : U8) (r : KeySpec), findKey key.toNat = some r → inst.toNat < r.insts → which.toNat ≤ 2 →
      ¬(which = 1 ∧ safetyKey key.toNat = true) → hasTurn s h 0x06 1 4 false →
      readsBack (.paramRead h false key inst which) h 0x06
        (fun s => paramReadReply s r key.toNat inst.toNat which.toNat) s) ∧
    (hasTurn s h 0x08 1 4 true → readsBack (.paramCommitRead h false) h 0x08 (fun s => commitReply s stOk none 0) s) ∧
    (hasTurn s h 0x09 1 1 false → readsBack (.provingReport h false 0) h 0x09 provingReply s) ∧
    (hasTurn s h 0x09 1 1 false → readsBack (.provingReport h false 1) h 0x09
      (fun s => [0#8, 0, 0, 0] ++ healthBytes s.proving.ownHealth) s) ∧
    (hasTurn s h 0x73 1 0 false → readsBack (.logStatus h false) h 0x73 logStatusReply s) ∧
    (∀ code : U16, hasTurn s h 0x76 1 8 true → readsBack (.rateLimitRead h false 0 code 0) h 0x76
      (fun s => rateReply s code.toNat) s) ∧
    (hasTurn s h 0x84 1 0 false → readsBack (.imageStatus h false) h 0x84 imageStatus s) ∧
    (∀ keyId : U8, 1 ≤ keyId.toNat → keyId.toNat ≤ 3 → hasTurn s h 0x86 1 100 true →
      readsBack (.keyEnrolRead h false keyId (zeros 64) (zeros 32)) h 0x86 (fun s => enrolReply s stOk) s)

/-- Chapters 04 to 08: feedback, loops, hoists, doors and dispatching. -/
def Obligations.MotionReadsAnswered : Prop :=
  ∀ (s : State) (h : Hdr),
    (∀ (id : U16) (c : Call), s.heldCall? id.toNat = some c → c.group = h.inst.toNat → hasTurn s h 0x12 4 4 false →
      readsBack (.callQuery h false id) h 0x12 (fun s => queryReply s c) s) ∧
    (hasTurn s h 0x13 8 0 false → readsBack (.itineraryRead h false) h 0x13
      (fun s => if s.configured h.inst.toNat = true then itineraryReply s h.inst.toNat else refusal 4 stBadParam) s) ∧
    (hasTurn s h 0x17 4 0 false → readsBack (.groupStatus h false) h 0x17 (fun s => groupReply s h.inst.toNat) s) ∧
    (hasTurn s h 0x23 8 0 false → readsBack (.motionStatus h false) h 0x23 (fun s => motionReply s h.inst.toNat) s) ∧
    (∀ sw : List U8, sw.length = 8 → (∀ x ∈ sw, x = 0 ∨ x = 0xFF) → hasTurn s h 0x24 8 12 true →
      readsBack (.learnRunRead h false 0 0 sw) h 0x24 (fun s => learnReply s h.inst.toNat stOk) s) ∧
    (hasTurn s h 0x25 8 4 true → readsBack (.brakeTestRead h false 0 0) h 0x25 (fun s => btReply s h.inst.toNat stOk) s) ∧
    (hasTurn s h 0x26 8 4 false → readsBack (.positionRead h false 0) h 0x26 (fun s => carPosReply s h.inst.toNat) s) ∧
    (hasTurn s h 0x26 16 4 false → readsBack (.positionRead h false 1) h 0x26 (fun s => chanPosReply s h.inst.toNat) s) ∧
    (hasTurn s h 0x26 8 4 false → readsBack (.positionRead h false 2) h 0x26 (fun s => ssiPosReply s h.inst.toNat) s) ∧
    (hasTurn s h 0x29 16 0 false → readsBack (.doorStatus h false) h 0x29 (fun s => doorStatusReply s h.inst.toNat) s) ∧
    (hasTurn s h 0x2B 4 0 false → readsBack (.doorTableRead h false) h 0x2B (fun s => tableReply s h.inst.toNat) s) ∧
    (hasTurn s h 0x37 64 0 false → readsBack (.loopStatus h false) h 0x37 (fun s => loopStatusReply s h.inst.toNat) s) ∧
    (∀ (ch : U8) (first : U32) (n : U16), ch.toNat ≤ 3 → 1 ≤ n.toNat → n.toNat ≤ 1016 → hasTurn s h 0x36 1 12 false →
      readsBack (.captureRead h false ch first n) h 0x36 (fun s => captureData s ch.toNat first.toNat n.toNat) s)

/-- Chapters 09 to 11, 14 and 15: safety, pair, ports, nodes and points. -/
def Obligations.SafetyAndLinkReadsAnswered : Prop :=
  ∀ (s : State) (h : Hdr),
    (hasTurn s h 0x40 8 4 false → readsBack (.safetyStatus h false 0) h 0x40 (fun s => carStatus s h.inst.toNat) s) ∧
    (hasTurn s h 0x40 1 4 false → readsBack (.safetyStatus h false 1) h 0x40 inputsStatus s) ∧
    (hasTurn s h 0x43 1 4 true → readsBack (.tripResetRead h false 0) h 0x43 (fun s => tripResetReply s stOk) s) ∧
    (hasTurn s h 0x44 1 36 true → readsBack (.lockoutResetRead h false (zeros 32)) h 0x44 (fun s => lockReply s stOk 0) s) ∧
    (hasTurn s h 0x45 1 0 false → readsBack (.outputTestReport h false) h 0x45
      (fun s => [0#8, 0, 0, 0] ++ (outs32.map (testEntry s)).flatten) s) ∧
    (hasTurn s h 0x50 1 0 false → readsBack (.pairStatus h false) h 0x50 pairReply s) ∧
    (hasTurn s h 0x51 1 4 true → readsBack (.handoverRead h false) h 0x51 (fun s => handReply s stOk s.pair.handReason) s) ∧
    (hasTurn s h 0x52 1 36 true → readsBack (.partnerReleaseRead h false (zeros 32)) h 0x52
      (fun s => releaseReply s stOk 0) s) ∧
    (hasTurn s h 0x61 64 0 false → readsBack (.portStatus h false) h 0x61 (fun s => portReply s h.inst.toNat) s) ∧
    (∀ first n : U8, 1 ≤ n.toNat → n.toNat ≤ 128 → hasTurn s h 0x62 64 4 false →
      readsBack (.nodeList h false first n) h 0x62 (fun s => nodeListReply s h.inst.toNat first.toNat n.toNat) s) ∧
    (∀ (k : U32) (n : U16), 1 ≤ n.toNat → n.toNat ≤ 1016 → crossesPort k.toNat n.toNat = false → hasTurn s h 0x63 1 8 false →
      readsBack (.pointRead h false k n) h 0x63 (fun s =>
        [0#8, 0, 0, 0] ++ le 4 k.toNat ++ le 2 n.toNat ++ [0#8, 0]
          ++ ((List.range n.toNat).map (fun i => le 4 (s.pointWord (k.toNat + i)))).flatten) s) ∧
    (∀ a : U8, hasTurn s h 0x66 64 4 true → readsBack (.nodeMessageRead h false a 0) h 0x66 (fun s =>
        let n := s.node (s.ringHead h.inst.toNat) a.toNat
        msgReply stOk n.txState (n.rxMsg.take 4080).length ++ n.rxMsg.take 4080) s)

/-- Two reads draw a value that the spec leaves open: they advance the model's counter of free values, and nothing else
apart from their answer. -/
def Obligations.OpenReadsAnswered : Prop :=
  ∀ (s : State) (h : Hdr),
    (hasTurn s h 0x54 1 0 false → servedBy (.mirrorStatus h false) h 0x54 false mirrorReply s) ∧
    (hasTurn s h 0x53 1 44 true → servedBy (.partnerAdmitRead h false 0 (zeros 32)) h 0x53 false
      (fun s => admitReply s stOk 0) s) ∧
    (∀ s : State, (mirrorReply s).1 = { s with free := s.free + 1 } ∧ (admitReply s stOk 0).1 = { s with free := s.free + 1 })

/-- Chapters 02, 03 and 16: a clearing `SLACK_READ` (R34), and staged parameters (R384, R385). -/
def Obligations.DeviceRequestsServed : Prop :=
  ∀ (s : State) (h : Hdr),
    (hasTurn s h 0x04 1 1 false → servedBy (.slackRead h false 1) h 0x04 false
      (fun s => ({ s with slack := { s.slack with clearNext := true } }, slackReply s)) s) ∧
    (∀ (n : U8) (es : List ParamEntry) (xs : List (Nat × Int)), es.length = n.toNat → n ≠ 0 →
      (∀ e ∈ es, e.resv = 0) → s.params.commit = none →
      checkEntries (takenOn s h) (es.map (fun e => (e.key.toNat, e.inst.toNat, e.value.toNat))) 0 = .inr xs →
      hasTurn s h 0x07 1 (4 + 12 * n.toNat) false →
      servedBy (.paramWrite h false n es) h 0x07 true (fun s =>
        let t := { s with params := { s.params with staged := { s.params.staged with
          vals := stageAll s.params.staged.vals xs } } }
        (t, writeReply t stOk 0xFF)) s) ∧
    (s.params.commit = none → hasTurn s h 0x08 1 4 false → servedBy (.paramDiscard h false) h 0x08 true (fun s =>
      let t := { s with params := { s.params with staged := s.params.committed } }
      (t, commitReply t stOk none 0)) s) ∧
    (s.params.commit = none → s.pair.hand = 0 → s.pair.incoming = false → s.pair.yielding = false →
      (changedKeys s.params == [] && changedMaps s.params == []) = false → firstRefusal (commitRefusals (takenOn s h)) = none →
      mapRefused (takenOn s h) = false → hasTurn s h 0x08 1 4 false →
      runsAs (.paramCommit h false) h (fun s => { s with params := { s.params with
        commit := some { epoch := s.epoch, count := stagedCount s, limited := firstLimited s, hdr := h } } }) s)

/-- R386: the first failure of validation decides the reply; nothing is committed, the staging copy is kept and event
0xA401 is recorded with the key, the instance and the status. -/
def Obligations.RefusedCommitKeepsStaging : Prop :=
  ∀ (s : State) (h : Hdr) (key inst st : Nat), s.params.commit = none → s.pair.hand = 0 → s.pair.incoming = false →
    s.pair.yielding = false → (changedKeys s.params == [] && changedMaps s.params == []) = false →
    firstRefusal (commitRefusals (takenOn s h)) = some (key, inst, st) → hasTurn s h 0x08 1 4 false →
    servedBy (.paramCommit h false) h 0x08 false (fun s =>
      let t := event s 0xA401 (le 2 key ++ le 1 inst ++ le 1 st)
      (t, commitReply t st (some (key, inst)) 0)) s
    ∧ ∀ t, exec (.paramCommit h false) s = .next t → t.params = s.params

/-- Tables 03.2, 03.4: requests of COMMISSION, of SERVICE under R42, of PROVING and DORMANT, and of LOCKOUT. -/
def Obligations.ModeRequestsServed : Prop :=
  ∀ (s : State) (h : Hdr), hasTurn s h 0x02 1 36 false →
    (∀ m : Mode, s.mode = .commission → toService (takenOn s h) = .now m → s.transition = none →
      servedBy (.modeRequest h false 3 (zeros 32)) h 0x02 false
        (fun s => (modeNow s m, modeReply (modeNow s m) stOk 3 0)) s) ∧
    (s.mode = .commission → s.partnerRole = 1 → s.transition = none →
      servedBy (.modeRequest h false 4 (zeros 32)) h 0x02 false
        (fun s => (modeNow s .shadow, modeReply (modeNow s .shadow) stOk 4 0)) s) ∧
    (s.mode = .commission → s.anyOutOn = false → s.transition = none →
      servedBy (.modeRequest h false 1 (zeros 32)) h 0x02 false (fun s =>
        ({ s with transition := some { target := .proving, chan := h.chan, seq := h.seq } },
          modeReply s stPending 1 0)) s) ∧
    ((s.mode = .commission ∨ s.mode = .lockout) ∧ s.anyOutOn = false ∨ s.mode = .shadow ∧ s.handing = false →
      s.transition = none →
      servedBy (.modeRequest h false 0 (zeros 32)) h 0x02 false (fun s =>
        ({ s with transition := some { target := .dormant, chan := h.chan, seq := h.seq } },
          modeReply s stPending 0 0)) s) ∧
    (servedBy (.modeRequest h false 5 (zeros 32)) h 0x02 false (fun s =>
        let t := lockoutBy s 0 5 false
        let t := if t.mode == .lockout then t else { t with pair := { t.pair with yieldHdr := some (h.chan, h.seq) } }
        (t, modeReply t (if t.mode == .lockout then stOk else stPending) 5 0)) s) ∧
    (∀ token, token.length = 32 → zeroToken token = false → tokenOk (takenOn s h) s.img.auth [0x02] token = true →
      s.mode = .service → s.transition = none → toCommission (takenOn s h) = .now .commission →
      servedBy (.modeRequest h false 2 token) h 0x02 false (fun s =>
        let t := modeNow { s with img := { s.img with auth := { s.img.auth with bytes := none } } } .commission
        (t, modeReply t stOk 2 0)) s)

/-- Chapter 13: cursors, the clear challenge, the log clear and rate limits (R308, R310, R312, R313). -/
def Obligations.RecorderRequestsServed : Prop :=
  ∀ (s : State) (h : Hdr),
    (∀ (from_ : U8) (seq : U32) (n : Nat), from_.toNat ≤ 2 → (from_ = 0 → seq = 0) → freeCursor s = some n →
      hasTurn s h 0x70 1 8 false →
      servedBy (.logCursorOpen h false from_ seq) h 0x70 false (fun s =>
        (s.modCursor n (fun _ => { isOpen := true, next := cursorStart s from_.toNat seq.toNat, lastRead := s.frame }),
          le 1 stOk ++ le 1 n ++ le 2 0 ++ le 4 (cursorStart s from_.toNat seq.toNat) ++ le 4 s.firstSeq
            ++ le 4 s.lastSeq)) s) ∧
    (∀ cursor maxCount : U8, cursor.toNat < 8 → (s.cursor cursor.toNat).isOpen = true → 1 ≤ maxCount.toNat →
      maxCount.toNat ≤ 63 → hasTurn s h 0x71 1 4 false →
      servedBy (.logRead h false cursor maxCount) h 0x71 false (fun s => readCursor s cursor.toNat maxCount.toNat) s) ∧
    (∀ cursor : U8, cursor.toNat < 8 → (s.cursor cursor.toNat).isOpen = true → hasTurn s h 0x72 1 4 false →
      servedBy (.logCursorClose h false cursor) h 0x72 false
        (fun s => (s.modCursor cursor.toNat (fun _ => {}), [0#8, 0, 0, 0])) s) ∧
    (s.log.clearCh.blockedUntil ≤ s.opTime → hasTurn s h 0x74 1 0 false →
      servedBy (.logClearChallenge h false) h 0x74 false (fun s =>
        let b := fit 16 (Config.nonce s.free) ++ le 8 Config.unitNumber.toNat ++ le 4 s.log.nextSeq ++ le 4 s.opTime
        ({ s with free := s.free + 1
                  log := { s.log with clearCh := { s.log.clearCh with bytes := some b, issuedAt := s.frame } } },
          [0#8, 0, 0, 0] ++ b)) s) ∧
    (∀ token, token.length = 32 → zeroToken token = false → tokenOk (takenOn s h) s.log.clearCh [0x75] token = true →
      hasTurn s h 0x75 1 32 false →
      (s.log.flushing = none → servedBy (.logClear h false token) h 0x75 true clearLog s) ∧
      (s.log.flushing ≠ none → runsAs (.logClear h false token) h (fun s => { s with log := { s.log with
        clearing := some h, clearCh := { s.log.clearCh with bytes := none } } }) s)) ∧
    (∀ (burst : U8) (code : U16) (refill : U32), 100 ≤ refill.toNat → refill.toNat ≤ 3600000 →
      (s.ratesPending.length < 256 ∨ (tget (dft {}) s.ratesPending code.toNat).listed = true) →
      hasTurn s h 0x76 1 8 false →
      servedBy (.rateLimitSet h false burst code refill) h 0x76 true (fun s =>
        let l := tset (dft {}) s.ratesPending code.toNat
          { listed := true, burst := burst.toNat, refillMs := refill.toNat }
        let t := if l = s.ratesPending then s else { s with log := { s.log with ratesNext := some l } }
        (t, rateReply t code.toNat)) s) ∧
    (∀ code : U16, hasTurn s h 0x76 1 8 false →
      servedBy (.rateLimitRemove h false 0 code 0) h 0x76 true (fun s =>
        let l := tset (dft {}) s.ratesPending code.toNat {}
        let t := if l = s.ratesPending then s else { s with log := { s.log with ratesNext := some l } }
        (t, rateReply t code.toNat)) s)

/-- R309: an accepted `TIME_MARK` admits one record with its payload and `time_back`, as the last of the buffer; no other
record changes. One within 1 s of the mark before is refused with BUSY. -/
def Obligations.TimeMarkAdmitsOneRecord : Prop :=
  ∀ (s : State) (h : Hdr) (wall : U64) (source accuracy : U8), hasTurn s h 0x05 1 12 false →
    servedBy (.timeMark h false wall source accuracy) h 0x05 true
      (fun s => timeMark s wall.toNat source.toNat accuracy.toNat) s ∧
    (∀ w t, s.log.lastMark = some (w, t) → s.opTime < t + 16 →
      timeMark (takenOn s h) wall.toNat source.toNat accuracy.toNat = (takenOn s h, refusal 16 stBusy)) ∧
    (s.log.buffer.length + 1 < 1024 → (∀ w t, s.log.lastMark = some (w, t) → t + 16 ≤ s.opTime) →
      let t := (timeMark (takenOn s h) wall.toNat source.toNat accuracy.toNat).1
      let prev := s.log.lastMark.map (·.1)
      ∃ (l : List Record) (r : Record), t.log.buffer = s.log.buffer ++ l ++ [r] ∧ t.log.log = s.log.log
        ∧ l.length = (if s.log.discarded = 0 then 0 else 1)
        ∧ r.code = 0x9140 ∧ r.seq = (if s.log.discarded = 0 then s.log.nextSeq else (s.log.nextSeq + 1) % 2 ^ 32) ∧ r.opTime = s.opTime
        ∧ r.payload = fit 40 (le 8 wall.toNat ++ le 1 source.toNat ++ le 1 accuracy.toNat ++ zeros 6
            ++ le 8 (prev.getD 0))
        ∧ (bitAt r.flags 3 = true ↔ ∃ w, prev = some w ∧ wall.toNat < w)
        ∧ t.log.lastMark = some (wall.toNat, s.opTime))

/-- Chapter 08: calls, regimes, group service and power budgets (R156, R159, R177, R178, R180, R181, R183). -/
def Obligations.DispatchRequestsServed : Prop :=
  ∀ (s : State) (h : Hdr),
    (∀ (origin : U8) (id : Nat), mergeTarget s { newCall 0 h.inst.toNat origin.toNat 0xFF 0xFF 0 0 0xFF 0 with
          notify := [(h.chan, h.seq)] } = none →
      s.liveCalls < 4096 → s.freeId = some id → s.call? id = none → hasTurn s h 0x10 4 8 false →
      servedBy (.callEnter h false 0 origin 0xFF 0xFF 0 0 0xFF 0) h 0x10 true (fun s =>
        (addCall s { newCall 0 h.inst.toNat origin.toNat 0xFF 0xFF 0 0 0xFF 0 with
            id := id, born := s.frame, notify := [(h.chan, h.seq)] },
          le 1 stPending ++ le 1 0 ++ le 2 id)) s) ∧
    (∀ (kind origin dest destGroup pax flags car level : U8) (t : State) (id : Nat),
      firstFail (callFields kind.toNat origin.toNat dest.toNat destGroup.toNat pax.toNat flags.toNat car.toNat
        level.toNat) = none →
      (let k : Call := { newCall kind.toNat h.inst.toNat origin.toNat dest.toNat destGroup.toNat pax.toNat flags.toNat
          car.toNat level.toNat with notify := [(h.chan, h.seq)] }
       namedRefusal (takenOn s h) k = none ∧ enterCall (takenOn s h) k = (t, .inl id)) → hasTurn s h 0x10 4 8 false →
      servedBy (.callEnter h false kind origin dest destGroup pax flags car level) h 0x10 true (fun s =>
        (joinNotify s t h id, le 1 stPending ++ le 1 0 ++ le 2 id)) s) ∧
    (∀ (id : U16) (c : Call), s.heldCall? id.toNat = some c → c.group = h.inst.toNat → hasTurn s h 0x11 4 4 false →
      servedBy (.callCancel h false id) h 0x11 true (fun s =>
        (if c.state ≤ 1 then cancelCall s c.id else s,
          le 1 stOk ++ le 1 (if c.state ≤ 1 then 4 else c.state) ++ le 2 0)) s) ∧
    (∀ regime : U8, regime ≠ 2 → (regime.toNat ≤ 6 ∨ regime = 0xFF) → s.configured h.inst.toNat = true →
      hasTurn s h 0x14 8 4 false →
      servedBy (.carRegimeSet h false regime) h 0x14 true (fun s =>
        let t := s.modDcar h.inst.toNat (fun d => { d with hostDemand := regimeOf regime.toNat })
        (t, regimeReply t h.inst.toNat)) s) ∧
    (s.configured h.inst.toNat = true → hasTurn s h 0x15 8 4 false →
      servedBy (.carServiceRemove h false) h 0x15 true (fun s =>
        let t := redispatch (s.modDcar h.inst.toNat (fun d => { d with inService := false })) h.inst.toNat false
        (t.1, le 1 stOk ++ le 1 (keptStops t.1 h.inst.toNat) ++ le 2 t.2)) s ∧
      servedBy (.carServiceAdd h false) h 0x15 true (fun s =>
        let t := s.modDcar h.inst.toNat (fun d => { d with
          inService := true, faultOut := false, leaving := false, joining := true, removedAt := none, removing := [] })
        (t, le 1 stOk ++ le 1 (keptStops t h.inst.toNat) ++ le 2 0)) s) ∧
    (∀ motorW regenW : U32, hasTurn s h 0x16 4 12 false →
      servedBy (.powerBudgetOverrideSet h false motorW regenW) h 0x16 true (fun s =>
        let t := budgetWatch (s.modDomain h.inst.toNat (fun d =>
          { d with hostBudget := some (motorW.toNat, regenW.toNat) }))
        (t, budgetReply t h.inst.toNat)) s ∧
      servedBy (.powerBudgetOverrideRelease h false motorW regenW) h 0x16 true (fun s =>
        let t := budgetWatch (s.modDomain h.inst.toNat (fun d => { d with hostBudget := none }))
        (t, budgetReply t h.inst.toNat)) s)

/-- R178: a request for the Inspection regime is refused with BAD_PARAM and changes nothing. -/
def Obligations.InspectionRegimeRefused : Prop :=
  ∀ (s : State) (h : Hdr), hasTurn s h 0x14 8 4 false →
    ∃ t, exec (.carRegimeSet h false 2) s = .next t ∧ onlyHost s t ∧ replied t h 0x14 [0x13#8, 0, 0, 0]

/-- Chapter 06: a trip, a jog and a stop of a car, a learning run and a brake test (R107, R112, R117, R118, R120, R121). -/
def Obligations.HoistRequestsServed : Prop :=
  ∀ (s : State) (h : Hdr),
    (∀ (position vLimit : U32), s.mode = .commission → s.startable h.inst.toNat = true →
      (s.hoist h.inst.toNat).stopClass = none → (s.hoist h.inst.toNat).stopReq = none →
      hoistTaken s h.inst.toNat = false → (s.hoist h.inst.toNat).phase = .idle →
      hasTurn s h 0x20 8 12 false →
      servedBy (.tripTarget h false 1 0 position vLimit) h 0x20 true (fun s =>
        let t := requestMove s h.inst.toNat .trip 0xFF position.toInt vLimit.toNat
        let p := startPlan t h.inst.toNat position.toInt
        (t, tripReply stOk 0xFF 0 (t.minStopPos h.inst.toNat) (usOf p.endAt) (p.dir * p.vPeak))) s) ∧
    (∀ direction : U8, direction.toNat ≤ 2 →
      s.mode = .commission ∨ (s.dcar h.inst.toNat).regime = .inspection ∧ s.par 0x3034 h.inst.toNat = 1 →
      s.startable h.inst.toNat = true → jogBusy s h.inst.toNat = false → hasTurn s h 0x21 8 4 false →
      servedBy (.jog h false direction) h 0x21 true (fun s =>
        let t := jogDemand s h.inst.toNat direction.toNat true
        (t, [0#8] ++ le 1 (t.hoist h.inst.toNat).jogDir ++ le 2 0 ++ leI 4 (t.hoist h.inst.toNat).refSpeed)) s) ∧
    (∀ cls : U8, cls.toNat ≤ 2 → hasTurn s h 0x22 8 4 false →
      servedBy (.stop h false cls) h 0x22 true (fun s =>
        (s.requestStop h.inst.toNat cls.toNat, (hostStop s h.inst.toNat cls.toNat).2)) s) ∧
    (hasTurn s h 0x22 8 4 false → servedBy (.stop h false 3) h 0x22 true (fun s =>
      ((applyStop (s.requestStop h.inst.toNat 3) h.inst.toNat 3).modHoist h.inst.toNat (fun x => { x with stopReq := none }),
        (hostStop s h.inst.toNat 3).2)) s) ∧
    (∀ (dz n : U8) (sw : List U8), sw.length = 8 → dz.toNat ≤ 95 → n.toNat ≤ 8 →
      ((sw.map (·.toNat)).take n.toNat).all (· ≤ 95) = true → ((sw.map (·.toNat)).drop n.toNat).all (· == 0xFF) = true →
      s.fusedOk h.inst.toNat = true → s.startable h.inst.toNat = true → s.standstill h.inst.toNat = true →
      hoistTaken s h.inst.toNat = false → (s.hoist h.inst.toNat).waiting = false →
      (s.hoist h.inst.toNat).phase = .idle → (s.hoist h.inst.toNat).stopReq = none → hasTurn s h 0x24 8 12 false →
      servedBy (.learnRunStart h false dz n sw) h 0x24 true (fun s =>
        let c := h.inst.toNat
        let t := (s.latch' .nextLearn (some c)).modHoist c (fun x =>
          { x with learn := { state := 1, dz := dz.toNat, switches := (sw.map (·.toNat)).take n.toNat } })
        let t := requestMove t c .learn 0xFF (learnTarget t c 0) 0
        (t, learnReply t c stOk)) s) ∧
    (∀ (dz n : U8) (sw : List U8), sw.length = 8 → (s.hoist h.inst.toNat).learn.state = 1 → hasTurn s h 0x24 8 12 false →
      servedBy (.learnRunAbort h false dz n sw) h 0x24 true (fun s =>
        let c := h.inst.toNat
        let t := (s.modHoist c (fun x => { x with learn := { x.learn with state := 3, reason := 5 } })).requestStop c 1
        let t := record t { code := 0x3402, sev := 1, inst := c, car := some c, payload := le 1 5 }
        (t, learnReply t c stOk)) s) ∧
    (∀ brakes dirs : U8, 1 ≤ brakes.toNat → brakes.toNat ≤ 3 → 1 ≤ dirs.toNat → dirs.toNat ≤ 3 → s.mode = .commission →
      s.standstill h.inst.toNat = true → s.atSomeLanding h.inst.toNat = true → s.doorsLocked h.inst.toNat = true →
      s.startable h.inst.toNat = true → hoistTaken s h.inst.toNat = false → (s.hoist h.inst.toNat).waiting = false →
      (s.hoist h.inst.toNat).phase = .idle → (s.hoist h.inst.toNat).stopReq = none →
      (∀ l, s.torqueLoop h.inst.toNat = some l →
        testTorque (s.latch' .nextBrakeTest (some h.inst.toNat)) h.inst.toNat ≤ (torqueBank s l (s.loop l).active).uMax) →
      hasTurn s h 0x25 8 4 false →
      servedBy (.brakeTestStart h false brakes dirs) h 0x25 true (fun s =>
        let c := h.inst.toNat
        let t := (s.latch' .nextBrakeTest (some c)).modHoist c (fun x =>
          { x with bt := { state := 1, brakes := brakes.toNat, dirs := dirs.toNat, notify := [(h.chan, h.seq)] } })
        let t := requestMove t c .brakeTest 0xFF (t.fusedPos c) 0
        (t, btReply t c stPending)) s)

/-- Chapter 07: `DOOR_COMMAND` on a present operator that is neither faulted nor without node or table (R149, R150,
R152, R154), and a table written (R132). -/
def Obligations.DoorRequestsServed : Prop :=
  ∀ (s : State) (h : Hdr),
    (hasTurn s h 0x28 16 12 false → doorHostOk s (doorCar h.inst.toNat) = true → s.doorPresent h.inst.toNat = true →
      operatorReason s h.inst.toNat = 0 →
      (∀ v : U32, servedBy (.doorStop h false 0 v) h 0x28 true (fun s =>
        let d := h.inst.toNat
        let t := s.modDoor d (fun x => { x with holdOpen := false, closeDemand := false, openRetry := false })
        let t := if movingState (t.door d).state then turnByCommand t d .stop else t
        (t, doorReplyBytes t d stOk 0)) s) ∧
      (∀ target v : U32, target.toNat ≤ s.parN 0x4006 h.inst.toNat → (s.door h.inst.toNat).referenced = true →
        openReason (takenOn s h) h.inst.toNat = 0 →
        servedBy (.doorOpen h false target v) h 0x28 true (fun s =>
          let d := h.inst.toNat
          let t := doOpen (s.modDoor d (fun x => { x with
            openTarget := if target.toNat == 0 then s.parN 0x4006 d else target.toNat, vLimit := v.toNat
            closeDemand := false, next := x.next.keepOpen })) d
          (t, doorReplyBytes t d stOk 0)) s) ∧
      (∀ v : U32, servedBy (.doorClose h false 0 v) h 0x28 true (fun s =>
        let d := h.inst.toNat
        let t := doClose (s.modDoor d (fun x => { x with
          vLimit := v.toNat, closeDemand := true, holdOpen := false, dwell := false })) d false
        (t, doorReplyBytes t d stOk 0)) s) ∧
      (∀ v : U32, servedBy (.doorNudgeClose h false 0 v) h 0x28 true (fun s =>
        let d := h.inst.toNat
        let x := s.modDoor d (fun x => { x with vLimit := v.toNat, closeDemand := true, holdOpen := false, dwell := false })
        let t := doClose x d true
        (t, doorReplyBytes t d stOk 0)) s) ∧
      (∀ target v : U32, target.toNat ≤ s.parN 0x4006 h.inst.toNat → (s.door h.inst.toNat).state = .opened →
        servedBy (.doorHoldOpen h false target v) h 0x28 true (fun s =>
          let d := h.inst.toNat
          let t := s.modDoor d (fun x => { x with
            holdOpen := true, closeDemand := false, dwell := false, next := x.next.keepOpen })
          (t, doorReplyBytes t d stOk 0)) s) ∧
      (∀ target v : U32, target.toNat ≤ s.parN 0x4006 h.inst.toNat → (s.door h.inst.toNat).state ≠ .opened →
        ((s.door h.inst.toNat).state = .opening ∨
          (s.door h.inst.toNat).referenced = true ∧ openReason (takenOn s h) h.inst.toNat = 0) →
        servedBy (.doorHoldOpen h false target v) h 0x28 true (fun s =>
          let d := h.inst.toNat
          let t := (openTo s d target.toNat v.toNat).modDoor d (fun x => { x with
            holdOpen := true, closeDemand := false, dwell := false, next := x.next.keepOpen })
          (t, doorReplyBytes t d stOk 0)) s) ∧
      (∀ v : U32, servedBy (.doorReleaseHold h false 0 v) h 0x28 true (fun s =>
        let d := h.inst.toNat
        let t := s.modDoor d (fun x => { x with holdOpen := false, dwell := x.dwell || x.holdOpen })
        (t, doorReplyBytes t d stOk 0)) s) ∧
      (∀ v : U32,
        servedBy (.doorReference h false 0 v) h 0x28 true (fun s =>
        let d := h.inst.toNat
        let t := if (s.door d).state = .referencing then s
          else if movingState (s.door d).state = true then turnByCommand s d .doReference else startReferencing s d
        (t, doorReplyBytes t d stOk 0)) s)) ∧
    (∀ (phases : U8) (count : U16) (es : List U16), (phases = 2 ∨ phases = 3) → count.toNat = tableLen phases.toNat →
      es.length = count.toNat → s.slotPhases h.inst.toNat = phases.toNat →
      tableOkR132 phases.toNat (es.map (fun e => e.toInt)) = true → hasTurn s h 0x2A 4 (4 + 2 * count.toNat) false →
      servedBy (.doorTableWrite h false phases count es) h 0x2A true
        (fun s => ((writeTable s h.inst.toNat phases.toNat (es.map (fun e => e.toInt))).1,
          [0#8, 0, 0, 0] ++ le 4 (crc32c (tableBytes (es.map (fun e => e.toInt)))).toNat)) s)

/-- Chapter 05: staged loop configurations and banks (R92), swaps (R93, R95). -/
def Obligations.LoopRequestsServed : Prop :=
  ∀ (s : State) (h : Hdr),
    (∀ (cfg : LoopCfg) (xs : List (Nat × Int)), s.params.commit = none →
      checkEntries (takenOn s h) (cfgEntries h.inst.toNat cfg) 0 = .inr xs → hasTurn s h 0x30 64 40 false →
      servedBy (.loopConfigWrite h false cfg) h 0x30 true (fun s =>
        ({ s with params := { s.params with staged := { s.params.staged with
            vals := stageAll s.params.staged.vals xs } } }, [0#8, 0, 0, 0])) s) ∧
    (∀ (n : U8) (uMin uMax slew ffGain : U16) (secs : List SecWire), secs.length = 16 → 1 ≤ n.toNat → n.toNat ≤ 16 →
      (secs.take n.toNat).all (fun w => w.flags.toNat ≤ 1 && w.cshift.toNat ≤ 3) = true →
      (secs.drop n.toNat).all zeroSec = true → s.loops.swap = none → n.toNat = s.loopSections h.inst.toNat →
      uMin.toInt < uMax.toInt → (((secs.take n.toNat).map secOf).any unstable) = false → hasTurn s h 0x31 64 204 false →
      servedBy (.loopCoeffStage h false n uMin uMax slew ffGain secs) h 0x31 true (fun s =>
        let l := h.inst.toNat
        let seq := ((s.loop l).stageSeq + 1) % 65536
        (s.modLoop l (fun k => { k with stageSeq := seq, staged := {
            secs := (secs.take n.toNat).map secOf, uMin := uMin.toInt, uMax := uMax.toInt, slew := slew.toNat
            ffGain := ffGain.toInt, seq := seq } }), [0#8, 0] ++ le 2 seq)) s) ∧
    (∀ mask : U64, s.pair.hand = 0 → s.loops.swap = none → hasTurn s h 0x32 1 12 false →
      runsAs (.loopCoeffSwap h false mask) h (fun s => { s with loops := { s.loops with swap := some {
        hdr := some h, mask := mask.toNat, left := mask.toNat, isReset := false, epoch := s.epoch + 1
        armed := false } } }) s ∧
      (((List.range 64).any (fun l => bitAt mask.toNat l && (s.loop l).running)) = false →
        runsAs (.loopCoeffSwapReset h false mask) h (fun s => { s with loops := { s.loops with swap := some {
          hdr := some h, mask := mask.toNat, left := mask.toNat, isReset := true, epoch := s.epoch + 1
          armed := false } } }) s))

/-- Chapter 05: injections (R97, R99) and captures (R100). -/
def Obligations.InjectionAndCaptureRequestsServed : Prop :=
  ∀ (s : State) (h : Hdr),
    (∀ (slot signal node : U8) (amp : U16) (p1 p2 p3 p4 : U32), slot.toNat ≤ 3 → node.toNat ≤ 19 →
      injectFits (loopHz s.par h.inst.toNat) signal.toNat amp.toInt p1.toNat p2.toNat p3.toNat p4.toNat →
      s.injAllowed h.inst.toNat = true → s.loopHeld h.inst.toNat = false → (s.inj slot.toNat).busy = false →
      (∀ c, s.loopCar h.inst.toNat = some c → s.testing c = false) → hasTurn s h 0x33 64 24 false →
      servedBy (.injectStart h false slot signal node amp p1 p2 p3 p4) h 0x33 false (fun s =>
        let l := h.inst.toNat
        let u := s.latch' .nextInject none
        let f := nextSample u l
        let k : InjSlot := { busy := true, loop := l, signal := signal.toNat, node := node.toNat, amp := amp.toInt
                             p1 := p1.toNat, p2 := p2.toNat, p3 := p3.toNat, p4 := p4.toNat, startFrame := f
                             maxS := u.parN 0x2003 0, lfsr := if signal.toNat == 0 then 2 ^ p1.toNat - 1 else 0 }
        let t := event (u.modInj slot.toNat (fun _ => k)) 0x2120 (le 1 slot.toNat) l
        (t, le 1 stOk ++ le 1 slot.toNat ++ le 2 0 ++ le 4 f ++ le 4 (injLength k (loopHz t.par l)))) s) ∧
    (∀ mask : U8, mask.toNat ≤ 15 → hasTurn s h 0x34 1 4 false →
      servedBy (.injectStop h false mask) h 0x34 false (fun s =>
        let m := maskOf 4 (fun n => mask.getLsbD n && (s.inj n).busy)
        (forEach (List.range 4) (fun s n => if bitAt m n then endInj s n 0 else s) s, le 1 stOk ++ le 1 m ++ le 2 0)) s) ∧
    (∀ (loop trigger arg decim : U8) (nodes : List U16) (depth pre level timeout : U32), nodes.length = 4 →
      loop.toNat ≤ 63 → trigger.toNat ≤ 3 → arg.toNat ≤ 3 → (trigger = 0 → arg = 0) → (trigger.toNat < 2 → level = 0) →
      decim ≠ 0 →
      nodes.all (fun n => n.toNat / 256 ≤ 63 && n.toNat % 256 ≤ 23) = true → 1 ≤ depth.toNat → depth.toNat ≤ 65536 →
      pre.toNat < depth.toNat → s.proving.noCapture = false → hasTurn s h 0x35 1 28 false →
      servedBy (.captureArm h false loop trigger arg decim nodes depth pre level timeout) h 0x35 false (fun s =>
        let u := if s.cap.state = 1 ∨ s.cap.state = 2 then endCapture s 4 else s
        (u.modCap (fun _ => {
            state := 1, armFrame := u.frame, trigLoop := loop.toNat, trigger := trigger.toNat, trigArg := arg.toNat
            decim := decim.toNat, nodes := nodes.map (fun n => (n.toNat / 256, n.toNat % 256)), depth := depth.toNat
            pretrigger := pre.toNat, level := level.toInt, timeoutMs := timeout.toNat }),
          [0#8, 1, 0, 0] ++ le 4 u.frame)) s)

/-- Chapters 09 and 10: a set staged and confirmed (R224, R226), reset windows (R246, R249). -/
def Obligations.SafetyRequestsServed : Prop :=
  ∀ (s : State) (h : Hdr),
    (∀ (slot : U8) (q : SafetySet), slot.toNat ≤ 1 →
      ((s.imgSlot (slotKey 3 slot.toNat)).state = 3 ∨ (s.imgSlot (slotKey 3 slot.toNat)).state = 4) →
      parseSet ((s.imgSlot (slotKey 3 slot.toNat)).data.drop 160) = .inr q → hasTurn s h 0x41 1 4 false →
      servedBy (.safetySetStage h false slot) h 0x41 false (fun s =>
        let t := closeEnrol s 3
        let t := { t with saf := { t.saf with
          staged := some (q, slot.toNat, t.frame), confirmedAt := none, setExpired := false } }
        let t := event t 0x6150 (le 4 q.number)
        (t, stageReply stOk 0 (some q) 0 0)) s) ∧
    (∀ (q : SafetySet) (slot opened : Nat) (number : U32) (code : Bytes), code.length = 6 →
      s.saf.staged = some (q, slot, opened) → confirmReason s number.toNat code = 0 → hasTurn s h 0x42 1 12 false →
      servedBy (.safetySetConfirm h false number code) h 0x42 true (fun s =>
        let t := event (adoptSet s q) 0x6151 (le 4 q.number)
        (t, confirmReply t stOk 0 (some q))) s) ∧
    (∀ cars : U8, cars ≠ 0 → s.saf.tripWin.state ≠ 1 →
      (∀ c, c < 8 → bitAt cars.toNat c = true → (s.carSaf c).trip = true ∧ blockedCar s c = false) →
      hasTurn s h 0x43 1 4 false →
      servedBy (.tripResetArm h false cars) h 0x43 true (fun s =>
        let t := { s with saf := { s.saf with tripWin := { state := 1, cars := cars.toNat, armedAt := s.frame } } }
        (t, tripResetReply t stOk)) s) ∧
    (s.saf.tripWin.state = 1 → hasTurn s h 0x43 1 4 false →
      servedBy (.tripResetDisarm h false 0) h 0x43 true (fun s =>
        let t := { s with saf := { s.saf with tripWin := {} } }
        (t, tripResetReply t stOk)) s) ∧
    (∀ token, token.length = 32 → zeroToken token = false → tokenOk (takenOn s h) s.img.auth [0x44] token = true →
      outs32.all (fun o => legsOpen (s.out o)) = true → s.img.tap = 15 → s.saf.lockWin.state ≠ 1 →
      hasTurn s h 0x44 1 36 false →
      servedBy (.lockoutResetArm h false token) h 0x44 false (fun s =>
        let t := { s with img := { s.img with auth := { s.img.auth with bytes := none } }
                          saf := { s.saf with lockWin := { state := 1, armedAt := s.frame } } }
        (t, lockReply t stOk 0)) s)

/-- R246: a reset is refused with BUSY while a window is armed, and with WRONG_MODE if a selected car holds no trip, has a
present cause or does not stand with both brakes closed; neither changes any other state. -/
def Obligations.TripResetRefused : Prop :=
  ∀ (s : State) (h : Hdr) (cars : U8), cars ≠ 0 → hasTurn s h 0x43 1 4 false →
    (s.saf.tripWin.state = 1 → ∃ t, exec (.tripResetArm h false cars) s = .next t ∧ onlyHost s t) ∧
    (s.saf.tripWin.state ≠ 1 →
      (∃ c, c < 8 ∧ bitAt cars.toNat c = true ∧ ((s.carSaf c).trip = false ∨ blockedCar s c = true)) →
      ∃ t, exec (.tripResetArm h false cars) s = .next t ∧ onlyHost s t ∧ replied t h 0x43 (tripResetReply s stWrongMode))

/-- Chapter 11: a planned hand-over accepted (R269), a partner released (R279) and admitted (R280). -/
def Obligations.PairRequestsServed : Prop :=
  ∀ (s : State) (h : Hdr),
    (s.pair.hand = 0 → s.pair.yielding = false → s.params.commit = none → hasTurn s h 0x51 1 4 false →
      (handRefused s 1 = 0 → servedBy (.handoverRequest h false) h 0x51 false (fun s =>
        let t := endInjOn s 5 (fun _ => true)
        let t := { t with pair := { t.pair with
          hand := 1, handState := 1, handReason := 0, handAction := 1, h0 := t.epoch + 1, h1 := t.epoch + 2
          handFrame := t.frame, handUs := 0, handHdr := some (h.chan, h.seq) } }
        (t, handReply t stPending 0)) s) ∧
      (handRefused s 2 = 0 → servedBy (.handoverActivateTadpoles h false) h 0x51 false (fun s =>
        let t := endInjOn s 5 (fun _ => true)
        let t := { t with pair := { t.pair with
          hand := 1, handState := 1, handReason := 0, handAction := 2, h0 := t.epoch + 1, h1 := t.epoch + 2
          handFrame := t.frame, handUs := 0, handHdr := some (h.chan, h.seq) } }
        (t, handReply t stPending 0)) s)) ∧
    (∀ token, token.length = 32 → zeroToken token = false → tokenOk (takenOn s h) s.img.auth [0x52] token = true →
      s.pair.hand = 0 → s.partnerRole ≠ 1 → s.partnerRole ≠ 2 → s.partnerRole ≠ 6 → hasTurn s h 0x52 1 36 false →
      servedBy (.partnerRelease h false token) h 0x52 false (fun s =>
        let t := { s with img := { s.img with auth := { s.img.auth with bytes := none } } }
        let t := releaseAll (event t 0x7150)
        let t := { t with pair := { t.pair with
          paired := false, pairTag := 0, partnerUnit := 0, releasedState := 1, inStep := false, resyncing := false } }
        (t, releaseReply t stOk 0)) s) ∧
    (∀ (unit : U64) token, token.length = 32 → zeroToken token = false →
      tokenOk (takenOn s h) s.img.auth [0x53] token = true → admitRefused s unit.toNat = 0 →
      hasTurn s h 0x53 1 44 false →
      ∃ tag, 1 ≤ tag ∧ tag ≤ 255 ∧ servedBy (.partnerAdmit h false unit token) h 0x53 false (fun s =>
        admitReply (event { s with
          img := { s.img with auth := { s.img.auth with bytes := none } }
          pair := { s.pair with
            paired := true, pairTag := tag, partnerUnit := unit.toNat, releasedState := 0, resyncing := true
            inStep := false, takenOver := false }
          saf := { s.saf with vetoOut := false }
          free := s.free + 1 } 0x7151 (le 8 unit.toNat)) stOk 0) s)

/-- Chapters 14 and 15: a port's keys staged, output points, forces, maps and messages (R348, R356, R366). -/
def Obligations.LinkRequestsServed : Prop :=
  ∀ (s : State) (h : Hdr),
    (∀ (use cls rate ring car phase : U8) (guard : U16) (peer poll : U8) (probe : U16) (xs : List (Nat × Int)),
      s.params.commit = none →
      checkEntries (takenOn s h) (portEntries h.inst.toNat use cls rate ring car phase guard peer poll probe) 0 = .inr xs →
      hasTurn s h 0x60 64 12 false →
      servedBy (.portConfig h false use cls rate ring car phase guard peer poll probe) h 0x60 true (fun s =>
        ({ s with params := { s.params with staged := { s.params.staged with
            vals := stageAll s.params.staged.vals xs } } }, [0#8, 0, 0, 0])) s) ∧
    (∀ (k : U32) (v : U16), k.toNat < 2 ^ 20 → hasTurn s h 0x64 1 8 false →
      (ownedOutput s k.toNat = false → (s.pointEntry k.toNat 2).isSome = true →
        servedBy (.pointWriteOutput h false k v) h 0x64 true (fun s =>
          let t := s.modPoint k.toNat (fun p => { p with output := v.toNat })
          (t, pointReply t k.toNat true)) s) ∧
      (s.mode = .commission → (s.pointEntry k.toNat 1).isSome = true →
        servedBy (.pointForce h false k v) h 0x64 false (fun s =>
          let t := s.modPoint k.toNat (fun p => { p with forced := some v.toNat })
          (t, pointReply t k.toNat false)) s ∧
        servedBy (.pointForceRelease h false k 0) h 0x64 false (fun s =>
          let t := s.modPoint k.toNat (fun p => { p with forced := none })
          (t, pointReply t k.toNat false)) s)) ∧
    (∀ (node profile landing group side : U8) (n : U16) (es : List Bytes), es.length = n.toNat →
      es.all (bytesLen 16) = true → side.toNat ≤ 1 → profile.toNat ≤ 8 → n.toNat ≤ 64 → group.toNat ≤ 3 →
      es.any entryUndefined = false → es.any entryBeyond = false → s.params.commit = none →
      hasTurn s h 0x65 64 (8 + 16 * n.toNat) false →
      servedBy (.pointMapWrite h false node profile landing group side n es) h 0x65 true (fun s =>
        let m : PointMap := {
          present := n != 0, expectProfile := profile.toNat, landing := landing.toNat, group := group.toNat
          side := side.toNat, entries := (es.map decodeEntry).filter (fun e => e.dir != 0) }
        ({ s with params := { s.params with staged := { s.params.staged with
            maps := tset (dft {}) s.params.staged.maps (nodeKey (s.ringHead h.inst.toNat) node.toNat) m } } },
          [0#8, 0, 0, 0])) s) ∧
    (∀ (node : U8) (n : U16) (data : Bytes), data.length = n.toNat → 1 ≤ n.toNat → n.toNat ≤ 4080 →
      (s.node (s.ringHead h.inst.toNat) node.toNat).state = 0 →
      (s.node (s.ringHead h.inst.toNat) node.toNat).profile ≠ 3 →
      (s.node (s.ringHead h.inst.toNat) node.toNat).profile ≠ 4 →
      (s.node (s.ringHead h.inst.toNat) node.toNat).txState ≠ 1 → s.portUse (s.ringHead h.inst.toNat) = 1 →
      s.lineUsable (s.ringHead h.inst.toNat) = true → hasTurn s h 0x66 64 (4 + n.toNat) false →
      servedBy (.nodeMessageSend h false node n data) h 0x66 true (fun s =>
        (s.modNode (s.ringHead h.inst.toNat) node.toNat (fun x => { x with
          txState := 1, txMsg := data, txPos := 0, txSeg := 0, txSends := 0, txHost := some (h.chan, h.seq) }),
          msgReply stPending 1 0)) s)

/-- Chapter 17: a load from its begin to its end (R392), activations (R394), the challenge (R399) and enrolment (R398). -/
def Obligations.ImageRequestsServed : Prop :=
  ∀ (s : State) (h : Hdr),
    (∀ (type slot : U8) (total : U32), 1 ≤ type.toNat → type.toNat ≤ 3 → (slot.toNat ≤ 1 ∨ slot = 0xFF) →
      total.toNat ≤ imageMax type.toNat → s.activeSlot type.toNat ≠ some (openSlot s type.toNat slot.toNat) →
      ¬(type = 3 ∧ s.stagedSlot = some (openSlot s type.toNat slot.toNat)) → s.img.session = none →
      s.img.verifying = none → hasTurn s h 0x80 1 8 false →
      servedBy (.imageBegin h false type slot total) h 0x80 false (fun s =>
        let n := openSlot s type.toNat slot.toNat
        let t := (s.latch' .nextSession none).modImgSlot (slotKey type.toNat n) (fun _ => { state := 1 })
        ({ t with img := { t.img with session := some {
            type := type.toNat, slot := n, total := total.toNat, received := 0, data := [] } } },
          [0#8] ++ le 1 n ++ [0#8, 0])) s) ∧
    (∀ (offset : U32) (n : U16) (data : Bytes) (k : Session), data.length = n.toNat → 1 ≤ n.toNat → n.toNat ≤ 4064 →
      s.img.session = some k → offset.toNat = k.received → k.received + data.length ≤ k.total →
      hasTurn s h 0x81 1 (8 + n.toNat) false →
      servedBy (.imageChunk h false offset n data) h 0x81 false (fun s =>
        ({ s with img := { s.img with session := some { k with
            received := k.received + data.length, data := k.data ++ data } } },
          [0#8, 0, 0, 0] ++ le 4 (k.received + data.length))) s) ∧
    (∀ k : Session, s.img.session = some k → hasTurn s h 0x82 1 0 false →
      servedBy (.imageEnd h false) h 0x82 false (fun s =>
        let t := s.modImgSlot (slotKey k.type k.slot) (fun x => { x with data := k.data, length := k.data.length })
        ({ t with img := { t.img with session := none, verifying := some (k.type, k.slot, h) } },
          endReply stPending 0 k.type k.slot 0 [])) s) ∧
    (∀ slot : U8, slot.toNat ≤ 1 → s.pair.hand = 0 → s.params.commit = none →
      (s.imgSlot (slotKey 2 slot.toNat)).state = 3 → policyOk s ((s.imgSlot (slotKey 2 slot.toNat)).data.drop 160) = true →
      s.mode = .commission → cars8.all s.standstill = true →
      cars8.any (fun c => (s.hoist c).learn.state == 1 || (s.hoist c).bt.state == 1) = false → hasTurn s h 0x83 1 4 false →
      servedBy (.imageActivate h false 2 slot) h 0x83 false (fun s =>
        ({ s with img := { s.img with policyNext := some slot.toNat } }, [0#8, 0, 0, 0])) s) ∧
    (s.img.auth.blockedUntil ≤ s.opTime → hasTurn s h 0x85 1 0 false →
      servedBy (.authChallenge h false) h 0x85 false (fun s =>
        let k := (s.img.auth.issued + 1) % 2 ^ 32
        let b := fit 16 (Config.nonce s.free) ++ le 8 Config.unitNumber.toNat ++ le 4 s.opTime ++ le 4 k
        ({ s with free := s.free + 1
                  img := { s.img with auth := { s.img.auth with
                    bytes := some b, issuedAt := s.frame, aged := 0, issued := k } } },
          [0#8, 0, 0, 0] ++ b)) s) ∧
    (∀ (id : U8) (key : Bytes), key.length = 64 → 1 ≤ id.toNat → id.toNat ≤ 3 → keyValid id.toNat key = true →
      (takenOn s h).pubKey id.toNat = [] → s.saf.staged = none → s.saf.enrolWin.state ≠ 1 → hasTurn s h 0x86 1 100 false →
      servedBy (.keyEnrol h false id key (zeros 32)) h 0x86 false (fun s =>
        let t := { s with
          img := { s.img with enrolKey := some (id.toNat, keptKey id.toNat key, h.chan, h.seq) }
          saf := { s.saf with enrolWin := { state := 1, armedAt := s.frame } } }
        (t, enrolReply t stPending)) s)

/-! ### All commands -/

/-- Every command that can occur completes from every state, leaves the queue of commands alone, and changes no part of the
device but those listed for it. -/
def Obligations.EveryCommandCompletes : Prop :=
  ∀ (c : Instr) (s : State), occurs c = true →
    ∃ t, exec c s = .next t ∧ t.pending = s.pending ∧ ∀ p, p ∉ changes c → p.same s t

/-- The model's choice (log entry 3): a command that no packet, transaction or event spells stops as ill-formed. -/
def Obligations.ImpossibleCommandsStop : Prop :=
  ∀ (c : Instr) (s : State), occurs c = false → exec c s = .fault .illFormed

/-! ### Rules of requests -/

/-- R376, check 4 with R382 and R383: a request that the mode does not answer is refused with the status that Table 16.6
gives for the mode, the rest of its layout zero, and changes nothing; a passive device refuses all but the rows of R383. -/
def Obligations.WrongModeRefused : Prop :=
  ∀ (i : Instr) (r : HostReq) (s : State) (e : OpRow), hostOf i = some r → Instr.wellFormed i = true →
    turnAtOnce s r.hdr → r.hdr.flags = 0 → (∀ k o, i ≠ .unknownOpcodePacket k o) → findOp r.op = some e →
    (s.passive = true → (∀ b, passiveAnswers e b = false) →
      ∃ t, exec i s = .next t ∧ onlyHost s t ∧ replied t r.hdr r.op (refusedWith s r stWrongMode)) ∧
    (s.passive = false → e.entry s.mode = .no →
      ∃ t, exec i s = .next t ∧ onlyHost s t ∧ replied t r.hdr r.op (refusedWith s r stWrongMode)) ∧
    (s.passive = false → e.entry s.mode = .na →
      ∃ t, exec i s = .next t ∧ onlyHost s t ∧ replied t r.hdr r.op (refusedWith s r stNotActive))

/-- R8: "A key whose table gives no instance meaning is addressed with instance 0. Any other instance for that key is
refused with BAD_PARAM." -/
def Obligations.OtherInstanceRefused : Prop :=
  ∀ (s : State) (h : Hdr) (key : U16) (r : KeySpec), findKey key.toNat = some r → r.insts = 1 →
    (∀ inst which : U8, inst ≠ 0 → which.toNat ≤ 2 → hasTurn s h 0x06 1 4 false →
      readsBack (.paramRead h false key inst which) h 0x06 (fun _ => refusal 16 stBadParam) s) ∧
    (∀ which : U8, which.toNat ≤ 2 → ¬(which = 1 ∧ safetyKey key.toNat = true) → hasTurn s h 0x06 1 4 false →
      readsBack (.paramRead h false key 0 which) h 0x06 (fun s => paramReadReply s r key.toNat 0 which.toNat) s) ∧
    (∀ (inst : U8) (value : U64), inst ≠ 0 → s.params.commit = none → hasTurn s h 0x07 1 16 false →
      readsBack (.paramWrite h false 1 [⟨key, inst, 0, value⟩]) h 0x07 (fun s => writeReply s stBadParam 0) s)

/-- R388: "`PARAM_READ` with `which` 0 returns the committed value. For a key from 0x6000 to 0x6FFF it returns the confirmed
value, and for a read-only counter it returns the present value. `which` 1 returns the staged value, and is refused with
BAD_PARAM for keys from 0x6000 to 0x6FFF. `which` 2 returns the key's default." The value is the reply's last 8 bytes. -/
def Obligations.ParamReadValues : Prop :=
  ∀ (s : State) (h : Hdr) (key : U16) (inst : U8) (r : KeySpec), findKey key.toNat = some r → inst.toNat < r.insts →
    hasTurn s h 0x06 1 4 false →
    (r.ro = false → safetyKey key.toNat = false → ∃ t p, exec (.paramRead h false key inst 0) s = .next t ∧ onlyHost s t ∧
      replied t h 0x06 p ∧ p.take 1 = [0#8] ∧ p.drop 8 = leI 8 (s.com key.toNat inst.toNat)) ∧
    (r.ro = false → safetyKey key.toNat = true → ∃ t p, exec (.paramRead h false key inst 0) s = .next t ∧ onlyHost s t ∧
      replied t h 0x06 p ∧ p.take 1 = [0#8] ∧ p.drop 8 = leI 8 (s.sf key.toNat inst.toNat)) ∧
    (r.ro = true → ∃ t p, exec (.paramRead h false key inst 0) s = .next t ∧ onlyHost s t ∧
      replied t h 0x06 p ∧ p.take 1 = [0#8] ∧ p.drop 8 = leI 8 (roValue s key.toNat)) ∧
    (r.ro = false → safetyKey key.toNat = false → ∃ t p, exec (.paramRead h false key inst 1) s = .next t ∧ onlyHost s t ∧
      replied t h 0x06 p ∧ p.take 1 = [0#8] ∧ p.drop 8 = leI 8 (s.stg key.toNat inst.toNat)) ∧
    (safetyKey key.toNat = true → ∃ t, exec (.paramRead h false key inst 1) s = .next t ∧ onlyHost s t ∧
      replied t h 0x06 (refusal 16 stBadParam)) ∧
    (∃ t p, exec (.paramRead h false key inst 2) s = .next t ∧ onlyHost s t ∧
      replied t h 0x06 p ∧ p.take 1 = [0#8] ∧ p.drop 8 = leI 8 r.dflt)

/-- R369: "HQ_READ removes the head packet from the output queue only if HQ_CS_N rises after the last byte of that packet
has been clocked. If HQ_CS_N rises earlier, the packet stays at the head, bit 3 of `errors` is set, and the next HQ_READ
sends the packet again from byte 0. With the queue empty, HQ_READ returns 0x00 bytes, which are never a sync byte." -/
def Obligations.HqReadTakesWholePackets : Prop :=
  ∀ (s : State) (n : Nat), s.chanUp .port = true →
    (∀ p rest, s.host.port.out = p :: rest →
      (packetLen p ≤ n → ∃ t new, exec (.hqRead n) s = .next t ∧ t.host.port.out = rest ++ new ∧ t.host.errors = s.host.errors ∧
        t.host.sent = fit n (packetBytes p)) ∧
      (n < packetLen p → ∃ t, exec (.hqRead n) s = .next t ∧ t.host.port.out = p :: rest ∧
        t.host.errors = s.host.errors ||| 8 ∧ t.host.sent = (packetBytes p).take n ∧
        ∀ m, ∃ u, exec (.hqRead m) t = .next u ∧ u.host.sent = fit m (packetBytes p))) ∧
    (s.host.port.out = [] → ∃ t, exec (.hqRead n) s = .next t ∧ t.host.port.out = [] ∧ t.host.sent = zeros n ∧
      0xE7#8 ∉ t.host.sent)

/-- R346: "Where several qualities apply to one point, the point shows the first of these: forced, lost, stuck, chatter,
range, stale, good. Wherever another chapter requires a point to be of good quality, forced meets that requirement." -/
def Obligations.PointQualityOrder : Prop :=
  ∀ (s : State) (k : Nat),
    let p := s.point k
    let lost := s.nodeState (k / 16384) (k / 64 % 256) = 2 ∨ s.nodeState (k / 16384) (k / 64 % 256) = 3
    let stale := s.nodeState (k / 16384) (k / 64 % 256) = 1 ∨ p.accepted = false
    (p.forced.isSome = true → s.pointQuality k = 4 ∧ s.pointGood k = true) ∧
    (p.forced = none → lost → s.pointQuality k = 3 ∧ s.pointGood k = false) ∧
    (p.forced = none → ¬lost → p.stuck = true → s.pointQuality k = 5 ∧ s.pointGood k = false) ∧
    (p.forced = none → ¬lost → p.stuck = false → s.inChatter k = true → s.pointQuality k = 6 ∧ s.pointGood k = false) ∧
    (p.forced = none → ¬lost → p.stuck = false → s.inChatter k = false → p.range = true →
      s.pointQuality k = 2 ∧ s.pointGood k = false) ∧
    (p.forced = none → ¬lost → p.stuck = false → s.inChatter k = false → p.range = false → stale →
      s.pointQuality k = 1 ∧ s.pointGood k = false) ∧
    (p.forced = none → ¬lost → p.stuck = false → s.inChatter k = false → p.range = false → ¬stale →
      s.pointQuality k = 0 ∧ s.pointGood k = true)

/-- R201: "Side s of a car is closed and locked when its car door contact and its landing door locks are both permissive in
both islands. This is the report that the door engine waits for under R138. The car is closed and locked when every side
in `sf_sides` is." A side that has no contact or no lock assigned is not: the model's choice
(DEDUCED, log entry 61). -/
def Obligations.SidesClosedAndLocked : Prop :=
  ∀ (s : State) (c : Nat), c < 8 →
    (∀ side, side < 2 → (s.sideLocked c side = true ↔
      (∃ i, i < 96 ∧ s.sf 0x6100 i = 3 ∧ s.sf 0x6101 i = c ∧ s.sf 0x6102 i = side) ∧
      (∃ i, i < 96 ∧ s.sf 0x6100 i = 4 ∧ s.sf 0x6101 i = c ∧ s.sf 0x6102 i = side) ∧
      (∀ i, i < 96 → (s.sf 0x6100 i = 3 ∨ s.sf 0x6100 i = 4) → s.sf 0x6101 i = c → s.sf 0x6102 i = side →
        s.permissive .a i = true ∧ s.permissive .b i = true))) ∧
    (s.sidesLocked c = true ↔ ∀ side, side < 2 → bitAt (s.sfN 0x6002 c) side = true → s.sideLocked c side = true)

/-! ### Power, modes and proving -/

/-- R37: "In SERVICE mode the device ignores WAKE falling, and records event 0xA105 once per falling edge." (What its second
sentence asks of the user is no effect of the device.) -/
def Obligations.WakeIgnoredInService : Prop :=
  ∀ s : State, s.power = .on → s.mode = .service →
    exec .wakeLow s = .next (event { s with pins := { s.pins with wake := false } } 0xA105)

/-- R36, R40, R431, R432, R437 and Table 03.2: what the supplies, WAKE, RST_N and a transition lead to. -/
def Obligations.PowerAndModeEvents : Prop :=
  ∀ s : State,
    (s.power = .off → exec .vaonEntersRange s = .next { s with
      power := .wakeFilter, pins := { s.pins with vaon := true }, resetFrom := (0xFF, 0), entryRecs := [] }) ∧
    (s.power = .wakeFilter → s.pins.supplies = true → s.pins.vaon = true → s.pins.rstN = true →
      ∃ t, exec .wakeHigh s = .next t ∧ provesAgain s t) ∧
    (s.power = .wakeFilter → s.pins.supplies = false →
      exec .wakeHigh s = .next { s with power := .startWait, pins := { s.pins with wake := true, wakeHeld := false } }) ∧
    (s.power = .on → s.mode = .dormant → s.pins.wakeWasLow = true → s.pins.supplies = true → s.pins.vaon = true →
      s.pins.rstN = true → ∃ t, exec .wakeHigh s = .next t ∧ provesAgain s t) ∧
    (s.power = .on → s.mode ≠ .dormant →
      exec .wakeHigh s = .next { s with pins := { s.pins with wake := true, wakeHeld := false } }) ∧
    (s.power = .wakeFilter → exec .wakeLow s = .next { s with
      power := .on, mode := .dormant, entryRecs := [(0xFF, 0, 0)], pins := { s.pins with wake := false, wakeWasLow := true } }) ∧
    (s.power = .on → (s.mode = .shadow ∧ s.handing = false ∨ (s.mode = .commission ∨ s.mode = .lockout) ∧ s.anyOutOn = false) →
      exec .wakeLow s = .next (enterDormant { s with pins := { s.pins with wake := false } } 1)) ∧
    (s.power = .on → s.mode = .commission ∨ s.mode = .lockout → s.anyOutOn = true →
      exec .wakeLow s = .next (event { s with pins := { s.pins with wake := false, wakeHeld := true } } 0xA105)) ∧
    (s.power = .on → s.pins.wakeHeld = true → s.pins.wake = false → s.anyOutOn = false → s.handing = false →
      s.mode = .commission ∨ s.mode = .lockout ∨ s.mode = .shadow →
      exec .heldWakeDemandTaken s = .next (enterDormant s 1)) ∧
    (s.power = .on → s.mode ≠ .dormant → ∀ q, s.transition = some q →
      (q.target ≠ .proving → exec .modeTransitionBegin s = .next (enterDormant s 5)) ∧
      (q.target = .proving → ∃ t, exec .modeTransitionBegin s = .next t ∧ provesAgain s t)) ∧
    (s.power = .on → s.mode = .shadow ∨ s.mode = .lockout → s.anyOutOn = false →
      exec .dormantOrderReceived s = .next (enterDormant s 5)) ∧
    (s.power = .on → s.mode = .commission → s.img.baseRestart.isSome = true →
      ∃ t, exec .baseImageRestart s = .next t ∧ provesAgain s t)

/-- R39, R40, R305 and R414: reset and loss of supplies stop every output; the device proves itself again when RST_N is high
with the supplies in range and the last flush done. -/
def Obligations.ResetAndSupplyEvents : Prop :=
  ∀ s : State, OutsCanonical s →
    (s.power = .on → s.mode ≠ .dormant → ∃ t, exec .rstNLow s = .next t ∧ t.power = .inReset ∧ t.pins.rstN = false ∧
      t.resetFrom = (modeCode s.mode, 2) ∧ t.host = {} ∧ (∀ o, o < 32 → outStill (t.out o) = true) ∧ t.latch = s.latch) ∧
    (s.power ≠ .on ∨ s.mode = .dormant → exec .rstNLow s = .next { s with pins := { s.pins with rstN := false } }) ∧
    (s.power = .inReset → s.pins.supplies = true → s.pins.vaon = true → s.log.flushing = none → s.pins.wake = true →
      ∃ t, exec .resetRelease s = .next t ∧ provesAgain s t) ∧
    (s.power = .inReset → s.pins.supplies = true → s.pins.vaon = true → s.log.flushing = none → s.pins.wake = false →
      exec .resetRelease s = .next { s with
        power := .on, mode := .dormant, pins := { s.pins with rstN := true, wakeWasLow := true }
        entryRecs := s.entryRecs ++ [(s.resetFrom.1, 0, s.resetFrom.2)] }) ∧
    (s.power = .inReset → s.log.flushing ≠ none →
      exec .resetRelease s = .next { s with pins := { s.pins with rstN := true } }) ∧
    (∃ t, exec (.supplyLoss true) s = .next t ∧ t.power = .off ∧ t.pins.vaon = false ∧ t.log.buffer = [] ∧
      (∀ o, o < 32 → outStill (t.out o) = true) ∧ t.latch = s.latch ∧ t.params = s.params) ∧
    (s.power = .on → s.mode ≠ .dormant → ∃ t, exec (.supplyLoss false) s = .next t ∧ t.power = .inReset ∧
      t.pins.supplies = false ∧ t.log.buffer = [] ∧ t.resetFrom = (modeCode s.mode, 3) ∧
      (∀ o, o < 32 → outStill (t.out o) = true)) ∧
    (s.power = .inReset → s.pins.rstN = true → s.pins.vaon = true → s.log.flushing = none → s.pins.wake = true →
      ∃ t, exec .suppliesRestored s = .next t ∧ provesAgain s t) ∧
    (∀ pos, s.power = .on → s.mode ≠ .dormant →
      (pos ≠ s.pins.pos → s.pins.posChanged = false → exec (.posStrapChange pos) s = .next
        (record { s with pins := { s.pins with posNow := pos, posChanged := true } } { code := 0xA108, sev := 1 })) ∧
      (pos = s.pins.pos ∨ s.pins.posChanged = true →
        exec (.posStrapChange pos) s = .next { s with pins := { s.pins with posNow := pos } }))

/-- Chapter 03: proving units and their report, the background tests, health records and the die temperature (R429). -/
def Obligations.ProvingEvents : Prop :=
  ∀ s : State,
    (∀ (u : Fin 21) (r : Fin 3) (details : List Nat) (us : Nat), s.power = .on → s.mode = .proving →
      s.proving.running = true → s.dueUnit = some (u : Nat) →
      ∃ t, exec (.provingUnitComplete u r details us) s = .next t ∧
        (s.pins.wake = false → t.mode = .dormant) ∧
        (s.pins.wake = true → ∀ v, (unitDone s u r details us).dueUnit = some v → t = unitDone s u r details us) ∧
        (s.pins.wake = true → (unitDone s u r details us).dueUnit = none → t = endProving (unitDone s u r details us))) ∧
    (∀ u : Fin 21, s.power = .on → s.mode = .shadow → s.slack.shed < 2 → s.proving.bgUnit = none →
      (u : Nat) = 2 + s.proving.bgDone → (u : Nat) ≤ 17 →
      exec (.bgSliceStart u) s = .next { s with proving := { s.proving with bgUnit := some u } }) ∧
    (∀ (u : Fin 21) (d : Nat), s.power = .on → s.mode = .shadow → s.proving.bgUnit = some (u : Nat) →
      exec (.bgSliceComplete u false 0 d) s = .next { s with
        proving := { s.proving with bgUnit := none, bgReload := some (u : Nat) } } ∧
      (s.proving.bgDone < 15 → exec (.bgSliceComplete u true 0 d) s = .next { s with
        proving := { s.proving with bgUnit := none, bgReload := some (u : Nat), bgDone := s.proving.bgDone + 1 } }) ∧
      (15 ≤ s.proving.bgDone → exec (.bgSliceComplete u true 0 d) s = .next (endCycle { s with
        proving := { s.proving with bgUnit := none, bgReload := some (u : Nat), bgDone := s.proving.bgDone + 1 } }))) ∧
    (s.power = .on → s.mode = .shadow → s.proving.bgOverdue = false →
      s.proving.bgCycleStart + s.parN 0xA002 0 * 57600 < s.opTime → exec .bgCycleOverdue s = .next
        (record { s with proving := { s.proving with bgOverdue := true } } { code := 0xA107, sev := 1 })) ∧
    (∀ (tj : Int) (v : Nat), s.working = true → exec (.healthPublish tj v) s = .next { s with proving := { s.proving with
      ownHealth := healthNow s tj v, healthSeq := (s.proving.healthSeq + 1) % 2 ^ 32, tj := tj, vcore := v } }) ∧
    (∀ (rec_ : Health) (twin : TwinId), s.working = true → s.twinLost = false → setNumber s = twin.set →
      exec (.healthRecordReceived rec_ twin) s = .next (let t := { s with pair := { s.pair with
          partnerHealth := some rec_, twin := some twin, setDiffers := false, lastSign := s.frame } }
        if (t.incharge && t.pair.hand != 0 && !partnerFit t) = true then partnerLostInHand t else t)) ∧
    (∀ (rec_ : Health) (twin : TwinId), s.working = true → s.twinLost = false → setNumber s ≠ twin.set →
      s.pair.setDiffers = false → exec (.healthRecordReceived rec_ twin) s = .next
        (let t := record { s with pair := { s.pair with
          partnerHealth := some rec_, twin := some twin, setDiffers := true, lastSign := s.frame } }
          { code := 0x6153, sev := 1, payload := le 4 (setNumber s) ++ le 4 twin.set }
        if (t.incharge && t.pair.hand != 0 && !partnerFit t) = true then partnerLostInHand t else t)) ∧
    (∀ tj : Int, s.power = .on → s.mode ≠ .dormant →
      (1200 < tj → s.proving.tjHigh = false → exec (.temperatureExcursion tj) s = .next
        (record { s with proving := { s.proving with tj := tj, tjHigh := true } }
          { code := 0xA109, sev := 1, payload := leI 2 tj })) ∧
      (tj ≤ 1200 → exec (.temperatureExcursion tj) s = .next
        { s with proving := { s.proving with tj := tj, tjHigh := false } }) ∧
      (1240 < tj → exec (.overtemperatureLockout tj) s = .next
        (raise { s with proving := { s.proving with tj := tj } } { code := 0xA10A, sev := 4, payload := leI 2 tj })))

/-! ### Time, feedback and loops -/

/-- R21, R26, R31 to R33, R302: the frame ends, slack is evaluated, the timebase is watched, operating time is counted. -/
def Obligations.TimeEvents : Prop :=
  ∀ s : State,
    (∀ work, Instr.wellFormed (.sampleFrameTick work) = true → s.power = .on → s.mode ≠ .dormant →
      ∃ t, exec (.sampleFrameTick work) s = .next t ∧ t.frame = (s.frame + 1) % 2 ^ 48 ∧
        t.opTime = (if t.frame % 2000 = 0 then min (s.opTime + 1) (2 ^ 40 - 1) else s.opTime) ∧
        t.slack.shed = s.slack.shedNext.getD s.slack.shed ∧ t.slack.shedNext = none) ∧
    (∀ work, s.power ≠ .on ∨ s.mode = .dormant → Instr.wellFormed (.sampleFrameTick work) = true →
      exec (.sampleFrameTick work) s = .next s) ∧
    (s.working = true → ∃ k, exec .shedEvaluation s = .next { s with slack := k } ∧ k.evalMin = none ∧
      k.shed = s.slack.shed ∧
      (∀ m, s.slack.evalMin = some m →
        (m < 1000 → k.shedNext = some 2) ∧
        (1000 ≤ m → m < 2000 → s.slack.shed ≤ 1 → k.shedNext = some 1) ∧
        (2000 ≤ m → s.slack.shed = 0 → k.shedNext = some 0) ∧
        (1500 ≤ m → m < 2000 → s.slack.shed = 2 → k.shedNext = some (if 31 ≤ s.slack.above15 then 1 else 2)) ∧
        (2500 ≤ m → s.slack.shed = 1 → k.shedNext = some (if 31 ≤ s.slack.above25 then 0 else 1)))) ∧
    (∀ phase : Int, s.power = .on → s.mode = .shadow →
      (phase = 0 ∨ s.pair.alignedIn = some s.epoch → exec (.epochMarkReceived phase) s = .next
        { s with pair := { s.pair with lastSign := s.frame } }) ∧
      (phase ≠ 0 → s.pair.alignedIn ≠ some s.epoch → exec (.epochMarkReceived phase) s = .next
        { s with pair := { s.pair with
          alignNext := if 0 < phase then 1 else -1, alignedIn := some s.epoch, lastSign := s.frame } })) ∧
    (s.working = true → s.slack.tbRun = 0 → exec .timebaseMarkMissing s = .next { s with
      slack := { s.slack with timebaseDelta := 120, timebasePeak := max s.slack.timebasePeak 120, tbRun := 1 } }) ∧
    (s.working = true → s.slack.tbRun = 1 → exec .timebaseMarkMissing s = .next (raise ({ s with
      slack := { s.slack with timebaseDelta := 120, timebasePeak := max s.slack.timebasePeak 120, tbRun := 2 } } : State).lowSideOpen
        { code := 0xA220, sev := 4, cls := 2 })) ∧
    (s.working = true → s.slack.tbRun = 2 → exec .timebaseMarkMissing s = .next { s with
      slack := { s.slack with timebaseDelta := 120, timebasePeak := max s.slack.timebasePeak 120 } }) ∧
    (s.power = .on → s.mode ≠ .dormant → exec .operatingTimeSave s = .next { s with opSaved := s.opTime }) ∧
    (s.working = true → exec .epochBoundary s = .next (settleUp
      (let t := modeNotice (endReactions (sparesAtEpoch (imagesBoundary s)))
       if t.incharge then activeBoundary t else dropHeld (if t.mode == .shadow then shadowBoundary t else t))))

/-- Chapter 04: encoder samples, reference marks, observers and SSI frames; chapter 05: the plausibility check. -/
def Obligations.FeedbackEvents : Prop :=
  ∀ s : State, s.working = true →
    (∀ xs, Instr.wellFormed (.encoderSample xs) = true → s.suspended 0x08 = false → exec (.encoderSample xs) s = .next
      (let now := sampleInstant s
       let t := forEach xs (fun s x =>
         let t := sampleChan s now x
         match t.setCarOfChan x.chan with
         | some c => ucmWatch t c .a
         | none => t) { s with fb := { s.fb with instant := some now } }
       if t.incharge && t.frame % 4 == 0 && now == tickEdge t.frame then { t with pair := { t.pair with fbSent := fbMirror t } }
       else t)) ∧
    (∀ (n : Fin 16) (q : Fin 4) (v : U32), s.suspended 0x08 = false → s.chanLost n = false →
      s.parN 0x1001 n ≠ 0 → s.parN 0x100A n = q → (s.enc n).lastMark = none →
      (s.parN 0x1009 n = 1 → exec (.referenceMark n ⟨q, v⟩) s = .next
        (s.modEnc n (fun e => { e with lastMark := some v, referenced := true }))) ∧
      (s.parN 0x1009 n = 2 → exec (.referenceMark n ⟨q, v⟩) s = .next
        ((s.modEnc n (fun e => { e with lastMark := some v, referenced := true })).modEnc n
          (fun e => { e with angle := 0 })))) ∧
    (∀ (n : Fin 16) (q : Fin 4) (v : U32), s.parN 0x100A n ≠ q → exec (.referenceMark n ⟨q, v⟩) s = .next s) ∧
    (∀ n : Fin 16, s.par 0x1001 n ≠ 0 → s.carOfChan n = none → s.suspended 0x08 = false → s.chanLost n = false →
      exec (.auxObserverSample n) s = .next
        (observe s n 8000 (s.par 0x100D n) (s.par 0x100E n) (4 * s.par 0x100F n) false false)) ∧
    (∀ (p : Fin 8) (w : U40) (pre mono : Bool) (latch : Nat), s.chanLost (16 + p) = false →
      ∃ t, exec (.ssiFrameReceived p w pre mono latch) s = .next t ∧ t = ssiFrame s p w.toNat pre mono latch ∧
        (s.carOfSsi p = none → s.setCarOfSsi p = none → (ssiJudge s p (w.toNat % 2 ^ s.parN 0x1201 p) pre mono).1 = true → tblWf (dft {}) s.fb.ssi = true →
          (t.ssi p).valid = true ∧ (t.ssi p).badRun = 0 ∧ (t.ssi p).frameNo = s.frame ∧ (t.ssi p).clockAbsent = false ∧
          (t.ssi p).pos = (ssiJudge s p (w.toNat % 2 ^ s.parN 0x1201 p) pre mono).2.2.2)) ∧
    (∀ p : Fin 8, s.incharge = false → s.partnerRole = 1 ∨ s.partnerRole = 2 → (s.ssi p).clockAbsent = false →
      exec (.ssiClockAbsent p) s = .next
        (raise (s.modSsi p (fun q => { q with clockAbsent := true })) { code := 0x1203, sev := 1, inst := p })) ∧
    (∀ c : Fin 8, (s.plaus c).anomaly = true → exec (.persistentAnomaly c) s = .next
      (raise s { code := 0x2302, sev := 2, inst := c, car := some (c : Nat) }))

/-- Chapter 05: samples of the loops, injection and capture time-outs. -/
def Obligations.LoopEvents : Prop :=
  ∀ s : State,
    (∀ l : Fin 64, s.loopRole l = 3 → s.hoistRuns = true →
      exec (.loopSample l) s = .next (settleUp (loopSample s l false))) ∧
    (∀ l : Fin 64, s.loopRole l ≠ 3 ∨ s.hoistRuns = false → exec (.loopSample l) s = .next s) ∧
    (∀ k : Fin 4, s.power = .on → s.mode ≠ .dormant → (s.inj k).busy = true → exec (.injectionTimeout k) s = .next
      (event (s.modInj k (fun _ => {})) 0x2121 (le 1 2 ++ le 1 k) (s.inj k).loop)) ∧
    (s.power = .on → s.mode ≠ .dormant → s.cap.timeoutMs ≠ 0 → s.cap.state = 1 ∨ s.cap.state = 2 →
      exec .captureTimeout s = .next (event (s.modCap (fun c => { c with state := 4 })) 0x2130 (le 1 4))) ∧
    (∀ c : Fin 8, s.working = true → ∃ t, exec (.hoistSample c) s = .next t ∧
      ((hoistSample s c).hoistRuns = true → t = settleUp (afterHoist (hoistSample s c) c (s.hoist c))) ∧
      ((hoistSample s c).hoistRuns = false → t = hoistSample s c))

/-! ### Hoists -/

/-- Chapter 06, the start of a trip (R110, R112, R185): admission, pre-torque, brakes, start time-out. -/
def Obligations.StartEvents : Prop :=
  ∀ (s : State) (c : Fin 8), s.hoistRuns = true →
    (exec (.tripAdmission c) s = .next (let t := budgetWatch (demands s)
      if ready t c && headOf t c && fits t c then admitStart t c else t)) ∧
    ((s.hoist c).phase = .settle → dwellBlocks s c = true →
      exec (.pretorqueSettleExpiry c) s = .next (s.modHoist c (fun h => { h with settled := true }))) ∧
    ((s.hoist c).phase = .settle → dwellBlocks s c = false → (s.hoist c).kind = .brakeTest → (s.hoist c).bt.brakes = 3 →
      exec (.pretorqueSettleExpiry c) s = .next (beginRun s c)) ∧
    ((s.hoist c).phase = .settle → dwellBlocks s c = false → ¬((s.hoist c).kind = .brakeTest ∧ (s.hoist c).bt.brakes = 3) →
      exec (.pretorqueSettleExpiry c) s = .next (s.modHoist c (fun h => { h with
        phase := .brakesLifting, dem := (h.dem ||| 0b0110) &&& ~~~ (heldBrakes h), settled := false }))) ∧
    ((s.hoist c).phase = .brakesLifting → exec (.brakesOpenConfirmed c) s = .next (beginRun s c)) ∧
    ((s.hoist c).phase = .waitReady ∨ (s.hoist c).phase = .settle ∨ (s.hoist c).phase = .brakesLifting →
      exec (.startTimeout c) s = .next
        (raise (abandonStart s c) { code := 0x3120, sev := 2, inst := c, car := some (c : Nat) })) ∧
    ((s.hoist c).dwellRunning = true → (s.hoist c).phase = .settle → (s.hoist c).settled = true →
      exec (.reversalDwellExpiry c) s = .next (liftBrakes (s.modHoist c (fun h => { h with dwellRunning := false })) c)) ∧
    ((s.hoist c).dwellRunning = true → (s.hoist c).settled = false →
      exec (.reversalDwellExpiry c) s = .next (s.modHoist c (fun h => { h with dwellRunning := false })))

/-- Chapter 06, the end of a trip (R115, R116), jogging (R118, R119) and the brake test (R120). -/
def Obligations.StopEvents : Prop :=
  ∀ (s : State) (c : Fin 8), s.hoistRuns = true →
    ((s.hoist c).phase = .brakesSetting ∨ (s.hoist c).phase = .emergency → exec (.brakesClosedConfirmed c) s = .next
      (let t := (s.modHoist c (fun h => { h with
          phase := if h.phase = .emergency then .idle else .torqueHold
          dwellRunning := if h.ran then h.prevDir != 0 else h.dwellRunning, admitFlag := false, jogStop := false
          kind := if h.waiting then h.kind else .none, stopClass := if h.stopBehind then h.stopClass else none })).modCarSaf c
            (fun k => { k with advReq := false, relReq := false })
       if (s.hoist c).stopBehind then goBehind t c else t)) ∧
    ((s.hoist c).phase ≠ .brakesSetting → (s.hoist c).phase ≠ .emergency → exec (.brakesClosedConfirmed c) s = .next s) ∧
    ((s.hoist c).phase = .torqueHold → exec (.torqueHoldExpiry c) s = .next (s.modHoist c (fun h => { h with
      phase := .torqueRamp, rampFrom := h.torque, pretorque := h.torque, rampFrame := s.frame }))) ∧
    ((s.hoist c).phase = .torqueRamp → exec (.torqueRampEnd c) s = .next (serveHere (torqueRampEnd s c) c)) ∧
    ((s.hoist c).phase ≠ .torqueRamp → exec (.torqueRampEnd c) s = .next s) ∧
    (stopped (s.hoist c) = true → (s.hoist c).waiting = false → (s.hoist c).learn.state ≠ 1 → (s.hoist c).bt.state ≠ 1 →
      s.landingHere c ≠ 0xFF → s.landingPos c (s.landingHere c) ≠ unset → s.atRest c = true →
      ((s.hoist c).relevels = s.parN 0x3010 c → exec (.relevelDelayExpiry c) s = .next
        (raise (s.modHoist c (fun h => { h with relevelPending := false, relevels := h.relevels + 1 }))
          { code := 0x3131, sev := 2, inst := c, car := some (c : Nat) })) ∧
      (s.parN 0x3010 c < (s.hoist c).relevels → exec (.relevelDelayExpiry c) s = .next s) ∧
      ((s.hoist c).relevels < s.parN 0x3010 c → s.doorsLocked c = true →
        ∃ t, exec (.relevelDelayExpiry c) s = .next t ∧ t =
          (let u := s.modHoist c (fun h => { h with relevelPending := true })
           let u := u.modHoist c (fun h => { h with relevels := h.relevels + 1 })
           requestMove u c .relevel (s.landingHere c) (u.landingPos c (s.landingHere c)) 0))) ∧
    ((s.hoist c).jogHost = true → (s.hoist c).jogDir ≠ 0 ∨ (s.hoist c).jogIgnored ≠ 0 → exec (.jogKeepaliveExpiry c) s = .next
      (endJog (s.modHoist c (fun h => { h with jogDir := 0, jogIgnored := 0 })) c)) ∧
    (s.standstill c = true → (s.hoist c).jogDir = 0 → (s.hoist c).jogIgnored = 0 →
      exec (.jogReversalHoldExpiry c) s = .next (s.modHoist c (fun h => { h with jogHold := false, jogLast := 0 }))) ∧
    ((s.hoist c).bt.state = 1 → (s.hoist c).kind = .brakeTest → (s.hoist c).phase = .running → (s.hoist c).bt.phase < 3 →
      exec (.brakeTestPhaseEnd c) s = .next (s.modHoist c (fun h => { h with
        bt := { h.bt with phase := h.bt.phase + 1, phaseFrame := s.frame } }))) ∧
    ((s.hoist c).bt.state = 1 → (s.hoist c).kind = .brakeTest → (s.hoist c).phase = .running → 3 ≤ (s.hoist c).bt.phase →
      nextTestDir (s.hoist c).bt = none → exec (.brakeTestPhaseEnd c) s = .next (endTest (event (s.modCarSaf c (fun k => { k with
        btPassA := if bitAt (s.hoist c).bt.brakes 0 then s.opTime else k.btPassA
        btPassB := if bitAt (s.hoist c).bt.brakes 1 then s.opTime else k.btPassB })) 0x3301 [] c) c 2))

/-! ### Doors -/

/-- Chapter 07: samples, locks, referencing, retries, nudging, dwell and the table's CRC (R136, R138, R139, R146 to R149). -/
def Obligations.DoorEvents : Prop :=
  ∀ (s : State) (d : Fin 16), s.doorsRun d = true → tblWf (dft {}) s.motion.doors = true →
    (s.suspended 0x0B = false → ∃ t, exec (.doorSample d) s = .next t ∧ t =
      (let u := doorSample s d
       let u := if (u.door d).state = .opened ∧ (s.door d).state ≠ .opened then doorsOpened u (doorCar d) else u
       settleUp (stopServed u (doorCar d)))) ∧
    ((s.door d).state = .awaitingLock → exec (.doorLockConfirmed d) s = .next (lockNow s d)) ∧
    ((s.door d).state = .unreferenced ∨ (s.door d).state = .referencing →
      exec (.doorLockConfirmed d) s = .next (referenceNow s d)) ∧
    ((s.door d).state = .opening ∨ (s.door d).state = .opened ∨ (s.door d).state = .closing ∨ (s.door d).state = .closedLocked →
      exec (.doorLockConfirmed d) s = .next s) ∧
    ((s.door d).state = .awaitingLock → exec (.doorLockTimeout d) s = .next (lockTimeout s d)) ∧
    ((s.door d).state ≠ .awaitingLock → exec (.doorLockTimeout d) s = .next s) ∧
    ((s.door d).state = .referencing → exec (.referencingTimeout d) s = .next (raise (decelerate s d .stop)
      { code := 0x4112, sev := 1, inst := d, car := some (doorCar d) })) ∧
    ((s.door d).openRetry = true → (s.door d).state = .stopped →
      exec (.openRetryExpiry d) s = .next (startMove s d .opening)) ∧
    ((s.door d).closeDemand = true → (s.door d).holdOpen = false → (s.door d).state ≠ .closedLocked →
      (s.door d).referenced = true → s.parN 0x4051 d ≠ 0 → operatorReason s d = 0 →
      exec (.nudgeTimerExpiry d) s = .next (doClose (s.modDoor d (fun x => { x with
        vLimit := (s.door d).vLimit, closeDemand := true, holdOpen := false, dwell := false })) d true)) ∧
    (s.parN 0x4051 d = 0 → exec (.nudgeTimerExpiry d) s = .next s) ∧
    ((s.door d).dwell = true → (s.door d).holdOpen = false → (s.door d).state = .opened → operatorReason s d = 0 →
      exec (.doorDwellExpiry d) s = .next (doClose (s.modDoor d (fun x => { x with
        vLimit := 0, closeDemand := true, holdOpen := false, dwell := false })) d false)) ∧
    ((s.door d).dwell = true → (s.door d).holdOpen = true → exec (.doorDwellExpiry d) s = .next s) ∧
    (∀ crc : U32, (s.door d).tableDown = true → crc ≠ s.slotCrc (s.parN 0x4004 d) → (s.door d).tableTries = 0 →
      exec (.tableCrcConfirm d crc) s = .next ((s.modDoor d (fun x => { x with tableCrc := crc })).modDoor d
        (fun x => { x with tableTries := 1 }))) ∧
    (∀ crc : U32, (s.door d).tableDown = true → crc ≠ s.slotCrc (s.parN 0x4004 d) → (s.door d).tableTries ≠ 0 →
      exec (.tableCrcConfirm d crc) s = .next (raise ((s.modDoor d (fun x => { x with tableCrc := crc })).modDoor d
        (fun x => { x with tableDown := false, tableOk := false, tableTries := 2, tableChange := false }))
        { code := 0x4140, sev := 1, inst := d, car := some (doorCar d) })) ∧
    (∀ crc : U32, (s.door d).tableDown = true → crc = s.slotCrc (s.parN 0x4004 d) → (s.door d).tableChange = false →
      exec (.tableCrcConfirm d crc) s = .next ((s.modDoor d (fun x => { x with tableCrc := crc })).modDoor d
        (fun x => { x with tableOk := true, tableDown := false, tableTries := 0, tableChange := false })))

/-! ### Dispatching -/

/-- Chapter 08: calls are evaluated, refined and taken from other pairs; group epochs (R165 to R175, R182). -/
def Obligations.DispatchEvents : Prop :=
  ∀ s : State,
    (∀ p k b rest, s.dispatches = true → s.disp.forwarded = (p, k, b) :: rest → exec .callEvaluation s =
      .next (decideForwarded { s with disp := { s.disp with forwarded := rest } } p k b)) ∧
    (∀ id rest k, s.dispatches = true → s.disp.forwarded = [] → s.disp.queue = id :: rest → s.call? id = some k →
      k.state = 0 → exec .callEvaluation s = .next (decideOwn { s with disp := { s.disp with queue := rest } } k)) ∧
    (s.dispatches = true → s.disp.forwarded = [] → s.disp.queue = [] → exec .callEvaluation s = .next s) ∧
    (s.dispatches = true → s.slack.shed = 0 → exec .refinePeriod s = .next (refine s)) ∧
    (1 ≤ s.slack.shed → exec .refinePeriod s = .next s) ∧
    (∀ pair : Fin 4, s.dispatches = true → (s.pairView pair).inReach = true → exec (.pairOutOfReach pair) s = .next
      (let back := (s.disp.away.filter (fun e => e.2 == (pair : Nat) && (s.call? e.1).any (fun k => k.state == 0))).map (·.1)
       let t := forEach back (fun t i => (t.cameBack i).enqueue i) s
       record (t.modPairView pair (fun v => { v with inReach := false, lost := true, summaries := [] }))
         { code := 0x5180, sev := 1, inst := (pair : Nat), payload := le 1 pair })) ∧
    (∀ pair : Fin 4, (s.pairView pair).inReach = false → exec (.pairOutOfReach pair) s = .next s) ∧
    (∀ (pair : Fin 4) hd p (c : Call) b, itemFrom s pair hd p → newItem s p 2 hd →
      exec (.forwardedCallReceived pair hd c b) s = .next (let t := noteItem s p 2 hd
        { t with disp := { t.disp with forwarded := t.disp.forwarded ++ [((pair : Nat), c, b)] } })) ∧
    (∀ (pair : Fin 4) hd p (c : Call) b, itemFrom s pair hd p → newItem s p 3 hd →
      exec (.decisionReceived pair hd c b) s = .next
        (legDue (decision (noteItem s p 3 hd) pair { c with cost := match b with | some b => b.cost | none => c.cost } b) c.id
          (match b with | some b => b.wait + b.ride | none => 0))) ∧
    (∀ (pair : Fin 4) hd p (i : TransferItem), itemFrom s pair hd p → newItem s p 4 hd → i.release = false →
      exec (.transferItemReceived pair hd i) s = .next (let t := noteItem s p 4 hd
        { t with disp := { t.disp with transfers := t.disp.transfers ++ [(i.call.id, (pair : Nat))] } })) ∧
    (∀ (pair : Fin 4) hd p (i : TransferItem), itemFrom s pair hd p → newItem s p 4 hd → i.release = true →
      exec (.transferItemReceived pair hd i) s = .next (takeReleased (noteItem s p 4 hd) pair i.call)) ∧
    (∀ (pair : Fin 4) hd p (c : Call), itemFrom s pair hd p → newItem s p 5 hd → s.liveCalls < 4096 →
      exec (.transferLegReceived pair hd c) s = .next
        (((noteItem s p 5 hd).putCall { foreign c with state := 0, car := 0xFF, born := s.frame }).enqueue c.id)) ∧
    (∀ (pair : Fin 4) hd p (c : Call), itemFrom s pair hd p → newItem s p 5 hd → 4096 ≤ s.liveCalls →
      exec (.transferLegReceived pair hd c) s = .next (sendItem (record (noteItem s p 5 hd)
        { code := 0x5101, sev := 1, inst := (pair : Nat) }) pair 3 { foreign c with state := 0, car := 0xFF } none)) ∧
    (∀ (pair : Fin 4) hd p (n : Nat), itemFrom s pair hd p → exec (.groupEpochReceived pair hd n) s = .next
      { s with disp := { s.disp with
        groupNext := some (n % 2 ^ 32), timekeeper := s.disp.timekeeper && decide (s.pairNo < pair) } }) ∧
    (∀ (pair : Fin 4) hd p (m : CarSummary), itemFrom s pair hd p → p < 64 → tget (dft 0) (s.lport p).sumBad m.car = 0 →
      exec (.carSummaryReceived pair hd m) s = .next
        (let t := s.modPairView pair (fun v => { v with
          inReach := true, lost := false, heard := (v.heard ++ [m.car]).eraseDups
          summaries := v.summaries.filter (fun k => k.car != m.car) ++ [m] })
         if (s.pairView pair).lost then event t 0x5181 (le 1 pair) else t)) ∧
    (∀ (pair : Fin 4) hd p (c : Call) b, itemFrom s pair hd p → ¬newItem s p 2 hd →
      exec (.forwardedCallReceived pair hd c b) s = .next s)

/-- R176, R177, R181, R182: regimes change when the car is ready, and group epochs bring shares and pairs into force. -/
def Obligations.RegimeAndGroupEvents : Prop :=
  ∀ s : State,
    (∀ c : Fin 8, s.power = .on → s.incharge = true → regimeWanted s c ≠ (s.dcar c).regime →
      regimeReady s c (regimeWanted s c) = true → exec (.regimeChange c) s = .next (changeRegime s c (regimeWanted s c))) ∧
    (∀ c : Fin 8, regimeWanted s c = (s.dcar c).regime → exec (.regimeChange c) s = .next s) ∧
    (∀ c : Fin 8, regimeDemanded s c .inspection = true → regimeWanted s c = .inspection) ∧
    (∀ (c : Fin 8), regimeDemanded s c .inspection = false → regimeDemanded s c .rescue = true → regimeWanted s c = .rescue) ∧
    (s.dispatches = true → lowerPair s = true → exec .groupEpochBoundary s = .next (budgetWatch (setShares (regroup
      (forEach (List.range 4)
        (fun t p => t.modPairView p (fun v => { v with member := if v.inReach then v.heard else v.member, heard := [] }))
        { s with disp := { s.disp with
          timekeeper := false, groupEpoch := s.disp.groupNext.getD s.disp.groupEpoch % 2 ^ 32, groupNext := none
          joined := true } }))))) ∧
    (s.dispatches = true → lowerPair s = false → s.disp.timekeeper = true → exec .groupEpochBoundary s =
      .next (budgetWatch (setShares (regroup (forEach (List.range 4)
        (fun t p => t.modPairView p (fun v => { v with member := if v.inReach then v.heard else v.member, heard := [] }))
        { s with disp := { s.disp with
          timekeeper := true, groupEpoch := (s.disp.groupNext.getD s.disp.groupEpoch + 1) % 2 ^ 32, groupNext := none
          joined := true } }))))) ∧
    (s.dispatches = true → lowerPair s = false → s.disp.timekeeper = false → exec .groupEpochBoundary s =
      .next (let t := event { s with disp := { s.disp with timekeeper := true } } 0x7160
        budgetWatch (setShares (regroup (forEach (List.range 4)
        (fun t p => t.modPairView p (fun v => { v with member := if v.inReach then v.heard else v.member, heard := [] }))
        { t with disp := { t.disp with
          groupEpoch := (t.disp.groupNext.getD t.disp.groupEpoch + 1) % 2 ^ 32, groupNext := none
          joined := true } })))))

/-! ### Safety functions and outputs -/

/-- R220 with R190: a finding of severity 3 on a car trips it: the cause is held, all four outputs of the car are off in both
islands, and no demand is left that would restart them; the trip stands whatever the car did. -/
def Obligations.CarTripTurnsOutputsOff : Prop :=
  ∀ (s : State) (c code elem : Nat), c < 8 → OutsCanonical s → tblWf (dft {}) s.saf.cars = true →
    let t := raise s { code := code, sev := 3, inst := elem, car := some c }
    (t.carSaf c).trip = true ∧ (code, elem) ∈ (t.carSaf c).causes ∧ ∀ k, k < 4 → outStill (t.out (outOf c k)) = true

/-- Chapters 09 and 10: inputs (R197, R199), brakes (R218 to R220), windows and the key switch (R225, R245, R246, R249, R398). -/
def Obligations.SafetyEvents : Prop :=
  ∀ s : State,
    (∀ (isl : Island) (i : Fin 96) (ch : Fin 2) (level : Bool), s.working = true → (safLevel (s.safIn i) isl ch) = level →
      exec (.safetyInputChange isl i ch (.accepted level)) s = .next s) ∧
    (∀ (isl : Island) (i : Fin 96) (ch : Fin 2) (level : Bool), s.working = true →
      exec (.safetyInputChange isl i ch (.accepted level)) s = .next (inputChange s isl i ch level) ∧
      (∀ t, exec (.safetyInputChange .b i ch (.rawEdge t)) s = .next (switchEdge s i .b t)) ∧
      (∀ t, exec (.safetyInputChange .a i ch (.rawEdge t)) s = .next
        (forEach cars8 (fun s c => learnRawEdge s c i ch t) (switchEdge s i .a t)))) ∧
    (∀ i : Fin 96, s.working = true → exec (.safetyInputChatterEnd i) s = .next (s.modSafIn i (fun q => { q with
      chatter := false, aa := { q.aa with times := [] }, ab := { q.ab with times := [] }
      ba := { q.ba with times := [] }, bb := { q.bb with times := [] } }))) ∧
    (∀ (c : Fin 8) (b : Fin 2), s.working = true → s.safEnabled c = true → (brakeSup (s.carSaf c) b).timed = true →
      ((brakeSup (s.carSaf c) b).energised = true → exec (.brakeOpenTimeout c b) s = .next
        (raise ((modBrake s c b (fun x => { x with timed := false })).dropCar c)
          { code := 0x6130, sev := 2, inst := outOf c (1 + b), car := some (c : Nat) })) ∧
      ((brakeSup (s.carSaf c) b).energised = false → exec (.brakeCloseTimeout c b) s = .next
        (tripFor (modBrake s c b (fun x => { x with timed := false })) c 0x6131 ((s.monitor c b).getD 0xFF) 0))) ∧
    (∀ c : Fin 8, s.working = true → s.safEnabled c = true → s.sfN 0x6034 c ≠ 0 → (s.carSaf c).btNagged = none →
      min (s.carSaf c).btPassA (s.carSaf c).btPassB + s.sfN 0x6034 c * 57600 < s.opTime →
      exec (.brakeTestOverdue c) s = .next (record (s.modCarSaf c (fun k => { k with btNagged := some s.opTime }))
        { code := 0x6133, sev := 1, inst := c, car := some (c : Nat) })) ∧
    (s.power = .on → s.mode ≠ .dormant →
      (s.saf.staged.isSome = true → exec .confirmWindowExpiry s = .next
        (event { s with saf := { s.saf with staged := none, confirmedAt := none, setExpired := true } } 0x6152)) ∧
      (s.saf.tripWin.state = 1 → exec .tripResetWindowExpiry s = .next
        { s with saf := { s.saf with tripWin := { s.saf.tripWin with state := 3 } } }) ∧
      (s.saf.lockWin.state = 1 → exec .lockoutResetWindowExpiry s = .next
        { s with saf := { s.saf with lockWin := { s.saf.lockWin with state := 3 } } }) ∧
      (s.saf.enrolWin.state = 1 → ∀ id key ch seq, s.img.enrolKey = some (id, key, ch, seq) →
        exec .enrolWindowExpiry s = .next (let t := event { s with
            saf := { s.saf with enrolWin := { s.saf.enrolWin with state := 3 } } } 0xB111
          notifyOn t ch 0 0x86 0 seq.toNat (enrolReply t stOk)))) ∧
    (∀ op : LrstOp, s.working = true →
      (lrstKind op = .void → exec (.lrstOperationEnd op) s = .next (voidOperation s)) ∧
      (lrstKind op = .reset → s.saf.tripWin.state ≠ 1 → s.saf.lockWin.state ≠ 1 →
        exec (.lrstOperationEnd op) s = .next s) ∧
      (lrstKind op = .reset → s.saf.tripWin.state = 1 → s.saf.lockWin.state ≠ 1 → s.mode = .service →
        ∃ t, exec (.lrstOperationEnd op) s = .next t ∧ ((resetTrips s).saf.lockWin.state ≠ 1 → t = resetTrips s)) ∧
      (lrstKind op = .confirm → s.saf.staged.isSome = true → s.saf.enrolWin.state ≠ 1 →
        exec (.lrstOperationEnd op) s = .next { s with saf := { s.saf with confirmedAt := some s.frame } })) ∧
    (∀ (n : Nat) (hsfb lsfb ld : U32), s.working = true → exec (.safetyCycle n hsfb lsfb ld) s = .next
      (forEach cars8 carCycle (inputsCycle (forEach (List.range 8)
        (fun s p => ssiGap (s.modSsi p (fun q => { q with cyclesSinceGood := q.cyclesSinceGood + 1 })) p)
        (forEach outs32 (fun s o => s.modOut o (fun x => sense x (hsfb.getLsbD o) (lsfb.getLsbD o) (ld.getLsbD o)))
          (timebase s n (11880 ≤ n && n ≤ 12120)))))))

/-- Chapter 10: confirmations, dark tests (R234 to R238), the release check (R240) and the veto (R242, R243). -/
def Obligations.OutputEvents : Prop :=
  ∀ (s : State) (o : Fin 32),
    (s.working = true → (s.out o).want = true → (s.out o).confirmed = false → exec (.outputConfirmTimeout o) s = .next
      (raise (s.dropCar (o / 4)) { code := 0x6223, sev := 2, inst := o, car := some (o / 4 : Nat) })) ∧
    (∀ side : Fin 2, s.power = .on → s.incharge = true → (s.out o).want = true → slotDue s o side = true →
      (mayTest s o side = true → exec (.darkTestStart o side) s = .next (s.modOut o (fun x => { x with
        hs := x.hs && (side : Nat) != 0, ls := x.ls && (side : Nat) == 0
        test := some { side := side, isRepeat := false, judged := none, pulsing := true, start := s.frame } }))) ∧
      (mayTest s o side = false → exec (.darkTestStart o side) s = .next
        (s.modOut o (fun x => { x with skipped := satN 16 (x.skipped + 1) })))) ∧
    (∀ side : Fin 2, slotDue s o side = false → exec (.darkTestStart o side) s = .next s) ∧
    (∀ side start, s.power = .on → s.incharge = true → (s.out o).repeatSide = some (side, start) → start ≤ s.frame →
      s.frame % 8 = 0 → mayTest s o side = true → exec (.darkTestRepeat o) s = .next (s.modOut o (fun x => { x with
        hs := x.hs && side != 0, ls := x.ls && side == 0
        test := some { side := side, isRepeat := true, judged := none, pulsing := true, start := s.frame }
        repeatSide := none }))) ∧
    (∀ (t : DarkTest) (hsfb lsfb : Bool), (s.out o).test = some t → t.judged = none →
      exec (.darkTestJudge o hsfb lsfb) s = .next (judgeTest (s.modOut o (fun x => { x with hsfb := hsfb, lsfb := lsfb })) o t
        (if t.side = 0 then !hsfb else lsfb))) ∧
    (∀ t : DarkTest, (s.out o).test = some t → t.pulsing = true → exec (.darkTestPulseEnd o) s = .next
      (s.modOut o (fun x => { x with hs := x.want, ls := x.want, test := some { t with pulsing := false } }))) ∧
    (∀ t : DarkTest, (s.out o).test = some t → t.pulsing = false →
      exec (.darkTestSettleEnd o true) s = .next (s.modOut o (fun x => { x with test := none })) ∧
      exec (.darkTestSettleEnd o false) s = .next (raise ((s.modOut o (fun x => { x with test := none })).dropCar (o / 4))
        { code := 0x6223, sev := 2, inst := o, car := some (o / 4 : Nat) })) ∧
    (s.pair.hand = 2 ∨ s.pair.yieldSent = true → s.pair.checking = false → exec .releaseCheckStart s = .next
      (let t := forEach outs32 (fun s o => s.modOut o (fun x => { x with hs := false, ls := false })) s
       { t with pair := { t.pair with checking := true } })) ∧
    (s.pair.checking = true → s.pair.yieldSent = false →
      exec (.releaseCheckEnd true) s = .next (drain (completeHand s)) ∧
      (∀ t, record s { code := 0x6224, sev := 1 } = t → t.pair.yieldSent = false →
        exec (.releaseCheckEnd false) s = .next (drain (resumeHand t 7)))) ∧
    (s.pair.checking = true → s.pair.yieldSent = true →
      exec (.releaseCheckEnd true) s = .next (drain (finishYield s))) ∧
    (Inv s → s.power = .on → s.mode ≠ .dormant → ∃ t, exec .vetoReceived s = .next t ∧ t.mode = .lockout ∧
      t.latch.isSet = true ∧ t.pins.vetoIn = true ∧ ∀ k, k < 32 → outStill (t.out k) = true) ∧
    (∀ f, s.power = .on → s.mode = .service ∨ s.mode = .shadow ∨ s.mode = .commission → (s.out o).denied = some f →
      f + 32 ≤ s.frame → (s.out o).hsfb = true → (s.out o).lsfb = false → exec (.vetoAssert o) s = .next
        (event { s with saf := { s.saf with vetoOut := true } } 0x6230 (le 1 (o : Nat)) o))

/-! ### The partner -/

/-- R253 to R257, R303: the lanes of the link to the partner, the commits and the resynchronisation. -/
def Obligations.TwinEvents : Prop :=
  ∀ s : State,
    (∀ lane : Fin 2, s.working = true → s.pair.lanes = 3 → exec (.twinLaneLost lane) s = .next (record
      { s with pair := { s.pair with lanes := 3 &&& ~~~ BitVec.ofNat 2 (2 ^ (lane : Nat)) } }
      { code := 0x7121, sev := 1, inst := lane })) ∧
    (∀ lane : Fin 2, s.working = true → s.pair.lanes = BitVec.ofNat 2 (2 ^ (lane : Nat)) →
      exec (.twinLaneLost lane) s = .next (drain (loseTwin { s with pair := { s.pair with lanes := 0 } }))) ∧
    (∀ lane : Fin 2, s.pair.lanes.getLsbD lane = false → exec (.twinLaneLost lane) s = .next s) ∧
    (∀ lane : Fin 2, s.working = true → s.pair.lanes ≠ 0 → exec (.twinLaneRestored lane) s = .next
      { s with pair := { s.pair with
        lanes := s.pair.lanes ||| BitVec.ofNat 2 (2 ^ (lane : Nat)), lastSign := s.frame } }) ∧
    (∀ lane : Fin 2, s.working = true → s.pair.lanes = 0 → s.pair.paired = true → s.pair.inStep = false →
      s.incharge = true → exec (.twinLaneRestored lane) s = .next { s with pair := { s.pair with
        lanes := BitVec.ofNat 2 (2 ^ (lane : Nat)), resyncing := true, lastSign := s.frame } }) ∧
    (s.power = .on → s.mode = .shadow → s.pair.lanes ≠ 0 → s.pair.awaiting = false →
      s.pair.inStep = true ∨ s.pair.resyncing = true →
      (∀ m, exec (.commitReceived true m) s = .next (commitVerified s m) ∧
        (commitVerified s m).pair.lastCommit = m.epoch ∧ (commitVerified s m).pair.retrying = false) ∧
      (∀ m, s.pair.retrying = false → exec (.commitReceived false m) s = .next { s with pair := { s.pair with
        retrying := true, commitsRetried := satN 32 (s.pair.commitsRetried + 1) } }) ∧
      (∀ m, s.pair.retrying = true → exec (.commitReceived false m) s = .next (leaveStep s))) ∧
    (∀ epoch us, s.power = .on → s.incharge = true → s.pair.inStep = true → s.pair.lanes ≠ 0 → epoch ≤ s.pair.sentEpoch →
      exec (.commitAckReceived epoch us) s = .next (drain (releaseUpTo { s with pair := { s.pair with
        lastCommit := epoch, commitsOk := satN 32 (s.pair.commitsOk + 1), acks := pushMax s.frame us s.pair.acks } } epoch))) ∧
    (s.working = true → s.pair.inStep = false → exec .commitMissing s = .next (drain s)) ∧
    (s.working = true → s.pair.inStep = true → exec .commitMissing s = .next (drain (releaseAll
      (let t := if s.mode = .shadow then ownFindings s else s
       record { t with pair := { t.pair with inStep := false, retrying := false, resyncing := t.pair.lanes != 0 } }
        { code := 0x7122, sev := 1 })))) ∧
    (∀ n, s.working = true → s.pair.lanes ≠ 0 → s.pair.inStep = false →
      (if s.mode = .shadow then s.pair.awaiting = true ∨ (s.pair.paired = true ∧ s.pair.resyncing = true)
        else s.incharge = true ∧ s.pair.resyncing = true) →
      exec (.resyncComplete n) s = .next (resynced s (n % 2 ^ 32))) ∧
    (∀ n, s.mode = .shadow → (resynced s n).pair.inStep = true ∧ (resynced s n).pair.resyncing = false ∧
      (resynced s n).pair.awaiting = false ∧
      (resynced s n).pair.resyncs = satN 32 (s.pair.resyncs + 1) ∧ (resynced s n).log.jumpNext = true ∧
      (resynced s n).log.nextSeq = (if seqFrom s.log.nextSeq n then n else s.log.nextSeq) ∧
      (s.pair.awaiting = true → (resynced s n).pair.paired = true ∧
        (resynced s n).pair.pairTag = s.partner.pairTag)) ∧
    (∀ f, s.power = .on → s.incharge = true → s.pair.inStep = true →
      exec (.partnerFindingReceived f) s = .next (admitRec s f 4 4)) ∧
    (∀ f, s.pair.inStep = false → exec (.partnerFindingReceived f) s = .next s)

/-- R258 to R262, R264: the croak a device sends and those it hears on the two lines. -/
def Obligations.CroakEvents : Prop :=
  ∀ s : State,
    (s.running = true → exec .croakSlot s = .next
      (sendCroak (forEach (List.range 9) (fun s n => s.modCroak n rollSlot) (startRule s)))) ∧
    (s.running = false → exec .croakSlot s = .next s) ∧
    (∀ t : State, t.ownRole = 0xFF → sendCroak t = { t with pair := { t.pair with lastFrame := 0 } }) ∧
    (∀ (line : Fin 2) (slot : Fin 9) frame, croakChecks frame = false → exec (.croakReceived line slot frame) s = .next s) ∧
    (∀ (line : Fin 2) (slot : Fin 9) frame, s.listening = true → croakChecks frame = true →
      (let t : State := { s with pair := { s.pair with crkGood := s.pair.crkGood ||| BitVec.ofNat 2 (2 ^ (line : Nat)) } }
       ((slot : Nat) = s.pins.pos.toNat → frame = s.pair.lastFrame → exec (.croakReceived line slot frame) s = .next
          (({ t with pair := { t.pair with backA := t.pair.backA || line == 0, backB := t.pair.backB || line == 1 } } : State).modCroak
            s.pins.pos.toNat (fun k => { k with
              heard := true, now := true, role := croakField frame 33 3, health := croakField frame 21 4 }))) ∧
       ((slot : Nat) = s.pins.pos.toNat → frame ≠ s.pair.lastFrame → s.pair.mute = false →
          exec (.croakReceived line slot frame) s = .next
            (raise { t with pair := { t.pair with mute := true } } { code := 0x7140, sev := 4 })) ∧
       ((slot : Nat) ≠ s.pins.pos.toNat → (s.croak slot).now = true →
          exec (.croakReceived line slot frame) s = .next t) ∧
       ((slot : Nat) ≠ s.pins.pos.toNat → (s.croak slot).now = false →
          exec (.croakReceived line slot frame) s = .next (drain (hearSlot t slot frame))))) ∧
    (∀ line : Fin 2, s.listening = true → s.pair.crkGood.getLsbD line = true → exec (.croakLineFault line) s = .next (record
      { s with pair := { s.pair with crkGood := s.pair.crkGood &&& ~~~ BitVec.ofNat 2 (2 ^ (line : Nat)) } }
      { code := 0x7141, sev := 1, inst := line })) ∧
    (∀ line : Fin 2, s.pair.crkGood.getLsbD line = false → exec (.croakLineFault line) s = .next s) ∧
    (∀ t, s.power = .on → s.incharge = true → record s { code := 0x7142, sev := 1 } = t → t.pair.lanes ≠ 0 →
      exec .ownCroakNotReadBack s = .next t) ∧
    (∀ t, s.power = .on → s.incharge = true → record s { code := 0x7142, sev := 1 } = t → t.pair.lanes = 0 →
      exec .ownCroakNotReadBack s = .next (lockoutBy t 0x7142 6 false)) ∧
    (s.working = true → s.partner.heard = true → s.pair.lanes ≠ 0 → exec .partnerSilent s = .next
      (record (s.modCroak s.partnerSlot (fun k => { k with heard := false })) { code := 0x7141, sev := 1 })) ∧
    (s.working = true → s.partner.heard = true → s.pair.lanes = 0 → exec .partnerSilent s = .next
      (drain (silentPartner (s.modCroak s.partnerSlot (fun k => { k with heard := false }))))) ∧
    (s.partner.heard = false → exec .partnerSilent s = .next s)

/-- R263, R265, R267, R271: a standby claims, asks the arbiters and takes over; one that loses the vote leaves. -/
def Obligations.TakeoverEvents : Prop :=
  ∀ s : State,
    (s.power = .on → s.mode = .shadow → s.pair.claiming = true → s.pair.arbRequest = false → s.pair.won = false →
      s.pair.claimLeft = 0 →
      (s.com 0x7001 0 = 0 ∨ s.partnerRole = 0 ∨ s.partnerRole = 3 → exec .claimPeriodsElapsed s = .next (serviceStart s)) ∧
      (s.com 0x7001 0 ≠ 0 → s.partnerRole ≠ 0 → s.partnerRole ≠ 3 → exec .claimPeriodsElapsed s = .next
        (settle { s with pair := { s.pair with claiming := false } }))) ∧
    (s.pair.claiming = false → exec .claimPeriodsElapsed s = .next s) ∧
    (s.power = .on → s.mode = .shadow → s.pair.settleWait = true → s.partner.heard = false →
      ∀ t, requestArb { s with pair := { s.pair with settleWait := false, claiming := true, claimLeft := 1 } } 1 = t →
        (t.pair.arbCounted = [] → exec .soloWaitExpiry s = .next (serviceStart t)) ∧
        (t.pair.arbCounted ≠ [] → exec .soloWaitExpiry s = .next t)) ∧
    (s.partner.heard = true → exec .soloWaitExpiry s = .next s) ∧
    (s.working = true → s.pair.arbRequest = true →
      (majority s = some true → exec .arbitrationDeadline s = .next (arbWon s)) ∧
      (majority s = some false → exec .arbitrationDeadline s = .next (arbLost s)) ∧
      (majority s = none → s.pair.arbTries = 0 → exec .arbitrationDeadline s = .next { s with pair := { s.pair with
        arbTries := 1, arbCounted := arbiters s, arbVotes := [] } }) ∧
      (majority s = none → s.pair.arbTries ≠ 0 → exec .arbitrationDeadline s = .next (arbOpen s))) ∧
    (s.pair.arbRequest = false → exec .arbitrationDeadline s = .next s) ∧
    (∀ n, s.power = .on → s.mode = .shadow → s.pair.awaiting = false → s.pair.lanes ≠ 0 →
      exec (.yieldReceived n) s = .next { s with pair := { s.pair with yieldHeard := some n, lastSign := s.frame } }) ∧
    (∀ n, s.pair.lanes = 0 → exec (.yieldReceived n) s = .next s) ∧
    (∀ n, s.power = .on → s.mode = .shadow → s.pair.awaiting = false → s.pair.yieldHeard = some n →
      exec .yieldTakeover s = .next (takeOver s 2 (satN 32 (s.usSince (4 * s.pair.lastCommit)))
        (s.follows && decide (s.epoch ≤ n + 8)) 0x7111 0)) ∧
    (s.pair.yieldHeard = none → exec .yieldTakeover s = .next s) ∧
    (s.power = .on → s.mode = .shadow → s.pair.won = true → exec .silentPartnerTakeover s = .next
      (takeOver s (if s.pair.arbWhy = 3 then 4 else 3) (satN 32 (s.usSince s.pair.lastSign))
        (s.follows && s.pair.cleanSilence && !s.pair.staleWin) 0x7112 1)) ∧
    (s.pair.won = false → exec .silentPartnerTakeover s = .next s)

/-! ### Memory, recorder, links and images -/

/-- R292 to R296: the scrub and the spares; R302 to R305, R308, R313: flushing, rate limits and cursors. -/
def Obligations.MemoryAndRecorderEvents : Prop :=
  ∀ s : State,
    (∀ (mram : Bool) (bank : Fin 26) (held : Region), s.working = true →
      exec (.scrubRead mram bank .clean held) s = .next (drain s) ∧
      exec (.scrubRead mram bank (.corrected false) held) s = .next (drain (raise (s.modMem (countFind mram (.corrected false)))
        { code := if mram then 0xA311 else 0xA301, sev := 0, cls := 1, inst := if mram then 0xFF else (bank : Nat) })) ∧
      exec (.scrubRead mram bank .transient held) s = .next (drain (raise (s.modMem (countFind mram .transient))
        { code := if mram then 0xA313 else 0xA303, sev := 0, cls := 1, inst := if mram then 0xFF else (bank : Nat) })) ∧
      exec (.scrubRead mram bank .lost held) s = .next
        (drain (loseWord (s.modMem (countFind mram .lost)) mram bank held)) ∧
      exec (.scrubRead false bank (.corrected true) held) s = .next (drain (stuckWord
        (raise (s.modMem (countFind false (.corrected true))) { code := 0xA302, sev := 1, cls := 2, inst := (bank : Nat) })
        bank))) ∧
    (∀ ms, s.working = true → ms ≤ 4000 → exec (.scrubPassComplete ms) s = .next ((s.latch' .nextPass none).modMem (fun m =>
      { m with scrubLast := ms, scrubMax := max m.scrubMax ms }))) ∧
    (∀ ms, s.working = true → 4000 < ms → ms < 65536 → exec (.scrubPassComplete ms) s = .next
      (record ((s.latch' .nextPass none).modMem (fun m => { m with scrubLast := ms, scrubMax := max m.scrubMax ms }))
        { code := 0xA321, sev := 1 })) ∧
    (∀ bank : Fin 26, s.working = true → s.mem.copying.contains (bank : Nat) = true → exec (.bankCopyComplete bank) s = .next
      (s.modMem (fun m => { m with
        copying := m.copying.filter (· != (bank : Nat)), takeover := m.takeover ++ [(bank : Nat)] }))) ∧
    (∀ bank : Fin 26, s.mem.copying.contains (bank : Nat) = false → exec (.bankCopyComplete bank) s = .next s) ∧
    (s.running = true → s.log.flushDue = true ∨ s.log.heldTrigger = true → s.flushable = true →
      (s.log.flushing = none → exec .flushStart s = .next { s with log := { s.log with
        flushing := some s.log.buffer.length, flushDue := false, heldTrigger := false, flushPfail := false } }) ∧
      (s.log.flushing ≠ none → exec .flushStart s = .next { s with log := { s.log with flushAgain := true } })) ∧
    (s.running = true → s.log.heldTrigger = true → s.flushable = false → exec .flushStart s = .next s) ∧
    (s.running = true → exec .flushTimer s = .next { s with log := { s.log with
      flushDue := s.log.flushDue || s.flushable, heldTrigger := s.log.heldTrigger || !s.flushable } }) ∧
    (∀ us n, s.log.flushing = some n → ∃ t, endFlush s us = warnLog (notKept t ((s.log.buffer.take n).drop (32767 - s.log.log.length))) ∧
      t.log.log = s.log.log ++ (s.log.buffer.take n).take (32767 - s.log.log.length) ∧
      t.log.buffer = s.log.buffer.drop n ∧
      t.log.flushing = (if s.log.pfailAgain then some (s.log.buffer.drop n).length else none) ∧ t.log.lastFlush = s.opTime ∧ t.opSaved = s.opTime) ∧
    (∀ us t, tryRelease (endFlush s us) = t → t.log.clearing = none → exec (.flushComplete us) s = .next t) ∧
    (∀ us h t, tryRelease (endFlush s us) = t → t.log.clearing = some h → t.log.flushing = none → t.running = true →
      exec (.flushComplete us) s = .next (drain (answer (clearLog t).1 h 0x75 true (clearLog t).2))) ∧
    (s.running = true → s.pins.pfailN = true → exec .pfailFall s = .next
      (beginFlush (event { s with pins := { s.pins with pfailN := false } } 0x9120) true)) ∧
    (s.running = true → s.pins.pfailN = false → s.pins.supplies = true → exec .pfailRise s = .next
      (event { s with pins := { s.pins with pfailN := true } } 0x9121)) ∧
    (s.running = false → exec .pfailFall s = .next { s with pins := { s.pins with pfailN := false } } ∧
      exec .pfailRise s = .next { s with pins := { s.pins with pfailN := true } }) ∧
    (∀ code : U16, s.running = true → ∃ t, exec (.rateTokenRefill code) s = .next t ∧
      (tblWf (dft {}) s.log.buckets = true → (tget (dft {}) t.log.buckets code.toNat).spent =
        (tget (dft {}) s.log.buckets code.toNat).spent - 1)) ∧
    (∀ c : Fin 8, s.running = true → exec (.cursorIdleClose c) s = .next (s.modCursor c (fun _ => {})))

/-- Chapters 14 and 15: cycles and replies (R322, R329, R330, R333, R334), the host channel (R336, R372), lost nodes
(R354) and stuck points (R352). -/
def Obligations.LinkEvents : Prop :=
  ∀ s : State,
    (∀ (port : Fin 64) bad heard, s.hears = true → s.cycleDue port = true → s.portUse port = 1 → s.ringHead port = port →
      s.lineUsable port = true → exec (.portCycleStart port bad heard) s = .next (nodeCycle s port port bad heard)) ∧
    (∀ (port : Fin 64) bad heard, s.hears = true → s.cycleDue port = true → s.portUse port = 1 → s.ringHead port ≠ port →
      s.lineUsable (s.ringHead port) = true → s.portUsable (s.ringHead port) = false →
      exec (.portCycleStart port bad heard) s = .next (nodeCycle s (s.ringHead port) port bad heard)) ∧
    (∀ (port : Fin 64) bad heard, s.hears = true → s.cycleDue port = true → s.portUse port = 2 → s.portUsable port = true →
      exec (.portCycleStart port bad heard) s = .next (ownMismatch (hostCycle s port) port bad)) ∧
    (∀ (port : Fin 64) bad heard, s.hears = true → s.cycleDue port = true → s.portUse port = 3 → s.driving = true →
      s.portUsable port = true → exec (.portCycleStart port bad heard) s = .next (ownMismatch (pairCycle s port) port bad)) ∧
    (∀ (port : Fin 64) bad heard, s.hears = false ∨ s.cycleDue port = false ∨ s.portUse port = 0 →
      exec (.portCycleStart port bad heard) s = .next s) ∧
    (∀ (f : NodeFrame) p, s.hears = true → s.ringHead f.port = p → s.portUse p = 1 → s.lineUsable p = true →
      (f.known = false → exec (.nodeReply f) s = .next
        (s.modPort p (fun q => { q with framesUnknown := satN 16 (q.framesUnknown + 1) }))) ∧
      (f.known = true → (s.lport p).map.contains f.addr.toNat = true → (s.node p f.addr.toNat).state = 0 →
        (s.node p f.addr.toNat).lastGood ≠ (s.lport p).counted → (s.node p f.addr.toNat).missed = false →
        f.good = true → f.primary = true ∨ f.secondary = true → lengthOk (s.node p f.addr.toNat) f = true →
        exec (.nodeReply f) s = .next (goodReply s f p f.addr.toNat)) ∧
      (f.known = true → (s.lport p).map.contains f.addr.toNat = false → exec (.nodeReply f) s = .next s) ∧
      (f.known = true → (s.lport p).map.contains f.addr.toNat = true → (s.node p f.addr.toNat).state = 0 →
        (s.node p f.addr.toNat).lastGood ≠ (s.lport p).counted → (s.node p f.addr.toNat).missed = false →
        f.good = false → exec (.nodeReply f) s = .next (badReply s p f.addr.toNat))) ∧
    (∀ (d : Discovery) p, s.hears = true → s.ringHead d.port = p → s.portUse p = 1 → s.lineUsable p = true →
      (s.lport p).polling = some d.addr.toNat → (s.lport p).map.contains d.addr.toNat = false →
      let t := s.modPort p (fun q => { q with polling := none })
      (d.good = true → exec (.discoveryReply d) s = .next (
        let u := t.modNode p d.addr.toNat (fun n => { n with discBad := 0 })
        match profileFail u p d with
        | some c => record u { code := 0x8161, sev := 1, inst := p, payload := le 1 d.addr.toNat ++ le 1 c }
        | none =>
          if scheduleOk (s.portClass p) (s.com 0x8003 p).toNat (s.com 0x8007 p).toNat (u.mapNodes p ++
              [{ replyWords := d.replyWords.toNat, recordWords := d.recordWords.toNat, msgWords := d.msgWords.toNat }]) then
            joinNode u p d
          else if (u.node p d.addr.toNat).refused then u
          else record ((u.modNode p d.addr.toNat (fun n => { n with refused := true })).modPort p
              (fun q => { q with budgetRefused := true }))
            { code := 0x8122, sev := 1, inst := p, payload := le 1 d.addr.toNat })) ∧
      (d.good = false → exec (.discoveryReply d) s = .next (
        let u := t.modNode p d.addr.toNat (fun n => { n with discBad := min 2 (n.discBad + 1) })
        if (s.node p d.addr.toNat).discBad = 1 then
          record u { code := 0x8123, sev := 1, inst := p, payload := le 1 d.addr.toNat } else u))) ∧
    (∀ (d : Discovery), (s.lport (s.ringHead d.port)).polling ≠ some d.addr.toNat →
      exec (.discoveryReply d) s = .next s) ∧
    (∀ (port : Fin 64) heard, s.hears = true → s.portUse port = 1 → s.ringState (s.ringHead port) = 1 →
      exec (.ringHeaderCheck port heard) s = .next (ringCheck s (s.ringHead port) heard)) ∧
    (∀ (port : Fin 64) heard, s.portUse port ≠ 1 → exec (.ringHeaderCheck port heard) s = .next s) ∧
    (∀ port : Fin 64, s.hears = true → s.portUse port = 1 → s.ringState (s.ringHead port) = 2 →
      exec (.ringProbe port) s = .next (s.modPort (s.ringHead port) (fun q => { q with probeDue := true }))) ∧
    (∀ (port : Fin 64) bytes, s.working = true → s.portUse port = 2 →
      (bytes.length < 12 ∨ rd bytes 0 1 ≠ 0xE7 → exec (.hostChannelFrame port bytes) s = .next
        { s with host := { s.host with linkUp := true } }) ∧
      (12 ≤ bytes.length → rd bytes 0 1 = 0xE7 → rd bytes 2 2 = bytes.length → exec (.hostChannelFrame port bytes) s =
        .next (takePacket { s with host := { s.host with linkUp := true } } .link bytes)) ∧
      (12 ≤ bytes.length → rd bytes 0 1 = 0xE7 → rd bytes 2 2 ≠ bytes.length → exec (.hostChannelFrame port bytes) s = .next
        (refuseAtOnce { s with host := { s.host with linkUp := true } } (hdrOf .link bytes) (rd bytes 4 1) stBadLength))) ∧
    (∀ port : Fin 64, s.hears = true → s.portUse port = 2 → s.host.linkUp = true → exec (.hostChannelDown port) s = .next
      (record { s with host := { s.host with linkUp := false } } { code := 0x8140, sev := 1, inst := (port : Nat) })) ∧
    (∀ port : Fin 64, s.host.linkUp = false → exec (.hostChannelDown port) s = .next s) ∧
    (∀ (port : Fin 64) (addr : U8) p, s.hears = true → s.ringHead port = p → s.portUse p = 1 →
      (s.node p addr.toNat).state = 0 → (s.lport p).map.contains addr.toNat = true →
      (s.node p addr.toNat).missed = true → 3 ≤ nodeMisses (s.lport p) (s.node p addr.toNat) →
      exec (.nodeLost port addr) s = .next (loseNode s p addr.toNat)) ∧
    (∀ (k : BitVec 20) e, s.pointEntry k.toNat 1 = some e → s.hears = true → s.maxActiveOf (k.toNat / 16384) e ≠ 0 →
      (s.point k.toNat).accepted = true → (s.point k.toNat).acceptedVal ≠ restOf e → (s.point k.toNat).stuck = false →
      bitAt e.pflags 1 = false → exec (.pointStuck k) s = .next (record (s.modPoint k.toNat (fun x => { x with stuck := true }))
        { code := 0x8162, sev := 1, inst := k.toNat / 16384, payload := le 4 k.toNat })) ∧
    (∀ k : BitVec 20, s.pointEntry k.toNat 1 = none → exec (.pointStuck k) s = .next s)

/-- Chapter 17: verification of a received image (R391), an idle session (R392), the TAP and the secrets (R402, R403). -/
def Obligations.ImageEvents : Prop :=
  ∀ s : State,
    (∀ type slot h, s.running = true → s.img.verifying = some (type, slot, h) → ∀ d, (s.imgSlot (slotKey type slot)).data = d →
      (verifyImage s type d = 0 → exec .imageVerifyComplete s = .next (notifyOn
        (event (({ s with img := { s.img with verifying := none } } : State).modImgSlot (slotKey type slot) (fun _ => slotOf d 3))
          0xB101 (le 1 type ++ le 1 slot ++ zeros 2 ++ le 4 (rd d 12 4)))
        h.chan 0 0x82 0 h.seq.toNat (endReply stOk 0 type slot (rd d 12 4) (sha256 (d.drop 160))))) ∧
      (verifyImage s type d ≠ 0 → exec .imageVerifyComplete s = .next (notifyOn
        (event (({ s with img := { s.img with verifying := none } } : State).modImgSlot (slotKey type slot) (fun _ => slotOf d 2))
          0xB102 (le 1 type ++ le 1 slot ++ le 1 (verifyImage s type d)))
        h.chan 0 0x82 0 h.seq.toNat
        (endReply stOk (verifyImage s type d) type slot (rd d 12 4) (sha256 (d.drop 160)))))) ∧
    (s.img.verifying = none → exec .imageVerifyComplete s = .next s) ∧
    (∀ type d, d.length = rd d 8 4 + 160 → rd d 0 4 = 0x494D4731 → rd d 4 1 = type → rd d 5 1 = 1 →
      zeroToken ((d.drop 6).take 2 ++ (d.drop 25).take 7 ++ (d.drop 40).take 24) = true → d.length ≤ imageMax type →
      type = 1 ∨ rd d 22 2 = 0 →
      ((d.drop 64).take 32 ≠ sha256 (d.drop 160) → verifyImage s type d = 2) ∧
      ((d.drop 64).take 32 = sha256 (d.drop 160) → rd d 24 1 + 1 = type → s.pubKey (rd d 24 1) ≠ [] →
        (ecdsaVerify (s.pubKey (rd d 24 1)) (sha256 (d.take 96)) ((d.drop 96).take 64) = false → verifyImage s type d = 4) ∧
        (ecdsaVerify (s.pubKey (rd d 24 1)) (sha256 (d.take 96)) ((d.drop 96).take 64) = true →
          (rd d 12 4 < s.floor type → verifyImage s type d = 5) ∧
          (s.floor type ≤ rd d 12 4 → rd d 32 8 ≠ 0 → rd d 32 8 ≠ Config.unitNumber.toNat → verifyImage s type d = 6) ∧
          (s.floor type ≤ rd d 12 4 → rd d 32 8 = 0 ∨ rd d 32 8 = Config.unitNumber.toNat → verifyImage s type d = 0)))) ∧
    (∀ k, s.running = true → s.img.session = some k → ∃ t, exec .imageSessionIdle s = .next t ∧ t.img.session = none ∧
      t = (let u := s.modImgSlot (slotKey k.type k.slot) (fun x => { x with state := 2 })
           { u with img := { u.img with session := none } })) ∧
    (s.img.session = none → exec .imageSessionIdle s = .next s) ∧
    (∀ code : BitVec 4, s.running = true →
      (code.toNat < 3 → exec (.tapInstructionUpdate code) s = .next (closeEnrol (clearSecrets (raise
        { s with img := { s.img with tap := code.toNat } } { code := 0xB130, sev := 4, payload := le 1 code.toNat })) 4)) ∧
      (3 ≤ code.toNat → exec (.tapInstructionUpdate code) s = .next { s with img := { s.img with tap := 15 } })) ∧
    (s.running = true → s.img.tap = 15 → s.img.keysLoaded = false → s.mem.secretsLost = false →
      exec .secretReload s = .next (event { s with
        img := { s.img with keysLoaded := true, auth := { s.img.authCopy with issued := s.img.auth.issued } }
        pair := { s.pair with
          paired := s.img.pairCopy.1, pairTag := s.img.pairCopy.2.1, partnerUnit := s.img.pairCopy.2.2 } } 0xB131)) ∧
    (s.running = true → s.img.tap = 15 → s.img.keysLoaded = false → s.mem.secretsLost = true →
      exec .secretReload s = .next (raise s { code := 0xA314, sev := 4, cls := 2 })) ∧
    (s.img.tap ≠ 15 ∨ s.img.keysLoaded = true → exec .secretReload s = .next s)

/-! ### A device without power -/

/-- The machine's rule of Tables 03.1 and 03.2, R370: out of power, in reset and DORMANT a device takes nothing in: only the
events of power, reset and the pins, the end of the last flush and the steps of a test of an output under way change
anything. -/
def Obligations.NothingHappensWithoutPower : Prop :=
  ∀ (s : State) (c : Instr), s.power ≠ .on ∨ s.mode = .dormant → occurs c = true → stirsAsleep c = false →
    exec c s = .next s
end

