-- ==== Sys2Proof/Laws/Tbl.lean ====
section
/-! SUPPORT. Sparse tables: what a table reads after a write, and that writing keeps the canonical form. -/

namespace Sys2Proof.Machine

variable {α : Type} [DecidableEq α] {d : Nat → α} {t : Tbl α} {k j n : Nat} {v : α}

theorem tblAbove_mono (h : tblAbove d n t = true) (hj : j ≤ n) : tblAbove d j t = true := by
  cases t with
  | nil => rfl
  | cons e t =>
    simp only [tblAbove, Bool.and_eq_true, decide_eq_true_eq] at h ⊢
    exact ⟨⟨by omega, h.1.2⟩, h.2⟩

theorem tblWf_of_above (h : tblAbove d n t = true) : tblWf d t = true := by
  cases t with
  | nil => rfl
  | cons e t =>
    simp only [tblAbove, tblWf, Bool.and_eq_true, decide_eq_true_eq] at h ⊢
    exact ⟨h.1.2, h.2⟩

/-- A key at or below the bound reads its default. -/
theorem tget_above (h : tblAbove d n t = true) (hk : k ≤ n) : tget d t k = d k := by
  induction t generalizing n with
  | nil => rfl
  | cons e t ih =>
    simp only [tblAbove, Bool.and_eq_true, decide_eq_true_eq] at h
    rw [tget, if_neg (by omega)]
    exact ih h.2 (by omega)

theorem tset_above (h : tblAbove d n t = true) (hk : n < k) : tblAbove d n (tset d t k v) = true := by
  induction t generalizing n with
  | nil =>
    unfold tset; split
    · rfl
    · simp [tblAbove, *]
  | cons e t ih =>
    have h0 := h
    simp only [tblAbove, Bool.and_eq_true, decide_eq_true_eq] at h
    unfold tset
    split
    · split
      · exact h0
      · simp [tblAbove, *]
    · split
      · subst k
        split
        · exact tblAbove_mono h.2 (by omega)
        · simp [tblAbove, *]
      · simp only [tblAbove, Bool.and_eq_true, decide_eq_true_eq]
        exact ⟨h.1, ih h.2 (by omega)⟩

/-- Writing keeps the canonical form. -/
theorem tset_wf (h : tblWf d t = true) : tblWf d (tset d t k v) = true := by
  cases t with
  | nil =>
    unfold tset; split
    · rfl
    · simp [tblWf, tblAbove, *]
  | cons e t =>
    have h0 := h
    simp only [tblWf, Bool.and_eq_true, decide_eq_true_eq] at h
    unfold tset
    split
    · split
      · exact h0
      · simp [tblWf, tblAbove, *]
    · split
      · subst k
        split
        · exact tblWf_of_above h.2
        · simp [tblWf, *]
      · simp only [tblWf, Bool.and_eq_true, decide_eq_true_eq]
        exact ⟨h.1, tset_above h.2 (by omega)⟩

/-- Another key reads as before, whatever the table. -/
theorem tget_tset_ne (h : j ≠ k) : tget d (tset d t k v) j = tget d t j := by
  induction t with
  | nil =>
    unfold tset; split
    · rfl
    · simp [tget, Ne.symm h]
  | cons e t ih =>
    unfold tset
    split
    · split
      · rfl
      · rw [tget, if_neg (Ne.symm h)]
    · split
      · rename_i h2; subst k
        split <;> simp [tget, Ne.symm h]
      · simp only [tget, ih]

/-- The key written reads the value written. -/
theorem tget_tset_self (h : tblWf d t = true) : tget d (tset d t k v) k = v := by
  induction t with
  | nil =>
    unfold tset; split
    · simp [tget, *]
    · simp [tget]
  | cons e t ih =>
    simp only [tblWf, Bool.and_eq_true, decide_eq_true_eq] at h
    unfold tset
    split
    · split
      · rename_i h1 h2
        rw [h2, tget, if_neg (by omega)]
        exact tget_above h.2 (by omega)
      · simp [tget]
    · split
      · rename_i h1 h2; subst k
        split
        · rename_i h3; rw [h3]; exact tget_above h.2 (by omega)
        · simp [tget]
      · rename_i h1 h2
        rw [tget, if_neg h2]
        exact ih (tblWf_of_above h.2)

theorem tmod_wf {f : α → α} (h : tblWf d t = true) : tblWf d (tmod d t k f) = true := tset_wf h

theorem tget_tmod_self {f : α → α} (h : tblWf d t = true) : tget d (tmod d t k f) k = f (tget d t k) :=
  tget_tset_self h

theorem tget_tmod_ne {f : α → α} (h : j ≠ k) : tget d (tmod d t k f) j = tget d t j := tget_tset_ne h

end Sys2Proof.Machine
end

