-- ==== Sys2Proof/Laws/Kept.lean ====
section
/-! SUPPORT. What a step keeps, carried through the operations: the predicate `Kept` (the invariant of the device, and
every part outside a set of parts), how it passes through record updates, choices and loops. A set of parts is a number
whose bit `i` stands for the part numbered `i`. -/

namespace Sys2Proof.Machine

/-! ### Sets of parts -/

/-- `d` in place of `x` where `b` holds. -/
def pick {α : Type} (b : Bool) (d x : α) : α := bif b then d else x

/-- The state with the parts of `m` wiped. -/
def wipe (m : Nat) (s : State) : State :=
  { s with
    power := pick (m.testBit 0) .off s.power
    mode := pick (m.testBit 1) .dormant s.mode
    pins := pick (m.testBit 2) {} s.pins
    latch := pick (m.testBit 3) {} s.latch
    frame := pick (m.testBit 4) 0 s.frame
    opTime := pick (m.testBit 5) 0 s.opTime
    opSaved := pick (m.testBit 5) 0 s.opSaved
    powerCycle := pick (m.testBit 5) 0 s.powerCycle
    transition := pick (m.testBit 6) none s.transition
    resetFrom := pick (m.testBit 7) (0, 0) s.resetFrom
    entryRecs := pick (m.testBit 7) [] s.entryRecs
    slack := pick (m.testBit 8) {} s.slack
    fb := pick (m.testBit 9) {} s.fb
    loops := pick (m.testBit 10) {} s.loops
    motion := {
      hoist := pick (m.testBit 11) [] s.motion.hoist, doors := pick (m.testBit 12) [] s.motion.doors,
      slots := pick (m.testBit 13) [] s.motion.slots }
    disp := pick (m.testBit 14) {} s.disp
    saf := { pick (m.testBit 17) {} s.saf with
        outs := pick (m.testBit 15) [] s.saf.outs, set := pick (m.testBit 16) none s.saf.set }
    links := {
      ports := pick (m.testBit 18) [] s.links.ports, nodes := pick (m.testBit 19) [] s.links.nodes,
      points := pick (m.testBit 20) [] s.links.points }
    frozen := pick (m.testBit 21) {} s.frozen
    pair := { pick (m.testBit 23) {} s.pair with
        paired := pick (m.testBit 22) false s.pair.paired, pairTag := pick (m.testBit 22) 0 s.pair.pairTag,
        partnerUnit := pick (m.testBit 22) 0 s.pair.partnerUnit,
        findingsOut := pick (m.testBit 26) [] s.pair.findingsOut }
    proving := { pick (m.testBit 24) {} s.proving with
        countT := pick (m.testBit 26) 0 s.proving.countT, countL := pick (m.testBit 26) 0 s.proving.countL,
        shadowMaxSev := pick (m.testBit 26) 0 s.proving.shadowMaxSev }
    log := { pick (m.testBit 26) {} s.log with log := pick (m.testBit 25) [] s.log.log }
    fm := { pick (m.testBit 27) {} s.fm with
        maxSev := pick (m.testBit 26) 0 s.fm.maxSev, nestMax := pick (m.testBit 26) 0 s.fm.nestMax,
        countT := pick (m.testBit 26) [] s.fm.countT, countL := pick (m.testBit 26) [] s.fm.countL,
        lastCode := pick (m.testBit 26) 0 s.fm.lastCode, lastSev := pick (m.testBit 26) 0 s.fm.lastSev,
        lastTime := pick (m.testBit 26) 0 s.fm.lastTime, roleL := pick (m.testBit 26) false s.fm.roleL }
    mem := pick (m.testBit 28) {} s.mem
    params := { pick (m.testBit 31) {} s.params with
        committed := pick (m.testBit 29) {} s.params.committed,
        learned := pick (m.testBit 30) [] s.params.learned }
    host := pick (m.testBit 32) {} s.host
    img := { pick (m.testBit 35) {} s.img with
        slots := pick (m.testBit 34) [] s.img.slots, floors := pick (m.testBit 34) [] s.img.floors,
        policyNext := pick (m.testBit 34) none s.img.policyNext, keys := pick (m.testBit 33) [] s.img.keys,
        keysLoaded := pick (m.testBit 33) true s.img.keysLoaded }
    free := pick (m.testBit 36) 0 s.free }

/-- The parts of `n` are among those of `m`. -/
def Fits (n m : Nat) : Prop := n ||| m = m

theorem Fits.of {k n m : Nat} (h : Fits n m) (e : k ||| n = n) : Fits k m := by
  unfold Fits at *; rw [← h, ← Nat.or_assoc, e]

theorem Fits.bit {n m : Nat} (h : Fits n m) {i : Nat} (e : n.testBit i = true) : m.testBit i = true := by
  rw [← h, Nat.testBit_or, e]; rfl

theorem pick_pick {α : Type} {a b : Bool} {d x : α} (h : a = true → b = true) : pick b d (pick a d x) = pick b d x := by
  cases a <;> cases b <;> simp_all [pick]

theorem wipe_wipe {n m : Nat} (h : Fits n m) (s : State) : wipe m (wipe n s) = wipe m s := by
  have h' := fun i => h.bit (i := i)
  have hb : ∀ i, ∃ a b, n.testBit i = a ∧ m.testBit i = b ∧ (a = true → b = true) := fun i => ⟨_, _, rfl, rfl, h' i⟩
  unfold wipe
  simp only [pick_pick (h' _), State.mk.injEq, true_and, and_true]
  refine ⟨?_, ?_, ?_, ?_, ?_, ?_, ?_⟩
  · obtain ⟨a, b, e1, e2, e3⟩ := hb 17; rw [e1, e2]; cases a <;> cases b <;> simp_all [pick]
  · obtain ⟨a, b, e1, e2, e3⟩ := hb 23; rw [e1, e2]; cases a <;> cases b <;> simp_all [pick]
  · obtain ⟨a, b, e1, e2, e3⟩ := hb 24; rw [e1, e2]; cases a <;> cases b <;> simp_all [pick]
  · obtain ⟨a, b, e1, e2, e3⟩ := hb 26; rw [e1, e2]; cases a <;> cases b <;> simp_all [pick]
  · obtain ⟨a, b, e1, e2, e3⟩ := hb 27; rw [e1, e2]; cases a <;> cases b <;> simp_all [pick]
  · obtain ⟨a, b, e1, e2, e3⟩ := hb 31; rw [e1, e2]; cases a <;> cases b <;> simp_all [pick]
  · obtain ⟨a, b, e1, e2, e3⟩ := hb 35; rw [e1, e2]; cases a <;> cases b <;> simp_all [pick]

theorem wipe_mono {n m : Nat} (h : Fits n m) {s t : State} (e : wipe n t = wipe n s) : wipe m t = wipe m s := by
  rw [← wipe_wipe h t, ← wipe_wipe h s, e]

/-- Parts outside `m` are the same in states that agree with `m` wiped. -/
theorem same_of_wipe {m : Nat} {s t : State} (e : wipe m t = wipe m s) (p : Part) (hp : m.testBit p.ctorIdx = false) :
    p.same s t := by
  cases p
  all_goals simp only [Part.ctorIdx] at hp
  · have h := congrArg (fun x : State => x.power) e
    simp only [wipe, pick, hp, cond_false] at h; exact h
  · have h := congrArg (fun x : State => x.mode) e
    simp only [wipe, pick, hp, cond_false] at h; exact h
  · have h := congrArg (fun x : State => x.pins) e
    simp only [wipe, pick, hp, cond_false] at h; exact h
  · have h := congrArg (fun x : State => x.latch) e
    simp only [wipe, pick, hp, cond_false] at h; exact h
  · have h := congrArg (fun x : State => x.frame) e
    simp only [wipe, pick, hp, cond_false] at h; exact h
  · have h := congrArg (fun x : State => ((x.opTime), (x.opSaved), (x.powerCycle))) e
    simp only [wipe, pick, hp, cond_false, Prod.mk.injEq] at h; exact h
  · have h := congrArg (fun x : State => x.transition) e
    simp only [wipe, pick, hp, cond_false] at h; exact h
  · have h := congrArg (fun x : State => ((x.resetFrom), (x.entryRecs))) e
    simp only [wipe, pick, hp, cond_false, Prod.mk.injEq] at h; exact h
  · have h := congrArg (fun x : State => x.slack) e
    simp only [wipe, pick, hp, cond_false] at h; exact h
  · have h := congrArg (fun x : State => x.fb) e
    simp only [wipe, pick, hp, cond_false] at h; exact h
  · have h := congrArg (fun x : State => x.loops) e
    simp only [wipe, pick, hp, cond_false] at h; exact h
  · have h := congrArg (fun x : State => x.motion.hoist) e
    simp only [wipe, pick, hp, cond_false] at h; exact h
  · have h := congrArg (fun x : State => x.motion.doors) e
    simp only [wipe, pick, hp, cond_false] at h; exact h
  · have h := congrArg (fun x : State => x.motion.slots) e
    simp only [wipe, pick, hp, cond_false] at h; exact h
  · have h := congrArg (fun x : State => x.disp) e
    simp only [wipe, pick, hp, cond_false] at h; exact h
  · have h := congrArg (fun x : State => x.saf.outs) e
    simp only [wipe, pick, hp, cond_false] at h; exact h
  · have h := congrArg (fun x : State => x.saf.set) e
    simp only [wipe, pick, hp, cond_false] at h; exact h
  · have h := congrArg (fun x : State => ({ x.saf with outs := t.saf.outs, set := t.saf.set } : Saf)) e
    simp only [wipe, pick, hp, cond_false] at h; exact h
  · have h := congrArg (fun x : State => x.links.ports) e
    simp only [wipe, pick, hp, cond_false] at h; exact h
  · have h := congrArg (fun x : State => x.links.nodes) e
    simp only [wipe, pick, hp, cond_false] at h; exact h
  · have h := congrArg (fun x : State => x.links.points) e
    simp only [wipe, pick, hp, cond_false] at h; exact h
  · have h := congrArg (fun x : State => x.frozen) e
    simp only [wipe, pick, hp, cond_false] at h; exact h
  · have h := congrArg (fun x : State => ((x.pair.paired), (x.pair.pairTag), (x.pair.partnerUnit))) e
    simp only [wipe, pick, hp, cond_false, Prod.mk.injEq] at h; exact h
  · have h := congrArg (fun x : State => ({ x.pair with
      paired := t.pair.paired, pairTag := t.pair.pairTag, partnerUnit := t.pair.partnerUnit,
      findingsOut := t.pair.findingsOut } : PairSt)) e
    simp only [wipe, pick, hp, cond_false] at h; exact h
  · have h := congrArg (fun x : State => ({ x.proving with
      countT := t.proving.countT, countL := t.proving.countL,
      shadowMaxSev := t.proving.shadowMaxSev } : Proving)) e
    simp only [wipe, pick, hp, cond_false] at h; exact h
  · have h := congrArg (fun x : State => x.log.log) e
    simp only [wipe, pick, hp, cond_false] at h; exact h
  · have h := congrArg (fun x : State => ((({ x.log with log := t.log.log } : Rec)),
        (x.pair.findingsOut), (x.fm.maxSev), (x.fm.nestMax), (x.fm.countT), (x.fm.countL), (x.fm.lastCode),
        (x.fm.lastSev), (x.fm.lastTime), (x.fm.roleL), (x.proving.shadowMaxSev), (x.proving.countT),
        (x.proving.countL))) e
    simp only [wipe, pick, hp, cond_false, Prod.mk.injEq] at h; exact h
  · have h := congrArg (fun x : State => ({ x.fm with
      maxSev := t.fm.maxSev, nestMax := t.fm.nestMax, countT := t.fm.countT, countL := t.fm.countL,
      lastCode := t.fm.lastCode, lastSev := t.fm.lastSev, lastTime := t.fm.lastTime, roleL := t.fm.roleL } : Fm)) e
    simp only [wipe, pick, hp, cond_false] at h; exact h
  · have h := congrArg (fun x : State => x.mem) e
    simp only [wipe, pick, hp, cond_false] at h; exact h
  · have h := congrArg (fun x : State => x.params.committed) e
    simp only [wipe, pick, hp, cond_false] at h; exact h
  · have h := congrArg (fun x : State => x.params.learned) e
    simp only [wipe, pick, hp, cond_false] at h; exact h
  · have h := congrArg (fun x : State => ({ x.params with
      committed := t.params.committed, learned := t.params.learned } : ParamSt)) e
    simp only [wipe, pick, hp, cond_false] at h; exact h
  · have h := congrArg (fun x : State => x.host) e
    simp only [wipe, pick, hp, cond_false] at h; exact h
  · have h := congrArg (fun x : State => ((x.img.keys), (x.img.keysLoaded))) e
    simp only [wipe, pick, hp, cond_false, Prod.mk.injEq] at h; exact h
  · have h := congrArg (fun x : State => ((x.img.slots), (x.img.floors), (x.img.policyNext))) e
    simp only [wipe, pick, hp, cond_false, Prod.mk.injEq] at h; exact h
  · have h := congrArg (fun x : State => ({ x.img with
      slots := t.img.slots, floors := t.img.floors, policyNext := t.img.policyNext, keys := t.img.keys,
      keysLoaded := t.img.keysLoaded } : Img)) e
    simp only [wipe, pick, hp, cond_false] at h; exact h
  · have h := congrArg (fun x : State => x.free) e
    simp only [wipe, pick, hp, cond_false] at h; exact h

/-! ### The predicate -/

/-- No output toggles or is demanded. -/
def outsStill (t : Tbl Out) : Prop := ∀ o, o < 32 → outStill (tget (dft {}) t o) = true

variable {F N : Nat} {b : Bool} {o s t : State}

/-- Every part outside `F` is as in `o`. -/
def Off (F : Nat) (o s : State) : Prop := wipe F s = wipe F o

theorem Off.upd (h : Off F o s) (hF : Fits N F) (hw : wipe N t = wipe N s) : Off F o t := (wipe_mono hF hw).trans h

/-- Every part outside `F` is as in `o`, and where `b` holds, so does the invariant of the device. -/
def Kept (F : Nat) (b : Bool) (o s : State) : Prop :=
  Off F o s ∧ (b = true → ((s.power = .on ∧ (s.mode = .service ∨ s.mode = .commission)) ∨ outsStill s.saf.outs)
    ∧ (s.host.port.waiting.length ≤ 16 ∧ s.host.link.waiting.length ≤ 16 ∧ s.log.buffer.length ≤ 1024)
    ∧ tblWf (dft {}) s.saf.outs = true)

/-- What the invariant reads. -/
def view (s : State) : Power × Mode × Tbl Out × List (U16 × U32) × List (U16 × U32) × List Record :=
  (s.power, s.mode, s.saf.outs, s.host.port.waiting, s.host.link.waiting, s.log.buffer)

theorem Kept.inv (h : Kept F true o s) : Inv s := h.2 rfl

theorem Kept.of_inv (h : Inv s) : Kept F true s s := ⟨rfl, fun _ => h⟩

theorem Kept.self : Kept F false s s := ⟨rfl, fun h => nomatch h⟩

theorem Kept.same (h : Kept F b o s) (p : Part) (hp : F.testBit p.ctorIdx = false) : p.same o s := same_of_wipe h.1 p hp

theorem Kept.pend (h : Kept F b o s) : s.pending = o.pending := by
  have e : (wipe F s).pending = (wipe F o).pending := congrArg State.pending h.1
  exact e

/-- An update of parts in `N` that leaves all that the invariant reads. -/
theorem Kept.upd (h : Kept F b o s) (hF : Fits N F) (hv : view t = view s) (hw : wipe N t = wipe N s) : Kept F b o t := by
  refine ⟨h.1.upd hF hw, fun hb => ?_⟩
  simp only [view, Prod.mk.injEq] at hv
  obtain ⟨e1, e2, e3, e4, e5, e6⟩ := hv
  rw [e1, e2, e3, e4, e5, e6]
  exact h.2 hb

/-- An update, given as a function, of any state. -/
theorem Kept.app (h : Kept F b o s) {f : State → State} (hF : Fits N F)
    (hf : ∀ x, view (f x) = view x ∧ wipe N (f x) = wipe N x) : Kept F b o (f s) := h.upd hF (hf s).1 (hf s).2

/-- The state that an update starts from, found from its queue, may be taken as any state. -/
theorem Kept.gen (_ : t.pending = s.pending) (h : Kept F b o s) (hy : ∀ y, s = y → Kept F b o y → Kept F b o t) :
    Kept F b o t := hy s rfl h

theorem kept_ite {c : Prop} [Decidable c] {x y : State} (hx : Kept F b o x) (hy : Kept F b o y) :
    Kept F b o (if c then x else y) := by split <;> assumption

theorem kept_ite_fst {α : Type} {c : Prop} [Decidable c] {x y : State × α} (hx : Kept F b o x.1) (hy : Kept F b o y.1) :
    Kept F b o (if c then x else y).1 := by split <;> assumption

/-- A fact on the way. -/
theorem cut {P Q : Prop} (hp : P) (h : P → Q) : Q := h hp

theorem kept_fst {α : Type} {x : State × α} {p : α} (e : x = (t, p)) (h : Kept F b o x.1) : Kept F b o t := by
  rw [e] at h; exact h

theorem forEach_kept {α : Type} {l : List α} {f : State → α → State} (h : Kept F b o s)
    (hf : ∀ s a, Kept F b o s → Kept F b o (f s a)) : Kept F b o (forEach l f s) := by
  induction l generalizing s with
  | nil => exact h
  | cons a l ih => exact ih (hf s a h)

theorem foldl_kept {α : Type} {l : List α} {f : State → α → State} (h : Kept F b o s)
    (hf : ∀ s a, Kept F b o s → Kept F b o (f s a)) : Kept F b o (l.foldl f s) := forEach_kept h hf

theorem foldl_fst_kept {α β : Type} {l : List α} {f : State × β → α → State × β} {x : State × β} (h : Kept F b o x.1)
    (hf : ∀ x a, Kept F b o x.1 → Kept F b o (f x a).1) : Kept F b o (l.foldl f x).1 := by
  induction l generalizing x with
  | nil => exact h
  | cons a l ih => exact ih (hf x a h)

theorem forEach_inv {α : Type} {P : State → Prop} {l : List α} {f : State → α → State} (h : P s)
    (hf : ∀ s a, P s → P (f s a)) : P (forEach l f s) := by
  induction l generalizing s with
  | nil => exact h
  | cons a l ih => exact ih (hf s a h)

/-- An outcome whose next state is kept. -/
def KeptO (F : Nat) (b : Bool) (o : State) (x : Host.Outcome State Fault Refusal) : Prop := ∀ t, x = .next t → Kept F b o t

theorem keptO_next (h : Kept F b o t) : KeptO F b o (.next t) := fun _ e => by cases e; exact h

theorem keptO_fault {r : Fault} : KeptO F b o (.fault r) := fun _ e => by cases e

theorem keptO_ite {c : Prop} [Decidable c] {x y : Host.Outcome State Fault Refusal} (hx : KeptO F b o x)
    (hy : KeptO F b o y) : KeptO F b o (if c then x else y) := by split <;> assumption

/-! ### Outputs -/

/-- An output changes; one that was still stays still. -/
theorem modOut_kept (h : Kept F b o s) {n : Nat} {f : Out → Out} (hf : ∀ x, outStill x = true → outStill (f x) = true)
    (hF : Fits 32768 F) : Kept F b o (s.modOut n f) := by
  refine ⟨h.1.upd hF rfl, fun hb => ?_⟩
  obtain ⟨hs, hq, hw⟩ := h.2 hb
  refine ⟨hs.imp id fun h1 j hj => ?_, hq, tmod_wf hw⟩
  show outStill (tget _ (tmod _ _ n f) j) = true
  by_cases e : j = n
  · subst e; rw [tget_tmod_self hw]; exact hf _ (h1 j hj)
  · rw [tget_tmod_ne e]; exact h1 j hj

/-- An output changes in a device that may drive it. -/
theorem modOut_live (h : Kept F b o s) {n : Nat} {f : Out → Out} (hp : s.power = .on)
    (hm : s.mode = .service ∨ s.mode = .commission) (hF : Fits 32768 F) : Kept F b o (s.modOut n f) := by
  refine ⟨h.1.upd hF rfl, fun hb => ?_⟩
  obtain ⟨-, hq, hw⟩ := h.2 hb
  exact ⟨.inl ⟨hp, hm⟩, hq, tmod_wf hw⟩

/-- Where gates may not toggle, they are still. -/
theorem Kept.still (h : Kept F b o s) (hl : s.power ≠ .on ∨ (s.mode ≠ .service ∧ s.mode ≠ .commission)) (hb : b = true) :
    outsStill s.saf.outs := by
  rcases (h.2 hb).1 with ⟨h1, h2⟩ | h1
  · rcases hl with hl | ⟨hl1, hl2⟩
    · exact absurd h1 hl
    · rcases h2 with h2 | h2
      · exact absurd h2 hl1
      · exact absurd h2 hl2
  · exact h1

/-- With every gate static the device may be in any mode and without power. -/
theorem Kept.any_mode (h : Kept F b o s) (hF : Fits N F) (hs : b = true → outsStill s.saf.outs)
    (h1 : wipe N t = wipe N s) (h4 : t.saf.outs = s.saf.outs) (h5 : t.host.port.waiting = s.host.port.waiting)
    (h6 : t.host.link.waiting = s.host.link.waiting) (h7 : t.log.buffer = s.log.buffer) : Kept F b o t := by
  refine ⟨h.1.upd hF h1, fun hb => ?_⟩
  rw [h4, h5, h6, h7]
  exact ⟨.inr (hs hb), (h.2 hb).2⟩

/-! ### Records -/

/-- A record enters a buffer with space for it. -/
theorem pushRec_kept (h : Kept F b o s) {f : Finding} {n e m u : Nat} {x : Bool} (hl : s.log.buffer.length < 1024)
    (hF : Fits 67108864 F) : Kept F b o (pushRec s f n e m u x) := by
  refine ⟨h.1.upd hF rfl, fun hb => ?_⟩
  obtain ⟨hs, ⟨h1, h2, -⟩, hw⟩ := h.2 hb
  refine ⟨hs, ⟨h1, h2, ?_⟩, hw⟩
  simp only [pushRec, enterRec, List.length_append, List.length_singleton]; omega

/-! ### The frame of a command -/

/-- The number that stands for a list of parts. -/
def partsMask : List Part → Nat
  | [] => 0
  | p :: l => 2 ^ p.ctorIdx ||| partsMask l

theorem ctorIdx_inj {p q : Part} (h : p.ctorIdx = q.ctorIdx) : p = q := by
  cases p <;> cases q <;> first | rfl | exact absurd h (by decide)

theorem partsMask_bit {l : List Part} {p : Part} (h : p ∉ l) : (partsMask l).testBit p.ctorIdx = false := by
  induction l with
  | nil => exact Nat.zero_testBit _
  | cons q l ih =>
    simp only [List.mem_cons, not_or] at h
    rw [partsMask, Nat.testBit_or, ih h.2, Bool.or_false, Nat.testBit_two_pow, decide_eq_false]
    exact fun e => h.1 (ctorIdx_inj e.symm)

/-- A command that keeps every part outside a list leaves each such part the same. -/
theorem KeptO.frame {l : List Part} {x : Host.Outcome State Fault Refusal} (h : KeptO (partsMask l) false s x)
    (e : x = .next t) {p : Part} (hp : p ∉ l) : p.same s t := (h t e).same p (partsMask_bit hp)

end Sys2Proof.Machine
end

