-- ==== Sys2Proof/Laws/KeptCore.lean ====
section
/-! SUPPORT. What the operations of these units keep (`Kept`): findings and the recorder, what every request passes through, the slack ledger. -/

namespace Sys2Proof.Machine

variable {F N : Nat} {b : Bool} {o s t : State}

/-! ### Ops -/

theorem State.modEnc_kept (h : Kept F b o s) {a2 a3} (hF : Fits 512 F) :
    Kept F b o (State.modEnc s a2 a3) :=
  h.upd hF rfl rfl

theorem State.modSsi_kept (h : Kept F b o s) {a2 a3} (hF : Fits 512 F) :
    Kept F b o (State.modSsi s a2 a3) :=
  h.upd hF rfl rfl

theorem State.modCarFb_kept (h : Kept F b o s) {a2 a3} (hF : Fits 512 F) :
    Kept F b o (State.modCarFb s a2 a3) :=
  h.upd hF rfl rfl

theorem State.modLoop_kept (h : Kept F b o s) {a2 a3} (hF : Fits 1024 F) :
    Kept F b o (State.modLoop s a2 a3) :=
  h.upd hF rfl rfl

theorem State.modInj_kept (h : Kept F b o s) {a2 a3} (hF : Fits 1024 F) :
    Kept F b o (State.modInj s a2 a3) :=
  h.upd hF rfl rfl

theorem State.modCap_kept (h : Kept F b o s) {a2} (hF : Fits 1024 F) :
    Kept F b o (State.modCap s a2) :=
  h.upd hF rfl rfl

theorem State.modPlaus_kept (h : Kept F b o s) {a2 a3} (hF : Fits 1024 F) :
    Kept F b o (State.modPlaus s a2 a3) :=
  h.upd hF rfl rfl

theorem State.modHoist_kept (h : Kept F b o s) {a2 a3} (hF : Fits 2048 F) :
    Kept F b o (State.modHoist s a2 a3) :=
  h.upd hF rfl rfl

theorem State.modDoor_kept (h : Kept F b o s) {a2 a3} (hF : Fits 4096 F) :
    Kept F b o (State.modDoor s a2 a3) :=
  h.upd hF rfl rfl

theorem State.modDoorSlot_kept (h : Kept F b o s) {a2 a3} (hF : Fits 8192 F) :
    Kept F b o (State.modDoorSlot s a2 a3) :=
  h.upd hF rfl rfl

theorem State.modDcar_kept (h : Kept F b o s) {a2 a3} (hF : Fits 16384 F) :
    Kept F b o (State.modDcar s a2 a3) :=
  h.upd hF rfl rfl

theorem State.modDomain_kept (h : Kept F b o s) {a2 a3} (hF : Fits 16384 F) :
    Kept F b o (State.modDomain s a2 a3) :=
  h.upd hF rfl rfl

theorem State.modPairView_kept (h : Kept F b o s) {a2 a3} (hF : Fits 16384 F) :
    Kept F b o (State.modPairView s a2 a3) :=
  h.upd hF rfl rfl

theorem State.modCarSaf_kept (h : Kept F b o s) {a2 a3} (hF : Fits 131072 F) :
    Kept F b o (State.modCarSaf s a2 a3) :=
  h.upd hF rfl rfl

theorem State.modSafIn_kept (h : Kept F b o s) {a2 a3} (hF : Fits 131072 F) :
    Kept F b o (State.modSafIn s a2 a3) :=
  h.upd hF rfl rfl

theorem State.modPort_kept (h : Kept F b o s) {a2 a3} (hF : Fits 262144 F) :
    Kept F b o (State.modPort s a2 a3) :=
  h.upd hF rfl rfl

theorem State.modNode_kept (h : Kept F b o s) {a2 a3 a4} (hF : Fits 524288 F) :
    Kept F b o (State.modNode s a2 a3 a4) :=
  h.upd hF rfl rfl

theorem State.modPoint_kept (h : Kept F b o s) {a2 a3} (hF : Fits 1048576 F) :
    Kept F b o (State.modPoint s a2 a3) :=
  h.upd hF rfl rfl

theorem State.modCroak_kept (h : Kept F b o s) {a2 a3} (hF : Fits 8388608 F) :
    Kept F b o (State.modCroak s a2 a3) :=
  h.upd hF rfl rfl

theorem State.modUnit_kept (h : Kept F b o s) {a2 a3} (hF : Fits 16777216 F) :
    Kept F b o (State.modUnit s a2 a3) :=
  h.upd hF rfl rfl

theorem State.modSlackC_kept (h : Kept F b o s) {a2 a3} (hF : Fits 256 F) :
    Kept F b o (State.modSlackC s a2 a3) :=
  h.upd hF rfl rfl

theorem State.modCursor_kept (h : Kept F b o s) {a2 a3} (hF : Fits 67108864 F) :
    Kept F b o (State.modCursor s a2 a3) :=
  h.upd hF rfl rfl

theorem State.modImgSlot_kept (h : Kept F b o s) {a2 a3} (hF : Fits 17179869184 F) :
    Kept F b o (State.modImgSlot s a2 a3) :=
  h.upd hF rfl rfl

theorem State.latch'_kept (h : Kept F b o s) {a2 a3} (hF : Fits 2147483648 F) :
    Kept F b o (State.latch' s a2 a3) :=
  h.upd hF rfl rfl

theorem abandonSlice_kept (h : Kept F b o s) (hF : Fits 16777216 F) : Kept F b o (abandonSlice s) := by
  unfold abandonSlice
  repeat' first
    | exact hF.of rfl
    | with_reducible assumption
    | split
    | (apply Kept.gen; dsimp -zeta only; on_goal 2 => (intro y e hy; rw [e]; exact hy.upd hF rfl rfl))

/-! ### Gates -/

theorem outStop_still {n : Nat} {x : Out} : outStill (outStop n x) = true := rfl

theorem State.outOff_kept (h : Kept F b o s) {n : Nat} (hF : Fits 32768 F) : Kept F b o (s.outOff n) :=
  modOut_kept h (fun _ _ => outStop_still) hF

theorem State.carOff_kept (h : Kept F b o s) {a2} (hF : Fits 32768 F) : Kept F b o (State.carOff s a2) := by
  unfold State.carOff
  repeat' first
    | exact hF.of rfl
    | with_reducible assumption
    | with_reducible apply State.outOff_kept
    | (with_reducible apply forEach_kept; on_goal 2 => intros)

/-- Outputs de-energised one after the other: the table stays canonical. -/
theorem outsOff_wf {l : List Nat} (hw : tblWf (dft {}) s.saf.outs = true) :
    tblWf (dft {}) (forEach l (fun s o => s.outOff o) s).saf.outs = true := by
  induction l generalizing s with
  | nil => exact hw
  | cons a l ih => exact ih (s := s.outOff a) (tmod_wf hw)

/-- Outputs de-energised one after the other are still, and the others stay so. -/
theorem outsOff_still {l : List Nat} (hw : tblWf (dft {}) s.saf.outs = true) {j : Nat}
    (hj : outStill (s.out j) = true ∨ j ∈ l) : outStill ((forEach l (fun s o => s.outOff o) s).out j) = true := by
  induction l generalizing s with
  | nil => exact hj.resolve_right (by simp)
  | cons a l ih =>
    refine ih (s := s.outOff a) (tmod_wf hw) ?_
    have e0 : (s.outOff a).out j = tget (dft {}) (tmod (dft {}) s.saf.outs a (outStop s.frame)) j := rfl
    by_cases e : j = a
    · subst e; left; rw [e0, tget_tmod_self hw]; rfl
    · rw [e0, tget_tmod_ne e]
      exact hj.imp id fun h => (List.mem_cons.1 h).resolve_left e

theorem outsOff_rest {l : List Nat} :
    ∃ t, forEach l (fun s o => s.outOff o) s = { s with saf := { s.saf with outs := t } } := by
  induction l generalizing s with
  | nil => exact ⟨s.saf.outs, rfl⟩
  | cons a l ih => exact (ih (s := s.outOff a)).imp fun t e => e

theorem State.allOff_still (hw : tblWf (dft {}) s.saf.outs = true) : outsStill s.allOff.saf.outs := by
  intro j hj
  have h := outsOff_still (l := outs32) hw (.inr (List.mem_range.2 hj))
  unfold State.allOff
  exact h

/-- Every gate static: the device may be in any mode. -/
theorem State.allOff_any (h1 : Off F o s) (h2 : b = true → QueuesBounded s ∧ OutsCanonical s)
    (hF : Fits 32768 F) : Kept F b o s.allOff := by
  obtain ⟨t, e⟩ := outsOff_rest (s := s) (l := outs32)
  refine ⟨by rw [State.allOff, e]; exact h1.upd hF rfl, fun hb => ⟨.inr (State.allOff_still (h2 hb).2), ?_, ?_⟩⟩
  · rw [State.allOff, e]; exact (h2 hb).1
  · have h := outsOff_wf (l := outs32) (h2 hb).2
    unfold State.allOff
    exact h

theorem State.allOff_kept (h : Kept F b o s) (hF : Fits 32768 F) : Kept F b o s.allOff :=
  State.allOff_any h.1 (fun hb => (h.2 hb).2) hF

theorem State.lowSideOpen_kept (h : Kept F b o s) (hF : Fits 32768 F) : Kept F b o (State.lowSideOpen s) := by
  unfold State.lowSideOpen
  repeat' first
    | exact hF.of rfl
    | with_reducible assumption
    | (with_reducible refine modOut_kept ?_ (fun x hx => ?_) ?_; on_goal 2 => (simp_all [outStill]; done))
    | (with_reducible apply forEach_kept; on_goal 2 => intros)

/-! ### Faults -/

theorem admitNow_kept (h : Kept F b o s) {f : Finding} {e m : Nat} (hl : s.log.buffer.length < 1024)
    (hF : Fits 67108864 F) : Kept F b o (admitNow s f e m) := by
  unfold admitNow
  refine pushRec_kept ?_ ?_ (hF.of rfl)
  · exact h.upd hF rfl rfl
  · dsimp only; exact hl

theorem countFinding_kept (h : Kept F b o s) {a2} (hF : Fits 67108864 F) :
    Kept F b o (countFinding s a2) :=
  h.upd hF rfl rfl

theorem pushOverflow_kept (h : Kept F b o s) (hl : s.log.buffer.length < 1024) (hF : Fits 67108864 F) :
    Kept F b o (pushOverflow s) := by
  unfold pushOverflow
  split
  · exact h
  · exact admitNow_kept (countFinding_kept (s := { s with log := { s.log with discarded := 0, gapNext := true } })
      (h.upd hF rfl rfl) (hF.of rfl)) hl (hF.of rfl)

theorem discardRec_kept (h : Kept F b o s) (hF : Fits 67108864 F) : Kept F b o (discardRec s) := h.upd hF rfl rfl

theorem admitRec_kept (h : Kept F b o s) {f : Finding} {e m : Nat} (hF : Fits 67108864 F) :
    Kept F b o (admitRec s f e m) := by
  unfold admitRec
  split; · exact h
  dsimp only
  split; · exact h.upd hF rfl rfl
  split; · exact discardRec_kept h (hF.of rfl)
  have h1 := pushOverflow_kept h (by omega) (hF.of rfl)
  split
  · exact discardRec_kept h1 (hF.of rfl)
  · exact admitNow_kept h1 (by omega) (hF.of rfl)

theorem ownFindings_kept (h : Kept F b o s) (hF : Fits 75497472 F) : Kept F b o (ownFindings s) := by
  unfold ownFindings
  repeat' first
    | exact hF.of rfl
    | with_reducible assumption
    | with_reducible apply admitRec_kept
    | with_reducible apply kept_ite
    | with_reducible apply kept_ite_fst
    | (with_reducible apply forEach_kept; on_goal 2 => intros)
    | (extract_lets x; refine cut (P := Kept F b o x) ?_ fun hx => ?_
       (on_goal 2 => clear_value x); (on_goal 1 => subst x))
    | (extract_lets x; refine cut (P := Kept F b o x.1) ?_ fun hx => ?_
       (on_goal 2 => clear_value x); (on_goal 1 => subst x))
    | (extract_lets x; subst x)
    | (with_reducible apply foldl_kept; on_goal 2 => intros)
    | (with_reducible apply foldl_fst_kept; on_goal 2 => intros)
    | split
    | (with_reducible refine kept_fst ‹_ = (_, _)› ?_)
    | (apply Kept.gen; dsimp -zeta only; on_goal 2 => (intro y e hy; rw [e]; exact hy.upd hF rfl rfl))

theorem record_kept (h : Kept F b o s) {a2} (hF : Fits 67108864 F) : Kept F b o (record s a2) := by
  unfold record
  repeat' first
    | exact hF.of rfl
    | with_reducible assumption
    | with_reducible apply countFinding_kept
    | with_reducible apply admitRec_kept
    | with_reducible apply kept_ite
    | (apply Kept.gen; dsimp -zeta only; on_goal 2 => (intro y e hy; rw [e]; exact hy.upd hF rfl rfl))

theorem event_kept (h : Kept F b o s) {a2 a3 a4} (hF : Fits 67108864 F) : Kept F b o (event s a2 a3 a4) := by
  unfold event
  repeat' first
    | exact hF.of rfl
    | with_reducible assumption
    | with_reducible apply record_kept

theorem endInj_kept (h : Kept F b o s) {a2 a3} (hF : Fits 67109888 F) : Kept F b o (endInj s a2 a3) := by
  unfold endInj
  repeat' first
    | exact hF.of rfl
    | with_reducible assumption
    | with_reducible apply event_kept
    | with_reducible apply State.modInj_kept
    | with_reducible apply kept_ite

theorem endInjOn_kept (h : Kept F b o s) {a2 a3} (hF : Fits 67109888 F) : Kept F b o (endInjOn s a2 a3) := by
  unfold endInjOn
  repeat' first
    | exact hF.of rfl
    | with_reducible assumption
    | with_reducible apply endInj_kept
    | with_reducible apply kept_ite
    | (with_reducible apply forEach_kept; on_goal 2 => intros)

theorem fullBuckets_kept (h : Kept F b o s) (hF : Fits 67108864 F) : Kept F b o (fullBuckets s) := h.upd hF rfl rfl

/-- Only a device whose gates may toggle in the new mode keeps them as they are. -/
theorem setMode_kept (h : Kept F b o s) {m old : Mode} {t : Option Pending} (hF : Fits 75662402 F) :
    Kept F b o (if m == .service || m == .commission
      then (if old == .proving then fullBuckets { s with mode := m, transition := t } else { s with mode := m, transition := t })
      else State.allOff
        (if old == .proving then fullBuckets { s with mode := m, transition := t } else { s with mode := m, transition := t })) := by
  have h1 : Off F o (if old == .proving then fullBuckets { s with mode := m, transition := t }
      else { s with mode := m, transition := t }) := by
    split
    · exact h.1.upd hF rfl
    · exact h.1.upd hF rfl
  have h2 : b = true → QueuesBounded (if old == .proving then fullBuckets { s with mode := m, transition := t }
      else { s with mode := m, transition := t }) ∧ OutsCanonical (if old == .proving
      then fullBuckets { s with mode := m, transition := t } else { s with mode := m, transition := t }) := by
    split
    · exact fun hb => (h.2 hb).2
    · exact fun hb => (h.2 hb).2
  split
  · rename_i hm
    refine ⟨h1, fun hb => ⟨?_, h2 hb⟩⟩
    have h3 := (h.2 hb).1
    split
    · exact h3.imp (fun hp => ⟨hp.1, by simpa [fullBuckets] using hm⟩) id
    · exact h3.imp (fun hp => ⟨hp.1, by simpa using hm⟩) id
  · exact State.allOff_any h1 h2 (hF.of rfl)

theorem changeMode_kept (h : Kept F b o s) {m c k} (hF : Fits 75662402 F) : Kept F b o (changeMode s m c k) := by
  unfold changeMode
  extract_lets old s0 s1 s2 s3 s4 s5 s6
  have h1 : Kept F b o s1 := event_kept (kept_ite (ownFindings_kept h (hF.of rfl)) h) (hF.of rfl)
  clear_value s1
  have h4 : Kept F b o s4 := setMode_kept h1 hF
  clear_value s4
  have h5 : Kept F b o s5 := endInjOn_kept h4 (hF.of rfl)
  clear_value s5
  exact h5.upd hF rfl rfl

theorem openMode_kept (h : Kept F b o s) {m c k} (hF : Fits 75662658 F) : Kept F b o (openMode s m c k) := by
  have h1 : Kept F b o (changeMode s m c k) := changeMode_kept h (hF.of rfl)
  unfold openMode
  generalize changeMode s m c k = s1 at h1 ⊢
  exact h1.upd hF rfl rfl

theorem enterMode_kept (h : Kept F b o s) {m c k} (hF : Fits 2776794434 F) : Kept F b o (enterMode s m c k) := by
  have h1 : Kept F b o (openMode s m c k) := openMode_kept h (hF.of rfl)
  unfold enterMode
  refine kept_ite ?_ (changeMode_kept h (hF.of rfl))
  dsimp only
  generalize openMode s m c k = s1 at h1 ⊢
  have h2 : Kept F b o (if m == .shadow then s1.latch' .nextBg none else s1) :=
    kept_ite (State.latch'_kept h1 (hF.of rfl)) h1
  generalize (if m == .shadow then s1.latch' .nextBg none else s1) = s2 at h2 ⊢
  exact kept_ite (h2.upd hF rfl rfl) (kept_ite (h2.upd hF rfl rfl) h2)

theorem lockoutBy_kept (h : Kept F b o s) {a2 a3 a4} (hF : Fits 226657354 F) :
    Kept F b o (lockoutBy s a2 a3 a4) := by
  unfold lockoutBy
  apply kept_ite h
  extract_lets e s1 m s3 p s5 s6 s7 p7
  have h1 : Kept F b o s1 := kept_ite h (h.upd hF rfl rfl)
  clear_value s1
  have h3 : Kept F b o s3 := h1.upd hF rfl rfl
  clear_value s3
  have h5 : Kept F b o s5 := kept_ite (h3.upd hF rfl rfl) h3
  clear_value s5
  have h7 : Kept F b o s7 := changeMode_kept (State.allOff_kept h5 (hF.of rfl)) (hF.of rfl)
  clear_value s7
  exact kept_ite h3 (kept_ite (h3.upd hF rfl rfl) (h7.upd hF rfl rfl))

theorem State.stopDoors_kept (h : Kept F b o s) {a2} (hF : Fits 4096 F) :
    Kept F b o (State.stopDoors s a2) :=
  h.upd hF rfl rfl

theorem State.requestStop_kept (h : Kept F b o s) {a2 a3} (hF : Fits 67116032 F) :
    Kept F b o (State.requestStop s a2 a3) := by
  unfold State.requestStop
  repeat' first
    | exact hF.of rfl
    | with_reducible assumption
    | with_reducible apply State.modHoist_kept
    | with_reducible apply endInjOn_kept
    | with_reducible apply State.stopDoors_kept
    | with_reducible apply kept_ite

theorem State.faultRemove_kept (h : Kept F b o s) {a2} (hF : Fits 16384 F) :
    Kept F b o (State.faultRemove s a2) :=
  h.upd hF rfl rfl

theorem carTrip_kept (h : Kept F b o s) {a2 a3 a4} (hF : Fits 67296256 F) : Kept F b o (carTrip s a2 a3 a4) := by
  unfold carTrip
  repeat' first
    | exact hF.of rfl
    | with_reducible assumption
    | with_reducible apply State.modCarSaf_kept
    | with_reducible apply State.faultRemove_kept
    | with_reducible apply State.requestStop_kept
    | with_reducible apply State.carOff_kept

theorem escalate_kept (h : Kept F b o s) {a2 a3 a4} (hF : Fits 67108864 F) : Kept F b o (escalate s a2 a3 a4) := by
  unfold escalate
  repeat' first
    | exact hF.of rfl
    | with_reducible assumption
    | with_reducible apply record_kept

theorem carReact_kept (h : Kept F b o s) {a2 a3} (hF : Fits 201326592 F) : Kept F b o (carReact s a2 a3) := by
  unfold carReact
  repeat' first
    | exact hF.of rfl
    | with_reducible assumption
    | with_reducible apply escalate_kept
    | lift_lets
    | split
    | (apply Kept.gen; dsimp -zeta only; on_goal 2 => (intro y e hy; rw [e]; exact hy.upd hF rfl rfl))

theorem stopReact_kept (h : Kept F b o s) {a2} (hF : Fits 201350144 F) : Kept F b o (stopReact s a2) := by
  unfold stopReact
  repeat' first
    | exact hF.of rfl
    | with_reducible assumption
    | with_reducible apply State.faultRemove_kept
    | with_reducible apply State.requestStop_kept
    | with_reducible apply carReact_kept
    | with_reducible apply kept_ite

theorem react_kept (h : Kept F b o s) {a2} (hF : Fits 226679882 F) : Kept F b o (react s a2) := by
  unfold react
  repeat' first
    | exact hF.of rfl
    | with_reducible assumption
    | with_reducible apply stopReact_kept
    | with_reducible apply carTrip_kept
    | with_reducible apply carReact_kept
    | with_reducible apply escalate_kept
    | with_reducible apply lockoutBy_kept
    | with_reducible apply kept_ite
    | with_reducible apply kept_ite_fst
    | (with_reducible apply forEach_kept; on_goal 2 => intros)
    | (extract_lets x; refine cut (P := Kept F b o x) ?_ fun hx => ?_
       (on_goal 2 => clear_value x); (on_goal 1 => subst x))
    | (extract_lets x; refine cut (P := Kept F b o x.1) ?_ fun hx => ?_
       (on_goal 2 => clear_value x); (on_goal 1 => subst x))
    | (extract_lets x; clear_value x)
    | (with_reducible apply foldl_kept; on_goal 2 => intros)
    | (with_reducible apply foldl_fst_kept; on_goal 2 => intros)
    | split

theorem repeatedTransient_kept (h : Kept F b o s) {a2} (hF : Fits 201326592 F) :
    Kept F b o (repeatedTransient s a2) := by
  unfold repeatedTransient
  repeat' first
    | exact hF.of rfl
    | with_reducible assumption
    | with_reducible apply record_kept
    | with_reducible apply kept_ite
    | (apply Kept.gen; dsimp -zeta only; on_goal 2 => (intro y e hy; rw [e]; exact hy.upd hF rfl rfl))

theorem raise_kept (h : Kept F b o s) {a2} (hF : Fits 226679882 F) : Kept F b o (raise s a2) := by
  unfold raise
  repeat' first
    | exact hF.of rfl
    | with_reducible assumption
    | with_reducible apply repeatedTransient_kept
    | with_reducible apply react_kept
    | with_reducible apply record_kept

theorem endReactions_kept (h : Kept F b o s) (hF : Fits 134217728 F) : Kept F b o (endReactions s) := by
  unfold endReactions
  repeat' first
    | exact hF.of rfl
    | with_reducible assumption
    | with_reducible apply kept_ite
    | (with_reducible apply forEach_kept; on_goal 2 => intros)
    | (apply Kept.gen; dsimp -zeta only; on_goal 2 => (intro y e hy; rw [e]; exact hy.upd hF rfl rfl))

/-! ### Operands -/

/-- A channel changes without more outstanding requests. -/
theorem State.modChan_kept (h : Kept F b o s) {c : Chan} {f : HostChan → HostChan}
    (hf : ∀ x, (f x).waiting.length ≤ x.waiting.length) (hF : Fits 4294967296 F) : Kept F b o (s.modChan c f) := by
  refine ⟨by cases c <;> exact h.1.upd hF rfl, fun hb => ?_⟩
  obtain ⟨h1, ⟨h2, h3, h4⟩, h5⟩ := h.2 hb
  cases c
  · exact ⟨h1, ⟨(hf _).trans h2, h3, h4⟩, h5⟩
  · exact ⟨h1, ⟨h2, (hf _).trans h3, h4⟩, h5⟩

theorem State.hqError_kept (h : Kept F b o s) {a2} (hF : Fits 4294967296 F) :
    Kept F b o (State.hqError s a2) :=
  h.upd hF rfl rfl

theorem pushNotify_kept (h : Kept F b o s) {a2 a3} (hF : Fits 4362076160 F) : Kept F b o (pushNotify s a2 a3) := by
  unfold pushNotify
  repeat' first
    | exact hF.of rfl
    | with_reducible assumption
    | (with_reducible refine State.modChan_kept ?_ (fun x => ?_) ?_
       on_goal 2 => first | (simp; done) | exact List.length_erase_le)
    | with_reducible apply event_kept
    | with_reducible apply State.hqError_kept
    | split

theorem reportDropped_kept (h : Kept F b o s) {a2} (hF : Fits 4362076160 F) : Kept F b o (reportDropped s a2) := by
  unfold reportDropped
  repeat' first
    | exact hF.of rfl
    | with_reducible assumption
    | (with_reducible refine State.modChan_kept ?_ (fun x => ?_) ?_
       on_goal 2 => first | (simp; done) | exact List.length_erase_le)
    | with_reducible apply pushNotify_kept
    | with_reducible apply kept_ite

theorem holdNote_kept (h : Kept F b o s) {a2 a3} (hF : Fits 4294967296 F) :
    Kept F b o (holdNote s a2 a3) :=
  h.upd hF rfl rfl

theorem notifyOn_kept (h : Kept F b o s) {a2 a3 a4 a5 a6 a7} (hF : Fits 4362076160 F) :
    Kept F b o (notifyOn s a2 a3 a4 a5 a6 a7) := by
  unfold notifyOn
  repeat' first
    | exact hF.of rfl
    | with_reducible assumption
    | with_reducible apply holdNote_kept
    | with_reducible apply pushNotify_kept
    | with_reducible apply kept_ite

theorem notifyAll_kept (h : Kept F b o s) {a2 a3 a4 a5} (hF : Fits 4362076160 F) :
    Kept F b o (notifyAll s a2 a3 a4 a5) := by
  unfold notifyAll
  repeat' first
    | exact hF.of rfl
    | with_reducible assumption
    | with_reducible apply notifyOn_kept

/-- One more request is outstanding where there is room for it. -/
theorem State.modChan_wait (h : Kept F b o s) {c : Chan} {e : U16 × U32} (hl : (s.chan c).waiting.length < 16) (hF : Fits 4294967296 F) :
    Kept F b o (s.modChan c (fun k => { k with waiting := k.waiting ++ [e] })) := by
  refine ⟨by cases c <;> exact h.1.upd hF rfl, fun hb => ?_⟩
  obtain ⟨h1, ⟨h2, h3, h4⟩, h5⟩ := h.2 hb
  cases c
  · refine ⟨h1, ⟨?_, h3, h4⟩, h5⟩
    have : s.host.port.waiting.length < 16 := hl
    simp only [State.modChan, List.length_append, List.length_singleton]; omega
  · refine ⟨h1, ⟨h2, ?_, h4⟩, h5⟩
    have : s.host.link.waiting.length < 16 := hl
    simp only [State.modChan, List.length_append, List.length_singleton]; omega

theorem sendReply_kept (h : Kept F b o s) {a2} (hF : Fits 4294967296 F) : Kept F b o (sendReply s a2) := by
  unfold sendReply
  repeat' first
    | exact hF.of rfl
    | with_reducible assumption
    | (with_reducible refine State.modChan_kept ?_ (fun x => ?_) ?_
       on_goal 2 => first | (simp; done) | exact List.length_erase_le)

theorem queueReply_kept (h : Kept F b o s) {a2 a3 a4} (hF : Fits 4294967296 F) :
    Kept F b o (queueReply s a2 a3 a4) := by
  unfold queueReply
  repeat' first
    | exact hF.of rfl
    | with_reducible assumption
    | with_reducible apply sendReply_kept
    | with_reducible apply kept_ite
    | lift_lets
    | (apply Kept.gen; dsimp -zeta only; on_goal 2 => (intro y e hy; rw [e]; exact hy.upd hF rfl rfl))

theorem answer_kept (h : Kept F b o s) {a2 a3 a4 a5} (hF : Fits 4294967296 F) :
    Kept F b o (answer s a2 a3 a4 a5) := by
  unfold answer
  repeat' first
    | exact hF.of rfl
    | with_reducible assumption
    | with_reducible apply queueReply_kept
    | with_reducible apply kept_ite
    | (apply Kept.gen; dsimp -zeta only; on_goal 2 => (intro y e hy; rw [e]; exact hy.upd hF rfl rfl))

theorem serve_kept (h : Kept F b o s) {hd : Hdr} {r : Req} {act : State → State × Bytes}
    (ha : ∀ s, Kept F b o s → Kept F b o (act s).1) (hF : Fits 4294967296 F) : Kept F b o (serve s hd r act) := by
  unfold serve
  split
  · exact answer_kept h (hF.of rfl)
  · exact answer_kept (ha s h) (hF.of rfl)

theorem startReq_kept (h : Kept F b o s) {hd : Hdr} {op : Nat} {run : State → State}
    (hr : ∀ s, Kept F b o s → Kept F b o (run s)) (hF : Fits 4294967296 F) : Kept F b o (startReq s hd op run) := by
  unfold startReq
  split
  · exact sendReply_kept h (hF.of rfl)
  · exact hr s h

theorem complete_kept (h : Kept F b o s) {i : Waiting} {hd : Hdr} {op len : Nat} {run : State → State}
    (hr : ∀ s, Kept F b o s → Kept F b o (run s)) (hF : Fits 4362076160 F) : Kept F b o (complete s i hd op len run) := by
  unfold complete
  extract_lets c s1 mustWait hp wait
  split; · exact h
  split
  · refine event_kept ?_ (hF.of rfl)
    split
    · exact State.hqError_kept h (hF.of rfl)
    · exact h
  split; · exact h
  rename_i hl _
  have h1 : Kept F b o s1 := State.modChan_wait h (by simpa only [c, ge_iff_le, not_le] using hl) (hF.of rfl)
  have h2 : ∀ w, Kept F b o (wait w) := fun w => h1.upd hF rfl rfl
  have h3 : ∀ r, Kept F b o (sendReply s1 r) := fun r => sendReply_kept h1 (hF.of rfl)
  clear_value wait
  clear_value s1
  split
  · exact kept_ite (h2 _) (h3 _)
  · exact kept_ite (h2 _) (startReq_kept h1 hr (hF.of rfl))

theorem hostRow_kept (h : Kept F b o s) {i : Instr} {hd : Hdr} {op len : Nat} {run : State → State}
    (hr : ∀ s, Kept F b o s → Kept F b o (run s)) (hF : Fits 4362076160 F) : KeptO F b o (hostRow s i hd op len run) :=
  keptO_next (complete_kept h hr (hF.of rfl))

/-! ### Staging -/

theorem stageEntries_kept (h : Kept F b o s) {a2} (hF : Fits 2147483648 F) : Kept F b o (stageEntries s a2).1 := by
  unfold stageEntries
  repeat' first
    | exact hF.of rfl
    | with_reducible assumption
    | split
    | (apply Kept.gen; dsimp -zeta only; on_goal 2 => (intro y e hy; rw [e]; exact hy.upd hF rfl rfl))

/-! ### Slack -/

theorem abandonSafetyA_kept (h : Kept F b o s) (hF : Fits 164096 F) : Kept F b o (abandonSafetyA s) := by
  unfold abandonSafetyA
  repeat' first
    | exact hF.of rfl
    | with_reducible assumption
    | with_reducible apply State.modCarSaf_kept
    | with_reducible apply State.modSafIn_kept
    | with_reducible apply kept_ite
    | with_reducible apply kept_ite_fst
    | (with_reducible refine modOut_kept ?_ (fun x hx => ?_) ?_; on_goal 2 => (simp_all [outStill]; done))
    | (with_reducible apply forEach_kept; on_goal 2 => intros)
    | (extract_lets x; refine cut (P := Kept F b o x) ?_ fun hx => ?_
       (on_goal 2 => clear_value x); (on_goal 1 => subst x))
    | (extract_lets x; refine cut (P := Kept F b o x.1) ?_ fun hx => ?_
       (on_goal 2 => clear_value x); (on_goal 1 => subst x))
    | (extract_lets x; clear_value x)
    | (with_reducible apply foldl_kept; on_goal 2 => intros)
    | (with_reducible apply foldl_fst_kept; on_goal 2 => intros)
    | split
    | (with_reducible refine kept_fst ‹_ = (_, _)› ?_)
    | (apply Kept.gen; dsimp -zeta only; on_goal 2 => (intro y e hy; rw [e]; exact hy.upd hF rfl rfl))

theorem abandonLoops_kept (h : Kept F b o s) (hF : Fits 7168 F) : Kept F b o (abandonLoops s) := by
  unfold abandonLoops
  extract_lets k c m loops inj s1 s2
  clear_value loops inj
  have h1 : Kept F b o s1 := h.upd hF rfl rfl
  clear_value s1
  have h2 : Kept F b o s2 := forEach_kept h1 fun _ _ h => State.modHoist_kept h (hF.of rfl)
  clear_value s2
  exact forEach_kept h2 fun _ _ h => State.modDoor_kept h (hF.of rfl)

theorem abandonMotion_kept (h : Kept F b o s) (hF : Fits 6144 F) : Kept F b o (abandonMotion s) := by
  unfold abandonMotion
  repeat' first
    | exact hF.of rfl
    | with_reducible assumption
    | with_reducible apply State.modHoist_kept
    | with_reducible apply State.modDoor_kept
    | with_reducible apply kept_ite
    | with_reducible apply kept_ite_fst
    | (with_reducible apply forEach_kept; on_goal 2 => intros)
    | (extract_lets x; refine cut (P := Kept F b o x) ?_ fun hx => ?_
       (on_goal 2 => clear_value x); (on_goal 1 => subst x))
    | (extract_lets x; refine cut (P := Kept F b o x.1) ?_ fun hx => ?_
       (on_goal 2 => clear_value x); (on_goal 1 => subst x))
    | (extract_lets x; clear_value x)
    | (with_reducible apply foldl_kept; on_goal 2 => intros)
    | (with_reducible apply foldl_fst_kept; on_goal 2 => intros)
    | split
    | (with_reducible refine kept_fst ‹_ = (_, _)› ?_)
    | (apply Kept.gen; dsimp -zeta only; on_goal 2 => (intro y e hy; rw [e]; exact hy.upd hF rfl rfl))

theorem abandonPair_kept (h : Kept F b o s) (hF : Fits 75529728 F) : Kept F b o (abandonPair s) := by
  unfold abandonPair
  extract_lets k p s1
  have h1 : Kept F b o s1 := h.upd hF rfl rfl
  clear_value s1
  exact kept_ite (h1.upd hF rfl rfl) h1

theorem abandon_kept (h : Kept F b o s) {a2} (hF : Fits 77528832 F) : Kept F b o (abandon s a2) := by
  unfold abandon
  repeat' first
    | exact hF.of rfl
    | with_reducible assumption
    | with_reducible apply abandonLoops_kept
    | with_reducible apply abandonMotion_kept
    | with_reducible apply abandonSafetyA_kept
    | with_reducible apply abandonPair_kept
    | with_reducible apply kept_ite
    | with_reducible apply kept_ite_fst
    | (with_reducible apply forEach_kept; on_goal 2 => intros)
    | (extract_lets x; refine cut (P := Kept F b o x) ?_ fun hx => ?_
       (on_goal 2 => clear_value x); (on_goal 1 => subst x))
    | (extract_lets x; refine cut (P := Kept F b o x.1) ?_ fun hx => ?_
       (on_goal 2 => clear_value x); (on_goal 1 => subst x))
    | (extract_lets x; clear_value x)
    | (with_reducible apply foldl_kept; on_goal 2 => intros)
    | (with_reducible apply foldl_fst_kept; on_goal 2 => intros)
    | split
    | (with_reducible refine kept_fst ‹_ = (_, _)› ?_)
    | (apply Kept.gen; dsimp -zeta only; on_goal 2 => (intro y e hy; rw [e]; exact hy.upd hF rfl rfl))

theorem dropWork_kept (h : Kept F b o s) {a2} (hF : Fits 17408 F) : Kept F b o (dropWork s a2) := by
  unfold dropWork
  repeat' first
    | exact hF.of rfl
    | with_reducible assumption
    | with_reducible apply State.modCap_kept
    | with_reducible apply kept_ite
    | with_reducible apply kept_ite_fst
    | (with_reducible apply forEach_kept; on_goal 2 => intros)
    | (extract_lets x; refine cut (P := Kept F b o x) ?_ fun hx => ?_
       (on_goal 2 => clear_value x); (on_goal 1 => subst x))
    | (extract_lets x; refine cut (P := Kept F b o x.1) ?_ fun hx => ?_
       (on_goal 2 => clear_value x); (on_goal 1 => subst x))
    | (extract_lets x; clear_value x)
    | (with_reducible apply foldl_kept; on_goal 2 => intros)
    | (with_reducible apply foldl_fst_kept; on_goal 2 => intros)
    | split
    | (with_reducible refine kept_fst ‹_ = (_, _)› ?_)
    | (apply Kept.gen; dsimp -zeta only; on_goal 2 => (intro y e hy; rw [e]; exact hy.upd hF rfl rfl))

theorem closeClass_kept (h : Kept F b o s) {a1 a3} (hF : Fits 77528832 F) : Kept F b o (closeClass a1 s a3) := by
  unfold closeClass
  repeat' first
    | exact hF.of rfl
    | with_reducible assumption
    | with_reducible apply abandon_kept
    | with_reducible apply dropWork_kept
    | with_reducible apply State.modSlackC_kept
    | with_reducible apply kept_ite
    | with_reducible apply kept_ite_fst
    | (with_reducible apply forEach_kept; on_goal 2 => intros)
    | (extract_lets x; refine cut (P := Kept F b o x) ?_ fun hx => ?_
       (on_goal 2 => clear_value x); (on_goal 1 => subst x))
    | (extract_lets x; refine cut (P := Kept F b o x.1) ?_ fun hx => ?_
       (on_goal 2 => clear_value x); (on_goal 1 => subst x))
    | (extract_lets x; clear_value x)
    | (with_reducible apply foldl_kept; on_goal 2 => intros)
    | (with_reducible apply foldl_fst_kept; on_goal 2 => intros)
    | split
    | (with_reducible refine kept_fst ‹_ = (_, _)› ?_)
    | (apply Kept.gen; dsimp -zeta only; on_goal 2 => (intro y e hy; rw [e]; exact hy.upd hF rfl rfl))

theorem judgeMiss_kept (h : Kept F b o s) {a2} (hF : Fits 226680138 F) : Kept F b o (judgeMiss s a2) := by
  unfold judgeMiss
  repeat' first
    | exact hF.of rfl
    | with_reducible assumption
    | with_reducible apply raise_kept
    | with_reducible apply kept_ite
    | (apply Kept.gen; dsimp -zeta only; on_goal 2 => (intro y e hy; rw [e]; exact hy.upd hF rfl rfl))

theorem tickOpTime_kept (h : Kept F b o s) (hF : Fits 32 F) : Kept F b o (tickOpTime s) := by
  unfold tickOpTime
  repeat' first
    | exact hF.of rfl
    | with_reducible assumption
    | with_reducible apply kept_ite
    | (apply Kept.gen; dsimp -zeta only; on_goal 2 => (intro y e hy; rw [e]; exact hy.upd hF rfl rfl))

theorem tickSecond_kept (h : Kept F b o s) (hF : Fits 256 F) : Kept F b o (tickSecond s) := by
  unfold tickSecond
  repeat' first
    | exact hF.of rfl
    | with_reducible assumption
    | with_reducible apply kept_ite
    | (apply Kept.gen; dsimp -zeta only; on_goal 2 => (intro y e hy; rw [e]; exact hy.upd hF rfl rfl))

theorem applyShed_kept (h : Kept F b o s) (hF : Fits 67125504 F) : Kept F b o (applyShed s) := by
  unfold applyShed
  repeat' first
    | exact hF.of rfl
    | with_reducible assumption
    | with_reducible apply endInjOn_kept
    | with_reducible apply event_kept
    | with_reducible apply kept_ite
    | split
    | (apply Kept.gen; dsimp -zeta only; on_goal 2 => (intro y e hy; rw [e]; exact hy.upd hF rfl rfl))

theorem freeze_kept (h : Kept F b o s) (hF : Fits 2098176 F) : Kept F b o (freeze s) := h.upd hF rfl rfl

theorem tick_kept (h : Kept F b o s) {a2} (hF : Fits 230621050 F) : Kept F b o (tick s a2) := by
  unfold tick
  repeat' first
    | exact hF.of rfl
    | with_reducible assumption
    | with_reducible apply judgeMiss_kept
    | with_reducible apply closeClass_kept
    | with_reducible apply freeze_kept
    | with_reducible apply applyShed_kept
    | with_reducible apply tickSecond_kept
    | with_reducible apply tickOpTime_kept
    | with_reducible apply kept_ite
    | with_reducible apply kept_ite_fst
    | (with_reducible apply forEach_kept; on_goal 2 => intros)
    | (intro x; refine cut (P := Kept F b o x) ?_ fun hx => ?_; (on_goal 2 => clear_value x); (on_goal 1 => subst x))
    | (intro x; refine cut (P := Kept F b o x.1) ?_ fun hx => ?_
       (on_goal 2 => clear_value x); (on_goal 1 => subst x))
    | (intro x; subst x)
    | (with_reducible apply foldl_kept; on_goal 2 => intros)
    | (with_reducible apply foldl_fst_kept; on_goal 2 => intros)
    | lift_lets
    | split
    | (with_reducible refine kept_fst ‹_ = (_, _)› ?_)
    | (apply Kept.gen; dsimp -zeta only; on_goal 2 => (intro y e hy; rw [e]; exact hy.upd hF rfl rfl))

theorem execSampleFrameTick_kept (h : Kept F b o s) {a1} (hF : Fits 230621050 F) :
    KeptO F b o (execSampleFrameTick a1 s) := by
  unfold execSampleFrameTick
  repeat' first
    | exact hF.of rfl
    | with_reducible assumption
    | with_reducible apply tick_kept
    | with_reducible apply kept_ite
    | with_reducible apply kept_ite_fst
    | with_reducible apply keptO_ite
    | exact keptO_fault
    | with_reducible apply keptO_next

theorem execShedEvaluation_kept (h : Kept F b o s) (hF : Fits 256 F) : KeptO F b o (execShedEvaluation s) := by
  unfold execShedEvaluation
  repeat' first
    | exact hF.of rfl
    | with_reducible assumption
    | with_reducible apply kept_ite
    | with_reducible apply keptO_next
    | (apply Kept.gen; dsimp -zeta only; on_goal 2 => (intro y e hy; rw [e]; exact hy.upd hF rfl rfl))

theorem execEpochMarkReceived_kept (h : Kept F b o s) {a1} (hF : Fits 8388608 F) :
    KeptO F b o (execEpochMarkReceived a1 s) := by
  unfold execEpochMarkReceived
  repeat' first
    | exact hF.of rfl
    | with_reducible assumption
    | with_reducible apply kept_ite
    | with_reducible apply keptO_next
    | (apply Kept.gen; dsimp -zeta only; on_goal 2 => (intro y e hy; rw [e]; exact hy.upd hF rfl rfl))

theorem timebase_kept (h : Kept F b o s) {a2 a3} (hF : Fits 226680138 F) : Kept F b o (timebase s a2 a3) := by
  unfold timebase
  repeat' first
    | exact hF.of rfl
    | with_reducible assumption
    | with_reducible apply raise_kept
    | with_reducible apply State.lowSideOpen_kept
    | with_reducible apply kept_ite
    | (apply Kept.gen; dsimp -zeta only; on_goal 2 => (intro y e hy; rw [e]; exact hy.upd hF rfl rfl))

theorem execTimebaseMarkMissing_kept (h : Kept F b o s) (hF : Fits 226680138 F) :
    KeptO F b o (execTimebaseMarkMissing s) := by
  unfold execTimebaseMarkMissing
  repeat' first
    | exact hF.of rfl
    | with_reducible assumption
    | with_reducible apply timebase_kept
    | with_reducible apply kept_ite
    | with_reducible apply keptO_next

theorem actSlackRead_kept (h : Kept F b o s) {a1 a2 a3} (hF : Fits 4294967552 F) :
    Kept F b o (actSlackRead a1 a2 a3 s) := by
  unfold actSlackRead
  repeat' first
    | exact hF.of rfl
    | with_reducible assumption
    | (with_reducible apply serve_kept; on_goal 2 => (intros; try beta_reduce))
    | with_reducible apply kept_ite
    | (apply Kept.gen; dsimp -zeta only; on_goal 2 => (intro y e hy; rw [e]; exact hy.upd hF rfl rfl))

theorem execSlackRead_kept (h : Kept F b o s) {a1 a2 a3} (hF : Fits 4362076416 F) :
    KeptO F b o (execSlackRead a1 a2 a3 s) := by
  unfold execSlackRead
  repeat' first
    | exact hF.of rfl
    | with_reducible assumption
    | (with_reducible apply hostRow_kept; on_goal 2 => (intros; try beta_reduce))
    | with_reducible apply actSlackRead_kept

/-! ### Recorder -/

theorem beginFlush_kept (h : Kept F b o s) {a2} (hF : Fits 67108864 F) : Kept F b o (beginFlush s a2) := by
  unfold beginFlush
  repeat' first
    | exact hF.of rfl
    | with_reducible assumption
    | with_reducible apply kept_ite
    | (apply Kept.gen; dsimp -zeta only; on_goal 2 => (intro y e hy; rw [e]; exact hy.upd hF rfl rfl))

theorem notKept_kept (h : Kept F b o s) {a2} (hF : Fits 67108864 F) : Kept F b o (notKept s a2) := by
  unfold notKept
  repeat' first
    | exact hF.of rfl
    | with_reducible assumption
    | lift_lets
    | split
    | (apply Kept.gen; dsimp -zeta only; on_goal 2 => (intro y e hy; rw [e]; exact hy.upd hF rfl rfl))

theorem warnLog_kept (h : Kept F b o s) (hF : Fits 67108864 F) : Kept F b o (warnLog s) := by
  unfold warnLog
  repeat' first
    | exact hF.of rfl
    | with_reducible assumption
    | with_reducible apply record_kept
    | with_reducible apply kept_ite
    | (apply Kept.gen; dsimp -zeta only; on_goal 2 => (intro y e hy; rw [e]; exact hy.upd hF rfl rfl))

/-- The buffer gets no longer. -/
theorem shorter_kept (h : Kept F b o s) {N : Nat} (hF : Fits N F) (hw : wipe N t = wipe N s) (h2 : t.power = s.power)
    (h3 : t.mode = s.mode) (h4 : t.saf.outs = s.saf.outs) (h5 : t.host.port.waiting = s.host.port.waiting)
    (h6 : t.host.link.waiting = s.host.link.waiting) (h7 : t.log.buffer.length ≤ s.log.buffer.length) : Kept F b o t := by
  refine ⟨h.1.upd hF hw, fun hb => ?_⟩
  obtain ⟨k1, ⟨k2, k3, k4⟩, k5⟩ := h.2 hb
  rw [h2, h3, h4, h5, h6]
  exact ⟨k1, ⟨k2, k3, h7.trans k4⟩, k5⟩

theorem endFlush_kept (h : Kept F b o s) {us : Nat} (hF : Fits 100663328 F) : Kept F b o (endFlush s us) := by
  unfold endFlush
  split
  · exact h
  · extract_lets l todo later room ring s1
    have h1 : Kept F b o s1 := by
      clear_value ring
      exact shorter_kept h hF rfl rfl rfl rfl rfl rfl (by simp [s1, later, l])
    clear_value s1
    exact warnLog_kept (notKept_kept h1 (hF.of rfl)) (hF.of rfl)

theorem execFlushStart_kept (h : Kept F b o s) (hF : Fits 67108864 F) : KeptO F b o (execFlushStart s) := by
  unfold execFlushStart
  repeat' first
    | exact hF.of rfl
    | with_reducible assumption
    | with_reducible apply beginFlush_kept
    | with_reducible apply kept_ite
    | with_reducible apply keptO_next

theorem execFlushTimer_kept (h : Kept F b o s) (hF : Fits 67108864 F) : KeptO F b o (execFlushTimer s) := by
  unfold execFlushTimer
  repeat' first
    | exact hF.of rfl
    | with_reducible assumption
    | with_reducible apply kept_ite
    | with_reducible apply keptO_next
    | (apply Kept.gen; dsimp -zeta only; on_goal 2 => (intro y e hy; rw [e]; exact hy.upd hF rfl rfl))

theorem execPfailFall_kept (h : Kept F b o s) (hF : Fits 67108868 F) : KeptO F b o (execPfailFall s) := by
  unfold execPfailFall
  repeat' first
    | exact hF.of rfl
    | with_reducible assumption
    | with_reducible apply event_kept
    | with_reducible apply beginFlush_kept
    | with_reducible apply kept_ite
    | with_reducible apply keptO_next
    | (apply Kept.gen; dsimp -zeta only; on_goal 2 => (intro y e hy; rw [e]; exact hy.upd hF rfl rfl))

theorem execPfailRise_kept (h : Kept F b o s) (hF : Fits 67108868 F) : KeptO F b o (execPfailRise s) := by
  unfold execPfailRise
  repeat' first
    | exact hF.of rfl
    | with_reducible assumption
    | with_reducible apply event_kept
    | with_reducible apply kept_ite
    | with_reducible apply keptO_next
    | (apply Kept.gen; dsimp -zeta only; on_goal 2 => (intro y e hy; rw [e]; exact hy.upd hF rfl rfl))

theorem execOperatingTimeSave_kept (h : Kept F b o s) (hF : Fits 32 F) : KeptO F b o (execOperatingTimeSave s) := by
  unfold execOperatingTimeSave
  repeat' first
    | exact hF.of rfl
    | with_reducible assumption
    | with_reducible apply kept_ite
    | with_reducible apply keptO_next
    | (apply Kept.gen; dsimp -zeta only; on_goal 2 => (intro y e hy; rw [e]; exact hy.upd hF rfl rfl))

theorem execRateTokenRefill_kept (h : Kept F b o s) {a1} (hF : Fits 67108864 F) :
    KeptO F b o (execRateTokenRefill a1 s) := by
  unfold execRateTokenRefill
  repeat' first
    | exact hF.of rfl
    | with_reducible assumption
    | with_reducible apply kept_ite
    | with_reducible apply keptO_next
    | (apply Kept.gen; dsimp -zeta only; on_goal 2 => (intro y e hy; rw [e]; exact hy.upd hF rfl rfl))

theorem execPartnerFindingReceived_kept (h : Kept F b o s) {a1} (hF : Fits 67108864 F) :
    KeptO F b o (execPartnerFindingReceived a1 s) := by
  unfold execPartnerFindingReceived
  repeat' first
    | exact hF.of rfl
    | with_reducible assumption
    | with_reducible apply admitRec_kept
    | with_reducible apply kept_ite
    | with_reducible apply keptO_next

theorem openCursor_kept (h : Kept F b o s) {a2 a3} (hF : Fits 67108864 F) : Kept F b o (openCursor s a2 a3).1 := by
  unfold openCursor
  repeat' first
    | exact hF.of rfl
    | with_reducible assumption
    | with_reducible apply State.modCursor_kept
    | split

theorem actLogCursorOpen_kept (h : Kept F b o s) {a1 a2 a3 a4} (hF : Fits 4362076160 F) :
    Kept F b o (actLogCursorOpen a1 a2 a3 a4 s) := by
  unfold actLogCursorOpen
  repeat' first
    | exact hF.of rfl
    | with_reducible assumption
    | (with_reducible apply serve_kept; on_goal 2 => (intros; try beta_reduce))
    | with_reducible apply openCursor_kept

theorem execLogCursorOpen_kept (h : Kept F b o s) {a1 a2 a3 a4} (hF : Fits 4362076160 F) :
    KeptO F b o (execLogCursorOpen a1 a2 a3 a4 s) := by
  unfold execLogCursorOpen
  repeat' first
    | exact hF.of rfl
    | with_reducible assumption
    | (with_reducible apply hostRow_kept; on_goal 2 => (intros; try beta_reduce))
    | with_reducible apply actLogCursorOpen_kept

theorem readCursor_kept (h : Kept F b o s) {a2 a3} (hF : Fits 67108864 F) :
    Kept F b o (readCursor s a2 a3).1 :=
  h.upd hF rfl rfl

theorem actLogRead_kept (h : Kept F b o s) {a1 a2 a3 a4} (hF : Fits 4362076160 F) :
    Kept F b o (actLogRead a1 a2 a3 a4 s) := by
  unfold actLogRead
  repeat' first
    | exact hF.of rfl
    | with_reducible assumption
    | (with_reducible apply serve_kept; on_goal 2 => (intros; try beta_reduce))
    | with_reducible apply readCursor_kept
    | with_reducible apply kept_ite_fst

theorem execLogRead_kept (h : Kept F b o s) {a1 a2 a3 a4} (hF : Fits 4362076160 F) :
    KeptO F b o (execLogRead a1 a2 a3 a4 s) := by
  unfold execLogRead
  repeat' first
    | exact hF.of rfl
    | with_reducible assumption
    | (with_reducible apply hostRow_kept; on_goal 2 => (intros; try beta_reduce))
    | with_reducible apply actLogRead_kept

theorem actLogCursorClose_kept (h : Kept F b o s) {a1 a2 a3} (hF : Fits 4362076160 F) :
    Kept F b o (actLogCursorClose a1 a2 a3 s) := by
  unfold actLogCursorClose
  repeat' first
    | exact hF.of rfl
    | with_reducible assumption
    | (with_reducible apply serve_kept; on_goal 2 => (intros; try beta_reduce))
    | with_reducible apply State.modCursor_kept
    | with_reducible apply kept_ite_fst

theorem execLogCursorClose_kept (h : Kept F b o s) {a1 a2 a3} (hF : Fits 4362076160 F) :
    KeptO F b o (execLogCursorClose a1 a2 a3 s) := by
  unfold execLogCursorClose
  repeat' first
    | exact hF.of rfl
    | with_reducible assumption
    | (with_reducible apply hostRow_kept; on_goal 2 => (intros; try beta_reduce))
    | with_reducible apply actLogCursorClose_kept

theorem execCursorIdleClose_kept (h : Kept F b o s) {a1} (hF : Fits 67108864 F) :
    KeptO F b o (execCursorIdleClose a1 s) := by
  unfold execCursorIdleClose
  repeat' first
    | exact hF.of rfl
    | with_reducible assumption
    | with_reducible apply State.modCursor_kept
    | with_reducible apply kept_ite
    | with_reducible apply keptO_next

theorem actLogStatus_kept (h : Kept F b o s) {a1 a2} (hF : Fits 4294967296 F) :
    Kept F b o (actLogStatus a1 a2 s) := by
  unfold actLogStatus
  repeat' first
    | exact hF.of rfl
    | with_reducible assumption
    | (with_reducible apply serve_kept; on_goal 2 => (intros; try beta_reduce))

theorem execLogStatus_kept (h : Kept F b o s) {a1 a2} (hF : Fits 4362076160 F) :
    KeptO F b o (execLogStatus a1 a2 s) := by
  unfold execLogStatus
  repeat' first
    | exact hF.of rfl
    | with_reducible assumption
    | (with_reducible apply hostRow_kept; on_goal 2 => (intros; try beta_reduce))
    | with_reducible apply actLogStatus_kept

theorem timeMark.place_kept (h : Kept F b o s) {a2 a3 a4 a5} (hF : Fits 67108864 F) :
    Kept F b o (timeMark.place s a2 a3 a4 a5).1 := by
  unfold timeMark.place
  split
  · exact h
  · exact (admitRec_kept (countFinding_kept (pushOverflow_kept h (by omega) (hF.of rfl)) (hF.of rfl)) (hF.of rfl)).upd
      hF rfl rfl

theorem timeMark_kept (h : Kept F b o s) {a2 a3 a4} (hF : Fits 67108864 F) : Kept F b o (timeMark s a2 a3 a4).1 := by
  unfold timeMark
  repeat' first
    | exact hF.of rfl
    | with_reducible assumption
    | with_reducible apply timeMark.place_kept
    | split

theorem actTimeMark_kept (h : Kept F b o s) {a1 a2 a3 a4 a5} (hF : Fits 4362076160 F) :
    Kept F b o (actTimeMark a1 a2 a3 a4 a5 s) := by
  unfold actTimeMark
  repeat' first
    | exact hF.of rfl
    | with_reducible assumption
    | (with_reducible apply serve_kept; on_goal 2 => (intros; try beta_reduce))
    | with_reducible apply timeMark_kept

theorem execTimeMark_kept (h : Kept F b o s) {a1 a2 a3 a4 a5} (hF : Fits 4362076160 F) :
    KeptO F b o (execTimeMark a1 a2 a3 a4 a5 s) := by
  unfold execTimeMark
  repeat' first
    | exact hF.of rfl
    | with_reducible assumption
    | (with_reducible apply hostRow_kept; on_goal 2 => (intros; try beta_reduce))
    | with_reducible apply actTimeMark_kept

theorem drawNonce_kept (h : Kept F b o s) (hF : Fits 68719476736 F) : Kept F b o (drawNonce s).1 := h.upd hF rfl rfl

theorem issueClearChallenge_kept (h : Kept F b o s) (hF : Fits 68786585600 F) :
    Kept F b o (issueClearChallenge s).1 := by
  unfold issueClearChallenge
  repeat' first
    | exact hF.of rfl
    | with_reducible assumption
    | with_reducible apply drawNonce_kept
    | with_reducible apply kept_ite_fst
    | lift_lets
    | (apply Kept.gen; dsimp -zeta only; on_goal 2 => (intro y e hy; rw [e]; exact hy.upd hF rfl rfl))

theorem actLogClearChallenge_kept (h : Kept F b o s) {a1 a2} (hF : Fits 73081552896 F) :
    Kept F b o (actLogClearChallenge a1 a2 s) := by
  unfold actLogClearChallenge
  repeat' first
    | exact hF.of rfl
    | with_reducible assumption
    | (with_reducible apply serve_kept; on_goal 2 => (intros; try beta_reduce))
    | with_reducible apply issueClearChallenge_kept

theorem execLogClearChallenge_kept (h : Kept F b o s) {a1 a2} (hF : Fits 73081552896 F) :
    KeptO F b o (execLogClearChallenge a1 a2 s) := by
  unfold execLogClearChallenge
  repeat' first
    | exact hF.of rfl
    | with_reducible assumption
    | (with_reducible apply hostRow_kept; on_goal 2 => (intros; try beta_reduce))
    | with_reducible apply actLogClearChallenge_kept

theorem passCursors_kept (h : Kept F b o s) (hF : Fits 67108864 F) : Kept F b o (passCursors s) := by
  unfold passCursors
  repeat' first
    | exact hF.of rfl
    | with_reducible assumption
    | with_reducible apply State.modCursor_kept
    | with_reducible apply kept_ite
    | with_reducible apply kept_ite_fst
    | (with_reducible apply forEach_kept; on_goal 2 => intros)

theorem emptied_kept (h : Kept F b o s) {l : Rec} (hl : l.buffer = []) (hF : Fits 100663328 F) :
    Kept F b o { s with log := l } :=
  ⟨h.1.upd hF rfl, fun hb => ⟨(h.2 hb).1, ⟨(h.2 hb).2.1.1, (h.2 hb).2.1.2.1, by rw [hl]; exact Nat.zero_le _⟩, (h.2 hb).2.2⟩⟩

theorem passCursors_empty (h : Kept F b o s ∧ s.log.buffer = []) (hF : Fits 67108864 F) :
    Kept F b o (passCursors s) ∧ (passCursors s).log.buffer = [] := by
  unfold passCursors
  refine forEach_inv (P := fun s => Kept F b o s ∧ s.log.buffer = []) h fun s n h => ?_
  split
  · exact ⟨State.modCursor_kept h.1 (hF.of rfl), h.2⟩
  · exact h

theorem clearLog_kept (h : Kept F b o s) (hF : Fits 100663328 F) : Kept F b o (clearLog s).1 := by
  unfold clearLog
  extract_lets l all old removed first last seq ch s1 s2 f s3 s4
  have h1 : Kept F b o s1 ∧ s1.log.buffer = [] := ⟨emptied_kept h rfl hF, rfl⟩
  clear_value s1
  have h2 := passCursors_empty h1 (hF.of rfl)
  have e2 : passCursors s1 = s2 := rfl
  rw [e2] at h2
  clear_value s2
  have h3 : Kept F b o (countFinding s2 f) := countFinding_kept h2.1 (hF.of rfl)
  have e : (countFinding s2 f).log.buffer.length < 1024 := by
    have e : (countFinding s2 f).log.buffer = [] := h2.2
    rw [e]; exact Nat.zero_lt_succ _
  have h4 : Kept F b o s3 := admitNow_kept h3 e (hF.of rfl)
  clear_value s3
  exact emptied_kept (s := { s3 with opSaved := s3.opTime }) (h4.upd hF rfl rfl) rfl hF

theorem refuseClear_kept (h : Kept F b o s) (hF : Fits 67108864 F) : Kept F b o (refuseClear s) := by
  unfold refuseClear
  repeat' first
    | exact hF.of rfl
    | with_reducible assumption
    | with_reducible apply record_kept
    | (apply Kept.gen; dsimp -zeta only; on_goal 2 => (intro y e hy; rw [e]; exact hy.upd hF rfl rfl))

theorem actLogClear_kept (h : Kept F b o s) {a1 a2 a3} (hF : Fits 4395630624 F) :
    Kept F b o (actLogClear a1 a2 a3 s) := by
  unfold actLogClear
  repeat' first
    | exact hF.of rfl
    | with_reducible assumption
    | with_reducible apply answer_kept
    | with_reducible apply refuseClear_kept
    | with_reducible apply clearLog_kept
    | split
    | (apply Kept.gen; dsimp -zeta only; on_goal 2 => (intro y e hy; rw [e]; exact hy.upd hF rfl rfl))

theorem execLogClear_kept (h : Kept F b o s) {a1 a2 a3} (hF : Fits 4395630624 F) :
    KeptO F b o (execLogClear a1 a2 a3 s) := by
  unfold execLogClear
  repeat' first
    | exact hF.of rfl
    | with_reducible assumption
    | (with_reducible apply hostRow_kept; on_goal 2 => (intros; try beta_reduce))
    | with_reducible apply actLogClear_kept
    | with_reducible apply keptO_ite
    | exact keptO_fault

theorem actRateLimitRead_kept (h : Kept F b o s) {a1 a2 a3 a4 a5} (hF : Fits 4294967296 F) :
    Kept F b o (actRateLimitRead a1 a2 a3 a4 a5 s) := by
  unfold actRateLimitRead
  repeat' first
    | exact hF.of rfl
    | with_reducible assumption
    | (with_reducible apply serve_kept; on_goal 2 => (intros; try beta_reduce))

theorem execRateLimitRead_kept (h : Kept F b o s) {a1 a2 a3 a4 a5} (hF : Fits 4362076160 F) :
    KeptO F b o (execRateLimitRead a1 a2 a3 a4 a5 s) := by
  unfold execRateLimitRead
  repeat' first
    | exact hF.of rfl
    | with_reducible assumption
    | (with_reducible apply hostRow_kept; on_goal 2 => (intros; try beta_reduce))
    | with_reducible apply actRateLimitRead_kept

theorem setRate_kept (h : Kept F b o s) {a2 a3} (hF : Fits 67108864 F) : Kept F b o (setRate s a2 a3).1 := by
  unfold setRate
  repeat' first
    | exact hF.of rfl
    | with_reducible assumption
    | with_reducible apply kept_ite
    | with_reducible apply kept_ite_fst
    | (apply Kept.gen; dsimp -zeta only; on_goal 2 => (intro y e hy; rw [e]; exact hy.upd hF rfl rfl))

theorem actRateLimitSet_kept (h : Kept F b o s) {a1 a2 a3 a4 a5} (hF : Fits 4362076160 F) :
    Kept F b o (actRateLimitSet a1 a2 a3 a4 a5 s) := by
  unfold actRateLimitSet
  repeat' first
    | exact hF.of rfl
    | with_reducible assumption
    | (with_reducible apply serve_kept; on_goal 2 => (intros; try beta_reduce))
    | with_reducible apply setRate_kept

theorem execRateLimitSet_kept (h : Kept F b o s) {a1 a2 a3 a4 a5} (hF : Fits 4362076160 F) :
    KeptO F b o (execRateLimitSet a1 a2 a3 a4 a5 s) := by
  unfold execRateLimitSet
  repeat' first
    | exact hF.of rfl
    | with_reducible assumption
    | (with_reducible apply hostRow_kept; on_goal 2 => (intros; try beta_reduce))
    | with_reducible apply actRateLimitSet_kept

theorem actRateLimitRemove_kept (h : Kept F b o s) {a1 a2 a3 a4 a5} (hF : Fits 4362076160 F) :
    Kept F b o (actRateLimitRemove a1 a2 a3 a4 a5 s) := by
  unfold actRateLimitRemove
  repeat' first
    | exact hF.of rfl
    | with_reducible assumption
    | (with_reducible apply serve_kept; on_goal 2 => (intros; try beta_reduce))
    | with_reducible apply setRate_kept

theorem execRateLimitRemove_kept (h : Kept F b o s) {a1 a2 a3 a4 a5} (hF : Fits 4362076160 F) :
    KeptO F b o (execRateLimitRemove a1 a2 a3 a4 a5 s) := by
  unfold execRateLimitRemove
  repeat' first
    | exact hF.of rfl
    | with_reducible assumption
    | (with_reducible apply hostRow_kept; on_goal 2 => (intros; try beta_reduce))
    | with_reducible apply actRateLimitRemove_kept

theorem ratesAtEpoch_kept (h : Kept F b o s) (hF : Fits 67108864 F) : Kept F b o (ratesAtEpoch s) := by
  unfold ratesAtEpoch
  repeat' first
    | exact hF.of rfl
    | with_reducible assumption
    | with_reducible apply event_kept
    | split
    | (apply Kept.gen; dsimp -zeta only; on_goal 2 => (intro y e hy; rw [e]; exact hy.upd hF rfl rfl))

/-! ### HostOut -/

theorem popOut_kept (h : Kept F b o s) {a2} (hF : Fits 4362076160 F) : Kept F b o (popOut s a2) := by
  unfold popOut
  repeat' first
    | exact hF.of rfl
    | with_reducible assumption
    | with_reducible apply reportDropped_kept
    | (with_reducible refine State.modChan_kept ?_ (fun x => ?_) ?_
       on_goal 2 => first | (simp; done) | exact List.length_erase_le)
    | split

end Sys2Proof.Machine
end

