-- ==== Sys2Proof/Laws/KeptMotion.lean ====
section
/-! SUPPORT. What the operations of these units keep (`Kept`): feedback, loops, doors and hoists. -/

namespace Sys2Proof.Machine

variable {F N : Nat} {b : Bool} {o s t : State}

/-! ### Feedback -/

theorem fbFault_kept (h : Kept F b o s) {a2 a3 a4} (hF : Fits 226679882 F) : Kept F b o (fbFault s a2 a3 a4) := by
  unfold fbFault
  repeat' first
    | exact hF.of rfl
    | with_reducible assumption
    | with_reducible apply raise_kept

theorem fbTransient_kept (h : Kept F b o s) {a2 a3 a4} (hF : Fits 226679882 F) :
    Kept F b o (fbTransient s a2 a3 a4) := by
  unfold fbTransient
  repeat' first
    | exact hF.of rfl
    | with_reducible assumption
    | with_reducible apply raise_kept

theorem illegalTransition_kept (h : Kept F b o s) {a2 a3} (hF : Fits 226680394 F) :
    Kept F b o (illegalTransition s a2 a3) := by
  unfold illegalTransition
  repeat' first
    | exact hF.of rfl
    | with_reducible assumption
    | with_reducible apply State.modEnc_kept
    | with_reducible apply fbFault_kept
    | with_reducible apply kept_ite

theorem judgeRepeat_kept (h : Kept F b o s) {a2 a3 a4 a5 a6 a7} (hF : Fits 226679882 F) :
    Kept F b o (judgeRepeat s a2 a3 a4 a5 a6 a7) := by
  unfold judgeRepeat
  repeat' first
    | exact hF.of rfl
    | with_reducible assumption
    | with_reducible apply fbFault_kept
    | with_reducible apply fbTransient_kept
    | with_reducible apply kept_ite

theorem overspeedCheck_kept (h : Kept F b o s) {a2 a3 a4} (hF : Fits 226680394 F) :
    Kept F b o (overspeedCheck s a2 a3 a4) := by
  unfold overspeedCheck
  repeat' first
    | exact hF.of rfl
    | with_reducible assumption
    | with_reducible apply judgeRepeat_kept
    | with_reducible apply State.modEnc_kept

theorem watchMotor_kept (h : Kept F b o s) {a2} (hF : Fits 512 F) : Kept F b o (watchMotor s a2) := by
  unfold watchMotor
  repeat' first
    | exact hF.of rfl
    | with_reducible assumption
    | with_reducible apply State.modCarFb_kept
    | with_reducible apply kept_ite
    | with_reducible apply kept_ite_fst
    | (with_reducible apply forEach_kept; on_goal 2 => intros)
    | (extract_lets x; refine cut (P := Kept F b o x) ?_ fun hx => ?_
       (on_goal 2 => clear_value x); (on_goal 1 => subst x))
    | (extract_lets x; refine cut (P := Kept F b o x.1) ?_ fun hx => ?_
       (on_goal 2 => clear_value x); (on_goal 1 => subst x))
    | (extract_lets x; clear_value x)
    | (with_reducible apply foldl_kept; on_goal 2 => intros)
    | (with_reducible apply foldl_fst_kept; on_goal 2 => intros)
    | split

theorem amplitudeCheck_kept (h : Kept F b o s) {a2 a3 a4 a5} (hF : Fits 226680394 F) :
    Kept F b o (amplitudeCheck s a2 a3 a4 a5) := by
  unfold amplitudeCheck
  repeat' first
    | exact hF.of rfl
    | with_reducible assumption
    | with_reducible apply State.modEnc_kept
    | with_reducible apply watchMotor_kept
    | with_reducible apply judgeRepeat_kept

theorem resolveBoth_kept (h : Kept F b o s) {a2 a3 a4 a5} (hF : Fits 226680394 F) :
    Kept F b o (resolveBoth s a2 a3 a4 a5) := by
  unfold resolveBoth
  repeat' first
    | exact hF.of rfl
    | with_reducible assumption
    | with_reducible apply State.modEnc_kept
    | with_reducible apply illegalTransition_kept
    | with_reducible apply record_kept
    | with_reducible apply kept_ite

theorem reconcile_kept (h : Kept F b o s) {n fa now car} {place : State → Int → State}
    (hp : ∀ s p, Kept F b o s → Kept F b o (place s p)) (hF : Fits 226680394 F) : Kept F b o (reconcile s n fa now place car) := by
  unfold reconcile
  extract_lets e d s1 c s2
  split
  · exact illegalTransition_kept (record_kept (State.modEnc_kept h (hF.of rfl)) (hF.of rfl)) (hF.of rfl)
  · exact hp _ _ (State.modEnc_kept h (hF.of rfl))

theorem idleChan_kept (h : Kept F b o s) {a2} (hF : Fits 512 F) : Kept F b o (idleChan s a2) := by
  unfold idleChan
  repeat' first
    | exact hF.of rfl
    | with_reducible assumption
    | with_reducible apply watchMotor_kept
    | with_reducible apply State.modEnc_kept
    | with_reducible apply kept_ite

theorem sineSample_kept (h : Kept F b o s) {x k now car} {place : State → Int → State}
    (hp : ∀ s p, Kept F b o s → Kept F b o (place s p)) (hF : Fits 226680394 F) :
    Kept F b o (sineSample s x k now place car) := by
  unfold sineSample
  repeat' first
    | exact hF.of rfl
    | with_reducible assumption
    | with_reducible apply amplitudeCheck_kept
    | with_reducible apply State.modEnc_kept
    | with_reducible apply resolveBoth_kept
    | with_reducible apply hp
    | (with_reducible apply reconcile_kept; on_goal 2 => (intros; try beta_reduce))
    | with_reducible apply kept_ite
    | (intro x; have hx : Kept F b o x := ?_; on_goal 2 => clear_value x; on_goal 1 => subst x)
    | (intro x; subst x)
    | lift_lets
    | split

theorem digitalSample_kept (h : Kept F b o s) {n k car} {place : State → Int → State}
    (hp : ∀ s p, Kept F b o s → Kept F b o (place s p)) (hF : Fits 226680394 F) :
    Kept F b o (digitalSample s n k place car) := by
  unfold digitalSample
  exact forEach_kept (hp _ _ (State.modEnc_kept h (hF.of rfl))) fun _ _ h =>
    illegalTransition_kept (record_kept h (hF.of rfl)) (hF.of rfl)

theorem sampleChan_kept (h : Kept F b o s) {a2 a3} (hF : Fits 226680394 F) : Kept F b o (sampleChan s a2 a3) := by
  unfold sampleChan
  repeat' first
    | exact hF.of rfl
    | with_reducible assumption
    | with_reducible apply idleChan_kept
    | with_reducible apply State.modEnc_kept
    | with_reducible apply overspeedCheck_kept
    | (with_reducible apply sineSample_kept; on_goal 2 => (intros; try beta_reduce))
    | (with_reducible apply digitalSample_kept; on_goal 2 => (intros; try beta_reduce))
    | with_reducible apply kept_ite

theorem markError_kept (h : Kept F b o s) {a2 a3} (hF : Fits 226680394 F) : Kept F b o (markError s a2 a3) := by
  unfold markError
  repeat' first
    | exact hF.of rfl
    | with_reducible assumption
    | with_reducible apply State.modEnc_kept
    | with_reducible apply fbFault_kept
    | with_reducible apply fbTransient_kept
    | with_reducible apply kept_ite

theorem correctAtMark_kept (h : Kept F b o s) {a2 a3 a4 a5 a6} (hF : Fits 512 F) :
    Kept F b o (correctAtMark s a2 a3 a4 a5 a6) :=
  h.upd hF rfl rfl

theorem mark_kept (h : Kept F b o s) {a2 a3} (hF : Fits 226680394 F) : Kept F b o (mark s a2 a3) := by
  unfold mark
  repeat' first
    | exact hF.of rfl
    | with_reducible assumption
    | with_reducible apply State.modEnc_kept
    | with_reducible apply markError_kept
    | with_reducible apply record_kept
    | with_reducible apply correctAtMark_kept
    | with_reducible apply kept_ite
    | split

theorem execReferenceMark_kept (h : Kept F b o s) {a1 a2} (hF : Fits 226680394 F) :
    KeptO F b o (execReferenceMark a1 a2 s) := by
  unfold execReferenceMark
  repeat' first
    | exact hF.of rfl
    | with_reducible assumption
    | with_reducible apply mark_kept
    | with_reducible apply kept_ite
    | with_reducible apply keptO_next

theorem observe_kept (h : Kept F b o s) {a2 a3 a4 a5 a6 a7 a8} (hF : Fits 512 F) :
    Kept F b o (observe s a2 a3 a4 a5 a6 a7 a8) :=
  h.upd hF rfl rfl

theorem execAuxObserverSample_kept (h : Kept F b o s) {a1} (hF : Fits 512 F) :
    KeptO F b o (execAuxObserverSample a1 s) := by
  unfold execAuxObserverSample
  repeat' first
    | exact hF.of rfl
    | with_reducible assumption
    | with_reducible apply observe_kept
    | with_reducible apply kept_ite
    | with_reducible apply keptO_next

theorem fbHoistSample_kept (h : Kept F b o s) {a2 a3 a4} (hF : Fits 512 F) :
    Kept F b o (fbHoistSample s a2 a3 a4) := by
  unfold fbHoistSample
  repeat' first
    | exact hF.of rfl
    | with_reducible assumption
    | with_reducible apply observe_kept
    | with_reducible apply State.modCarFb_kept
    | split

theorem tripFor_kept (h : Kept F b o s) {a2 a3 a4 a5 a6} (hF : Fits 226679882 F) :
    Kept F b o (tripFor s a2 a3 a4 a5 a6) := by
  unfold tripFor
  repeat' first
    | exact hF.of rfl
    | with_reducible assumption
    | with_reducible apply raise_kept
    | with_reducible apply kept_ite

theorem ucmTrip_kept (h : Kept F b o s) {a2 a3} (hF : Fits 226679882 F) : Kept F b o (ucmTrip s a2 a3) := by
  unfold ucmTrip
  repeat' first
    | exact hF.of rfl
    | with_reducible assumption
    | with_reducible apply tripFor_kept
    | with_reducible apply State.modCarSaf_kept

theorem ucmWatch_kept (h : Kept F b o s) {a2 a3} (hF : Fits 226679882 F) : Kept F b o (ucmWatch s a2 a3) := by
  unfold ucmWatch
  repeat' first
    | exact hF.of rfl
    | with_reducible assumption
    | with_reducible apply ucmTrip_kept
    | with_reducible apply kept_ite
    | split

theorem encoderSample_kept (h : Kept F b o s) {a2} (hF : Fits 226680394 F) : Kept F b o (encoderSample s a2) := by
  unfold encoderSample
  repeat' first
    | exact hF.of rfl
    | with_reducible assumption
    | with_reducible apply sampleChan_kept
    | with_reducible apply ucmWatch_kept
    | with_reducible apply kept_ite
    | with_reducible apply kept_ite_fst
    | (with_reducible apply forEach_kept; on_goal 2 => intros)
    | (intro x; subst x)
    | (with_reducible apply foldl_kept; on_goal 2 => intros)
    | (with_reducible apply foldl_fst_kept; on_goal 2 => intros)
    | lift_lets
    | split
    | (with_reducible refine kept_fst ‹_ = (_, _)› ?_)
    | (apply Kept.gen; dsimp -zeta only; on_goal 2 => (intro y e hy; rw [e]; exact hy.upd hF rfl rfl))

theorem execEncoderSample_kept (h : Kept F b o s) {a1} (hF : Fits 226680394 F) :
    KeptO F b o (execEncoderSample a1 s) := by
  unfold execEncoderSample
  repeat' first
    | exact hF.of rfl
    | with_reducible assumption
    | with_reducible apply encoderSample_kept
    | with_reducible apply kept_ite
    | with_reducible apply keptO_ite
    | exact keptO_fault
    | with_reducible apply keptO_next

theorem anchorIsland_kept (h : Kept F b o s) {a2 a3} (hF : Fits 131072 F) : Kept F b o (anchorIsland s a2 a3) := by
  unfold anchorIsland
  repeat' first
    | exact hF.of rfl
    | with_reducible assumption
    | with_reducible apply State.modCarSaf_kept
    | with_reducible apply kept_ite

theorem anchorAt_kept (h : Kept F b o s) {a2 a3 a4} (hF : Fits 131584 F) : Kept F b o (anchorAt s a2 a3 a4) := by
  unfold anchorAt
  repeat' first
    | exact hF.of rfl
    | with_reducible assumption
    | with_reducible apply anchorIsland_kept
    | with_reducible apply State.modCarFb_kept
    | with_reducible apply State.modEnc_kept
    | (intro x; subst x)
    | lift_lets
    | split

theorem slipCheck_kept (h : Kept F b o s) {a2 a3 a4} (hF : Fits 226680394 F) : Kept F b o (slipCheck s a2 a3 a4) := by
  unfold slipCheck
  repeat' first
    | exact hF.of rfl
    | with_reducible assumption
    | with_reducible apply State.modCarFb_kept
    | with_reducible apply raise_kept
    | with_reducible apply kept_ite

theorem fuse_kept (h : Kept F b o s) {a2 a3 a4} (hF : Fits 226680394 F) : Kept F b o (fuse s a2 a3 a4) := by
  unfold fuse
  repeat' first
    | exact hF.of rfl
    | with_reducible assumption
    | with_reducible apply State.modCarFb_kept
    | with_reducible apply anchorAt_kept
    | with_reducible apply slipCheck_kept
    | with_reducible apply kept_ite

theorem ssiFrame_kept (h : Kept F b o s) {a2 a3 a4 a5 a6} (hF : Fits 226680394 F) :
    Kept F b o (ssiFrame s a2 a3 a4 a5 a6) := by
  unfold ssiFrame
  repeat' first
    | exact hF.of rfl
    | with_reducible assumption
    | with_reducible apply judgeRepeat_kept
    | with_reducible apply State.modSsi_kept
    | with_reducible apply fuse_kept
    | with_reducible apply ucmWatch_kept
    | with_reducible apply State.modCarFb_kept
    | with_reducible apply kept_ite
    | with_reducible apply kept_ite_fst
    | (with_reducible apply forEach_kept; on_goal 2 => intros)
    | (intro x; subst x)
    | (with_reducible apply foldl_kept; on_goal 2 => intros)
    | (with_reducible apply foldl_fst_kept; on_goal 2 => intros)
    | lift_lets
    | split

theorem ssiGap_kept (h : Kept F b o s) {a2} (hF : Fits 226680394 F) : Kept F b o (ssiGap s a2) := by
  unfold ssiGap
  repeat' first
    | exact hF.of rfl
    | with_reducible assumption
    | with_reducible apply State.modSsi_kept
    | with_reducible apply judgeRepeat_kept
    | with_reducible apply kept_ite

theorem execSsiFrameReceived_kept (h : Kept F b o s) {a1 a2 a3 a4 a5} (hF : Fits 226680394 F) :
    KeptO F b o (execSsiFrameReceived a1 a2 a3 a4 a5 s) := by
  unfold execSsiFrameReceived
  repeat' first
    | exact hF.of rfl
    | with_reducible assumption
    | with_reducible apply ssiFrame_kept
    | with_reducible apply kept_ite
    | with_reducible apply kept_ite_fst
    | with_reducible apply keptO_ite
    | exact keptO_fault
    | with_reducible apply keptO_next

theorem execSsiClockAbsent_kept (h : Kept F b o s) {a1} (hF : Fits 226680394 F) :
    KeptO F b o (execSsiClockAbsent a1 s) := by
  unfold execSsiClockAbsent
  repeat' first
    | exact hF.of rfl
    | with_reducible assumption
    | with_reducible apply raise_kept
    | with_reducible apply State.modSsi_kept
    | with_reducible apply kept_ite
    | with_reducible apply keptO_next

theorem actPositionRead_kept (h : Kept F b o s) {a1 a2 a3} (hF : Fits 4294967296 F) :
    Kept F b o (actPositionRead a1 a2 a3 s) := by
  unfold actPositionRead
  repeat' first
    | exact hF.of rfl
    | with_reducible assumption
    | (with_reducible apply serve_kept; on_goal 2 => (intros; try beta_reduce))

theorem execPositionRead_kept (h : Kept F b o s) {a1 a2 a3} (hF : Fits 4362076160 F) :
    KeptO F b o (execPositionRead a1 a2 a3 s) := by
  unfold execPositionRead
  repeat' first
    | exact hF.of rfl
    | with_reducible assumption
    | (with_reducible apply hostRow_kept; on_goal 2 => (intros; try beta_reduce))
    | with_reducible apply actPositionRead_kept

/-! ### Loops -/

theorem advanceInj_kept (h : Kept F b o s) {a2 a3} (hF : Fits 67109888 F) : Kept F b o (advanceInj s a2 a3) := by
  unfold advanceInj
  repeat' first
    | exact hF.of rfl
    | with_reducible assumption
    | with_reducible apply State.modCap_kept
    | with_reducible apply State.modInj_kept
    | with_reducible apply endInj_kept
    | with_reducible apply kept_ite
    | (with_reducible apply forEach_kept; on_goal 2 => intros)

theorem satEvents_kept (h : Kept F b o s) {a2 a3 a4} (hF : Fits 67109888 F) : Kept F b o (satEvents s a2 a3 a4) := by
  unfold satEvents
  repeat' first
    | exact hF.of rfl
    | with_reducible assumption
    | with_reducible apply State.modLoop_kept
    | with_reducible apply event_kept
    | with_reducible apply kept_ite

theorem takeBank_kept (h : Kept F b o s) {a2 a3} (hF : Fits 67109888 F) : Kept F b o (takeBank s a2 a3) := by
  unfold takeBank
  repeat' first
    | exact hF.of rfl
    | with_reducible assumption
    | with_reducible apply State.modLoop_kept
    | with_reducible apply satEvents_kept

theorem swapAt_kept (h : Kept F b o s) {a2} (hF : Fits 67109888 F) : Kept F b o (swapAt s a2) := by
  unfold swapAt
  repeat' first
    | exact hF.of rfl
    | with_reducible assumption
    | with_reducible apply takeBank_kept
    | lift_lets
    | split
    | (apply Kept.gen; dsimp -zeta only; on_goal 2 => (intro y e hy; rw [e]; exact hy.upd hF rfl rfl))

theorem heldSample_kept (h : Kept F b o s) {a2} (hF : Fits 67109888 F) : Kept F b o (heldSample s a2) := by
  unfold heldSample
  repeat' first
    | exact hF.of rfl
    | with_reducible assumption
    | with_reducible apply endInjOn_kept
    | with_reducible apply State.modLoop_kept

theorem runSample_kept (h : Kept F b o s) {a2 a3 a4} (hF : Fits 67109888 F) : Kept F b o (runSample s a2 a3 a4) := by
  unfold runSample
  repeat' first
    | exact hF.of rfl
    | with_reducible assumption
    | with_reducible apply State.modLoop_kept
    | with_reducible apply advanceInj_kept
    | with_reducible apply satEvents_kept

theorem sourceLost_kept (h : Kept F b o s) {a2 a3 a4} (hF : Fits 67109888 F) :
    Kept F b o (sourceLost s a2 a3 a4) := by
  unfold sourceLost
  repeat' first
    | exact hF.of rfl
    | with_reducible assumption
    | with_reducible apply record_kept
    | with_reducible apply State.modLoop_kept
    | with_reducible apply kept_ite

theorem loopStep_kept (h : Kept F b o s) {a2 a3} (hF : Fits 67109888 F) : Kept F b o (loopStep s a2 a3) := by
  unfold loopStep
  repeat' first
    | exact hF.of rfl
    | with_reducible assumption
    | with_reducible apply swapAt_kept
    | with_reducible apply sourceLost_kept
    | with_reducible apply heldSample_kept
    | with_reducible apply runSample_kept
    | with_reducible apply kept_ite
    | with_reducible apply kept_ite_fst
    | (with_reducible apply forEach_kept; on_goal 2 => intros)
    | (extract_lets x; refine cut (P := Kept F b o x) ?_ fun hx => ?_
       (on_goal 2 => clear_value x); (on_goal 1 => subst x))
    | (extract_lets x; refine cut (P := Kept F b o x.1) ?_ fun hx => ?_
       (on_goal 2 => clear_value x); (on_goal 1 => subst x))
    | (extract_lets x; clear_value x)
    | (with_reducible apply foldl_kept; on_goal 2 => intros)
    | (with_reducible apply foldl_fst_kept; on_goal 2 => intros)
    | split

theorem endCapture_kept (h : Kept F b o s) {a2} (hF : Fits 67109888 F) : Kept F b o (endCapture s a2) := by
  unfold endCapture
  repeat' first
    | exact hF.of rfl
    | with_reducible assumption
    | with_reducible apply event_kept
    | with_reducible apply State.modCap_kept

theorem captureStep_kept (h : Kept F b o s) {a2} (hF : Fits 67109888 F) : Kept F b o (captureStep s a2) := by
  unfold captureStep
  repeat' first
    | exact hF.of rfl
    | with_reducible assumption
    | with_reducible apply State.modCap_kept
    | with_reducible apply endCapture_kept
    | with_reducible apply kept_ite

theorem deliver_kept (h : Kept F b o s) {a2} (hF : Fits 1050624 F) : Kept F b o (deliver s a2) := by
  unfold deliver
  repeat' first
    | exact hF.of rfl
    | with_reducible assumption
    | with_reducible apply State.modHoist_kept
    | with_reducible apply State.modPoint_kept
    | with_reducible apply kept_ite

theorem sampleLoop_kept (h : Kept F b o s) {a2 a3} (hF : Fits 68160512 F) : Kept F b o (sampleLoop s a2 a3) := by
  unfold sampleLoop
  repeat' first
    | exact hF.of rfl
    | with_reducible assumption
    | with_reducible apply endInjOn_kept
    | with_reducible apply captureStep_kept
    | with_reducible apply deliver_kept
    | with_reducible apply loopStep_kept
    | with_reducible apply kept_ite
    | with_reducible apply kept_ite_fst
    | (with_reducible apply forEach_kept; on_goal 2 => intros)
    | (extract_lets x; refine cut (P := Kept F b o x) ?_ fun hx => ?_
       (on_goal 2 => clear_value x); (on_goal 1 => subst x))
    | (extract_lets x; refine cut (P := Kept F b o x.1) ?_ fun hx => ?_
       (on_goal 2 => clear_value x); (on_goal 1 => subst x))
    | (extract_lets x; clear_value x)
    | (with_reducible apply foldl_kept; on_goal 2 => intros)
    | (with_reducible apply foldl_fst_kept; on_goal 2 => intros)
    | split
    | (with_reducible refine kept_fst ‹_ = (_, _)› ?_)
    | (apply Kept.gen; dsimp -zeta only; on_goal 2 => (intro y e hy; rw [e]; exact hy.upd hF rfl rfl))

theorem waitLoop_kept (h : Kept F b o s) {a2 a3} (hF : Fits 1024 F) :
    Kept F b o (waitLoop s a2 a3) :=
  h.upd hF rfl rfl

theorem releaseLoops_kept (h : Kept F b o s) {n} (hF : Fits 68160512 F) : Kept F b o (releaseLoops n s) := by
  induction n generalizing s with
  | zero => exact h
  | succ n ih =>
    unfold releaseLoops
    split
    · exact h
    · refine ih (sampleLoop_kept ?_ (hF.of rfl))
      exact h.upd hF rfl rfl

theorem pullChain_kept (h : Kept F b o s) {n l} (hF : Fits 68160512 F) : Kept F b o (pullChain n s l) := by
  induction n generalizing s l with
  | zero => exact h
  | succ n ih =>
    unfold pullChain
    refine forEach_kept h fun s r h => kept_ite ?_ h
    extract_lets s1 k s2
    have h1 : Kept F b o s1 := ih h
    clear_value s1
    have h2 : Kept F b o s2 := h1.upd hF rfl rfl
    clear_value s2
    exact kept_ite (sampleLoop_kept h2 (hF.of rfl)) (waitLoop_kept h2 (hF.of rfl))

theorem loopSample_kept (h : Kept F b o s) {a2 a3} (hF : Fits 68160512 F) : Kept F b o (loopSample s a2 a3) := by
  unfold loopSample
  repeat' first
    | exact hF.of rfl
    | with_reducible assumption
    | with_reducible apply pullChain_kept
    | with_reducible apply releaseLoops_kept
    | with_reducible apply sampleLoop_kept
    | with_reducible apply waitLoop_kept
    | with_reducible apply kept_ite
    | with_reducible apply kept_ite_fst
    | (with_reducible apply forEach_kept; on_goal 2 => intros)
    | (extract_lets x; refine cut (P := Kept F b o x) ?_ fun hx => ?_
       (on_goal 2 => clear_value x); (on_goal 1 => subst x))
    | (extract_lets x; refine cut (P := Kept F b o x.1) ?_ fun hx => ?_
       (on_goal 2 => clear_value x); (on_goal 1 => subst x))
    | (extract_lets x; clear_value x)
    | (with_reducible apply foldl_kept; on_goal 2 => intros)
    | (with_reducible apply foldl_fst_kept; on_goal 2 => intros)
    | split
    | (with_reducible refine kept_fst ‹_ = (_, _)› ?_)
    | (apply Kept.gen; dsimp -zeta only; on_goal 2 => (intro y e hy; rw [e]; exact hy.upd hF rfl rfl))

theorem execCaptureTimeout_kept (h : Kept F b o s) (hF : Fits 67109888 F) : KeptO F b o (execCaptureTimeout s) := by
  unfold execCaptureTimeout
  repeat' first
    | exact hF.of rfl
    | with_reducible assumption
    | with_reducible apply endCapture_kept
    | with_reducible apply kept_ite
    | with_reducible apply keptO_next

theorem execInjectionTimeout_kept (h : Kept F b o s) {a1} (hF : Fits 67109888 F) :
    KeptO F b o (execInjectionTimeout a1 s) := by
  unfold execInjectionTimeout
  repeat' first
    | exact hF.of rfl
    | with_reducible assumption
    | with_reducible apply endInj_kept
    | with_reducible apply kept_ite
    | with_reducible apply keptO_next

theorem plausSample_kept (h : Kept F b o s) {a2 a3 a4 a5} (hF : Fits 226679882 F) :
    Kept F b o (plausSample s a2 a3 a4 a5) := by
  unfold plausSample
  repeat' first
    | exact hF.of rfl
    | with_reducible assumption
    | with_reducible apply State.modPlaus_kept
    | with_reducible apply raise_kept
    | with_reducible apply kept_ite

theorem execPersistentAnomaly_kept (h : Kept F b o s) {a1} (hF : Fits 226679882 F) :
    KeptO F b o (execPersistentAnomaly a1 s) := by
  unfold execPersistentAnomaly
  repeat' first
    | exact hF.of rfl
    | with_reducible assumption
    | with_reducible apply raise_kept
    | with_reducible apply kept_ite
    | with_reducible apply keptO_next

theorem moveFromLane_kept (h : Kept F b o s) {a2} (hF : Fits 2147483648 F) : Kept F b o (moveFromLane s a2) := by
  unfold moveFromLane
  repeat' first
    | exact hF.of rfl
    | with_reducible assumption
    | with_reducible apply kept_ite
    | with_reducible apply kept_ite_fst
    | (with_reducible apply forEach_kept; on_goal 2 => intros)
    | (extract_lets x; refine cut (P := Kept F b o x) ?_ fun hx => ?_
       (on_goal 2 => clear_value x); (on_goal 1 => subst x))
    | (extract_lets x; refine cut (P := Kept F b o x.1) ?_ fun hx => ?_
       (on_goal 2 => clear_value x); (on_goal 1 => subst x))
    | (extract_lets x; subst x)
    | (with_reducible apply foldl_kept; on_goal 2 => intros)
    | (with_reducible apply foldl_fst_kept; on_goal 2 => intros)
    | split
    | (with_reducible refine kept_fst ‹_ = (_, _)› ?_)
    | (apply Kept.gen; dsimp -zeta only; on_goal 2 => (intro y e hy; rw [e]; exact hy.upd hF rfl rfl))

theorem loseLane_kept (h : Kept F b o s) {a2 a3} (hF : Fits 2348997632 F) : Kept F b o (loseLane s a2 a3) := by
  unfold loseLane
  repeat' first
    | exact hF.of rfl
    | with_reducible assumption
    | with_reducible apply moveFromLane_kept
    | with_reducible apply carTrip_kept
    | with_reducible apply carReact_kept
    | with_reducible apply kept_ite
    | with_reducible apply kept_ite_fst
    | (with_reducible apply forEach_kept; on_goal 2 => intros)

theorem reallocate_kept (h : Kept F b o s) (hF : Fits 2147483648 F) : Kept F b o (reallocate s) := h.upd hF rfl rfl

theorem loopCommitted_kept (h : Kept F b o s) {a2 a3} (hF : Fits 67109888 F) :
    Kept F b o (loopCommitted s a2 a3) := by
  unfold loopCommitted
  repeat' first
    | exact hF.of rfl
    | with_reducible assumption
    | with_reducible apply endInjOn_kept
    | with_reducible apply endCapture_kept
    | with_reducible apply State.modLoop_kept
    | with_reducible apply kept_ite

theorem actLoopConfigWrite_kept (h : Kept F b o s) {a1 a2 a3} (hF : Fits 6442450944 F) :
    Kept F b o (actLoopConfigWrite a1 a2 a3 s) := by
  unfold actLoopConfigWrite
  repeat' first
    | exact hF.of rfl
    | with_reducible assumption
    | (with_reducible apply serve_kept; on_goal 2 => (intros; try beta_reduce))
    | with_reducible apply stageEntries_kept

theorem execLoopConfigWrite_kept (h : Kept F b o s) {a1 a2 a3} (hF : Fits 6509559808 F) :
    KeptO F b o (execLoopConfigWrite a1 a2 a3 s) := by
  unfold execLoopConfigWrite
  repeat' first
    | exact hF.of rfl
    | with_reducible assumption
    | (with_reducible apply hostRow_kept; on_goal 2 => (intros; try beta_reduce))
    | with_reducible apply actLoopConfigWrite_kept

theorem stageBank_kept (h : Kept F b o s) {a2 a3 a4 a5 a6 a7 a8} (hF : Fits 1024 F) :
    Kept F b o (stageBank s a2 a3 a4 a5 a6 a7 a8).1 := by
  unfold stageBank
  repeat' first
    | exact hF.of rfl
    | with_reducible assumption
    | with_reducible apply State.modLoop_kept
    | with_reducible apply kept_ite_fst

theorem actLoopCoeffStage_kept (h : Kept F b o s) {a1 a2 a3 a4 a5 a6 a7 a8} (hF : Fits 4294968320 F) :
    Kept F b o (actLoopCoeffStage a1 a2 a3 a4 a5 a6 a7 a8 s) := by
  unfold actLoopCoeffStage
  repeat' first
    | exact hF.of rfl
    | with_reducible assumption
    | (with_reducible apply serve_kept; on_goal 2 => (intros; try beta_reduce))
    | with_reducible apply stageBank_kept

theorem execLoopCoeffStage_kept (h : Kept F b o s) {a1 a2 a3 a4 a5 a6 a7 a8} (hF : Fits 4362077184 F) :
    KeptO F b o (execLoopCoeffStage a1 a2 a3 a4 a5 a6 a7 a8 s) := by
  unfold execLoopCoeffStage
  repeat' first
    | exact hF.of rfl
    | with_reducible assumption
    | (with_reducible apply hostRow_kept; on_goal 2 => (intros; try beta_reduce))
    | with_reducible apply actLoopCoeffStage_kept
    | with_reducible apply keptO_ite
    | exact keptO_fault

theorem startSwap_kept (h : Kept F b o s) {a2 a3 a4} (hF : Fits 4294968320 F) :
    Kept F b o (startSwap s a2 a3 a4) := by
  unfold startSwap
  repeat' first
    | exact hF.of rfl
    | with_reducible assumption
    | with_reducible apply answer_kept
    | with_reducible apply kept_ite
    | (apply Kept.gen; dsimp -zeta only; on_goal 2 => (intro y e hy; rw [e]; exact hy.upd hF rfl rfl))

theorem actLoopCoeffSwap_kept (h : Kept F b o s) {a1 a2 a3} (hF : Fits 4294968320 F) :
    Kept F b o (actLoopCoeffSwap a1 a2 a3 s) := by
  unfold actLoopCoeffSwap
  repeat' first
    | exact hF.of rfl
    | with_reducible assumption
    | with_reducible apply answer_kept
    | with_reducible apply startSwap_kept
    | split

theorem execLoopCoeffSwap_kept (h : Kept F b o s) {a1 a2 a3} (hF : Fits 4362077184 F) :
    KeptO F b o (execLoopCoeffSwap a1 a2 a3 s) := by
  unfold execLoopCoeffSwap
  repeat' first
    | exact hF.of rfl
    | with_reducible assumption
    | (with_reducible apply hostRow_kept; on_goal 2 => (intros; try beta_reduce))
    | with_reducible apply actLoopCoeffSwap_kept

theorem actLoopCoeffSwapReset_kept (h : Kept F b o s) {a1 a2 a3} (hF : Fits 4294968320 F) :
    Kept F b o (actLoopCoeffSwapReset a1 a2 a3 s) := by
  unfold actLoopCoeffSwapReset
  repeat' first
    | exact hF.of rfl
    | with_reducible assumption
    | with_reducible apply answer_kept
    | with_reducible apply startSwap_kept
    | split

theorem execLoopCoeffSwapReset_kept (h : Kept F b o s) {a1 a2 a3} (hF : Fits 4362077184 F) :
    KeptO F b o (execLoopCoeffSwapReset a1 a2 a3 s) := by
  unfold execLoopCoeffSwapReset
  repeat' first
    | exact hF.of rfl
    | with_reducible assumption
    | (with_reducible apply hostRow_kept; on_goal 2 => (intros; try beta_reduce))
    | with_reducible apply actLoopCoeffSwapReset_kept

theorem swapBoundary_kept (h : Kept F b o s) (hF : Fits 67109888 F) : Kept F b o (swapBoundary s) := by
  unfold swapBoundary
  repeat' first
    | exact hF.of rfl
    | with_reducible assumption
    | with_reducible apply swapAt_kept
    | (with_reducible apply forEach_kept; on_goal 2 => intros)
    | split
    | (apply Kept.gen; dsimp -zeta only; on_goal 2 => (intro y e hy; rw [e]; exact hy.upd hF rfl rfl))

theorem swapDone_kept (h : Kept F b o s) (hF : Fits 4362077184 F) : Kept F b o (swapDone s) := by
  unfold swapDone
  repeat' first
    | exact hF.of rfl
    | with_reducible assumption
    | with_reducible apply event_kept
    | with_reducible apply answer_kept
    | with_reducible apply kept_ite
    | with_reducible apply kept_ite_fst
    | (with_reducible apply forEach_kept; on_goal 2 => intros)
    | (intro x; subst x)
    | (with_reducible apply foldl_kept; on_goal 2 => intros)
    | (with_reducible apply foldl_fst_kept; on_goal 2 => intros)
    | lift_lets
    | split
    | (with_reducible refine kept_fst ‹_ = (_, _)› ?_)
    | (apply Kept.gen; dsimp -zeta only; on_goal 2 => (intro y e hy; rw [e]; exact hy.upd hF rfl rfl))

theorem startInj_kept (h : Kept F b o s) {a2 a3 a4} (hF : Fits 2214593536 F) :
    Kept F b o (startInj s a2 a3 a4).1 := by
  unfold startInj
  repeat' first
    | exact hF.of rfl
    | with_reducible assumption
    | with_reducible apply State.latch'_kept
    | with_reducible apply event_kept
    | with_reducible apply State.modInj_kept
    | with_reducible apply kept_ite
    | with_reducible apply kept_ite_fst

theorem actInjectStart_kept (h : Kept F b o s) {a1 a2 a3 a4 a5 a6 a7 a8 a9 a10} (hF : Fits 6509560832 F) :
    Kept F b o (actInjectStart a1 a2 a3 a4 a5 a6 a7 a8 a9 a10 s) := by
  unfold actInjectStart
  repeat' first
    | exact hF.of rfl
    | with_reducible assumption
    | (with_reducible apply serve_kept; on_goal 2 => (intros; try beta_reduce))
    | with_reducible apply startInj_kept

theorem execInjectStart_kept (h : Kept F b o s) {a1 a2 a3 a4 a5 a6 a7 a8 a9 a10} (hF : Fits 6509560832 F) :
    KeptO F b o (execInjectStart a1 a2 a3 a4 a5 a6 a7 a8 a9 a10 s) := by
  unfold execInjectStart
  repeat' first
    | exact hF.of rfl
    | with_reducible assumption
    | (with_reducible apply hostRow_kept; on_goal 2 => (intros; try beta_reduce))
    | with_reducible apply actInjectStart_kept

theorem actInjectStop_kept (h : Kept F b o s) {a1 a2 a3} (hF : Fits 4362077184 F) :
    Kept F b o (actInjectStop a1 a2 a3 s) := by
  unfold actInjectStop
  repeat' first
    | exact hF.of rfl
    | with_reducible assumption
    | (with_reducible apply serve_kept; on_goal 2 => (intros; try beta_reduce))
    | with_reducible apply endInj_kept
    | with_reducible apply kept_ite
    | (with_reducible apply forEach_kept; on_goal 2 => intros)

theorem execInjectStop_kept (h : Kept F b o s) {a1 a2 a3} (hF : Fits 4362077184 F) :
    KeptO F b o (execInjectStop a1 a2 a3 s) := by
  unfold execInjectStop
  repeat' first
    | exact hF.of rfl
    | with_reducible assumption
    | (with_reducible apply hostRow_kept; on_goal 2 => (intros; try beta_reduce))
    | with_reducible apply actInjectStop_kept

theorem armCapture_kept (h : Kept F b o s) {a2} (hF : Fits 67109888 F) : Kept F b o (armCapture s a2).1 := by
  unfold armCapture
  repeat' first
    | exact hF.of rfl
    | with_reducible assumption
    | with_reducible apply endCapture_kept
    | with_reducible apply State.modCap_kept
    | with_reducible apply kept_ite
    | with_reducible apply kept_ite_fst

theorem actCaptureArm_kept (h : Kept F b o s) {a1 a2 a3 a4 a5 a6 a7 a8 a9 a10 a11} (hF : Fits 4362077184 F) :
    Kept F b o (actCaptureArm a1 a2 a3 a4 a5 a6 a7 a8 a9 a10 a11 s) := by
  unfold actCaptureArm
  repeat' first
    | exact hF.of rfl
    | with_reducible assumption
    | (with_reducible apply serve_kept; on_goal 2 => (intros; try beta_reduce))
    | with_reducible apply armCapture_kept

theorem execCaptureArm_kept (h : Kept F b o s) {a1 a2 a3 a4 a5 a6 a7 a8 a9 a10 a11} (hF : Fits 4362077184 F) :
    KeptO F b o (execCaptureArm a1 a2 a3 a4 a5 a6 a7 a8 a9 a10 a11 s) := by
  unfold execCaptureArm
  repeat' first
    | exact hF.of rfl
    | with_reducible assumption
    | (with_reducible apply hostRow_kept; on_goal 2 => (intros; try beta_reduce))
    | with_reducible apply actCaptureArm_kept
    | with_reducible apply keptO_ite
    | exact keptO_fault

theorem actCaptureRead_kept (h : Kept F b o s) {a1 a2 a3 a4 a5} (hF : Fits 4294967296 F) :
    Kept F b o (actCaptureRead a1 a2 a3 a4 a5 s) := by
  unfold actCaptureRead
  repeat' first
    | exact hF.of rfl
    | with_reducible assumption
    | (with_reducible apply serve_kept; on_goal 2 => (intros; try beta_reduce))

theorem execCaptureRead_kept (h : Kept F b o s) {a1 a2 a3 a4 a5} (hF : Fits 4362076160 F) :
    KeptO F b o (execCaptureRead a1 a2 a3 a4 a5 s) := by
  unfold execCaptureRead
  repeat' first
    | exact hF.of rfl
    | with_reducible assumption
    | (with_reducible apply hostRow_kept; on_goal 2 => (intros; try beta_reduce))
    | with_reducible apply actCaptureRead_kept

theorem actLoopStatus_kept (h : Kept F b o s) {a1 a2} (hF : Fits 4294967296 F) :
    Kept F b o (actLoopStatus a1 a2 s) := by
  unfold actLoopStatus
  repeat' first
    | exact hF.of rfl
    | with_reducible assumption
    | (with_reducible apply serve_kept; on_goal 2 => (intros; try beta_reduce))

theorem execLoopStatus_kept (h : Kept F b o s) {a1 a2} (hF : Fits 4362076160 F) :
    KeptO F b o (execLoopStatus a1 a2 s) := by
  unfold execLoopStatus
  repeat' first
    | exact hF.of rfl
    | with_reducible assumption
    | (with_reducible apply hostRow_kept; on_goal 2 => (intros; try beta_reduce))
    | with_reducible apply actLoopStatus_kept

/-! ### Doors -/

theorem doorEvent_kept (h : Kept F b o s) {a2 a3 a4} (hF : Fits 67108864 F) : Kept F b o (doorEvent s a2 a3 a4) := by
  unfold doorEvent
  repeat' first
    | exact hF.of rfl
    | with_reducible assumption
    | with_reducible apply event_kept

theorem doorFault_kept (h : Kept F b o s) {a2 a3} (hF : Fits 226679882 F) : Kept F b o (doorFault s a2 a3) := by
  unfold doorFault
  repeat' first
    | exact hF.of rfl
    | with_reducible assumption
    | with_reducible apply raise_kept

theorem nudgeEvent_kept (h : Kept F b o s) {a2 a3} (hF : Fits 67108864 F) : Kept F b o (nudgeEvent s a2 a3) := by
  unfold nudgeEvent
  repeat' first
    | exact hF.of rfl
    | with_reducible assumption
    | with_reducible apply doorEvent_kept
    | with_reducible apply kept_ite

theorem startMove_kept (h : Kept F b o s) {a2 a3} (hF : Fits 2214596608 F) : Kept F b o (startMove s a2 a3) := by
  unfold startMove
  repeat' first
    | exact hF.of rfl
    | with_reducible assumption
    | with_reducible apply State.latch'_kept
    | with_reducible apply nudgeEvent_kept
    | with_reducible apply State.modDoor_kept

theorem replanMove_kept (h : Kept F b o s) {a2 a3} (hF : Fits 2214596608 F) : Kept F b o (replanMove s a2 a3) := by
  unfold replanMove
  repeat' first
    | exact hF.of rfl
    | with_reducible assumption
    | with_reducible apply startMove_kept
    | with_reducible apply State.modDoor_kept
    | with_reducible apply nudgeEvent_kept
    | with_reducible apply kept_ite

theorem startReferencing_kept (h : Kept F b o s) {a2} (hF : Fits 4096 F) :
    Kept F b o (startReferencing s a2) :=
  h.upd hF rfl rfl

theorem decelerate_kept (h : Kept F b o s) {a2 a3} (hF : Fits 4096 F) :
    Kept F b o (decelerate s a2 a3) :=
  h.upd hF rfl rfl

theorem redirect_kept (h : Kept F b o s) {a2 a3} (hF : Fits 4096 F) : Kept F b o (redirect s a2 a3) := by
  unfold redirect
  repeat' first
    | exact hF.of rfl
    | with_reducible assumption
    | with_reducible apply State.modDoor_kept
    | with_reducible apply decelerate_kept
    | with_reducible apply kept_ite

theorem turnByCommand_kept (h : Kept F b o s) {a2 a3} (hF : Fits 4096 F) : Kept F b o (turnByCommand s a2 a3) := by
  unfold turnByCommand
  repeat' first
    | exact hF.of rfl
    | with_reducible assumption
    | with_reducible apply State.modDoor_kept
    | with_reducible apply redirect_kept
    | with_reducible apply kept_ite

theorem reopen_kept (h : Kept F b o s) {a2 a3} (hF : Fits 4096 F) : Kept F b o (reopen s a2 a3) := by
  unfold reopen
  repeat' first
    | exact hF.of rfl
    | with_reducible assumption
    | with_reducible apply State.modDoor_kept
    | with_reducible apply redirect_kept

theorem losePosition_kept (h : Kept F b o s) {a2} (hF : Fits 226679882 F) : Kept F b o (losePosition s a2) := by
  unfold losePosition
  repeat' first
    | exact hF.of rfl
    | with_reducible assumption
    | with_reducible apply doorFault_kept
    | with_reducible apply State.modDoor_kept

theorem tableDownload_kept (h : Kept F b o s) {a2} (hF : Fits 4096 F) : Kept F b o (tableDownload s a2) := by
  unfold tableDownload
  repeat' first
    | exact hF.of rfl
    | with_reducible assumption
    | with_reducible apply State.modDoor_kept
    | with_reducible apply kept_ite

theorem adaptFriction_kept (h : Kept F b o s) {a2} (hF : Fits 4096 F) :
    Kept F b o (adaptFriction s a2) :=
  h.upd hF rfl rfl

theorem closedAndLocked_kept (h : Kept F b o s) {a2} (hF : Fits 4096 F) : Kept F b o (closedAndLocked s a2) := by
  unfold closedAndLocked
  repeat' first
    | exact hF.of rfl
    | with_reducible assumption
    | with_reducible apply tableDownload_kept
    | with_reducible apply State.modDoor_kept

theorem lockNow_kept (h : Kept F b o s) {a2} (hF : Fits 4096 F) : Kept F b o (lockNow s a2) := by
  unfold lockNow
  repeat' first
    | exact hF.of rfl
    | with_reducible assumption
    | with_reducible apply closedAndLocked_kept
    | with_reducible apply State.modDoor_kept
    | with_reducible apply adaptFriction_kept

theorem referenceNow_kept (h : Kept F b o s) {a2} (hF : Fits 67112960 F) : Kept F b o (referenceNow s a2) := by
  unfold referenceNow
  repeat' first
    | exact hF.of rfl
    | with_reducible assumption
    | with_reducible apply closedAndLocked_kept
    | with_reducible apply doorEvent_kept
    | with_reducible apply State.modDoor_kept
    | with_reducible apply kept_ite

theorem lockConfirmed_kept (h : Kept F b o s) {a2} (hF : Fits 67112960 F) : Kept F b o (lockConfirmed s a2) := by
  unfold lockConfirmed
  repeat' first
    | exact hF.of rfl
    | with_reducible assumption
    | with_reducible apply lockNow_kept
    | with_reducible apply referenceNow_kept
    | split

theorem execDoorLockConfirmed_kept (h : Kept F b o s) {a1} (hF : Fits 67112960 F) :
    KeptO F b o (execDoorLockConfirmed a1 s) := by
  unfold execDoorLockConfirmed
  repeat' first
    | exact hF.of rfl
    | with_reducible assumption
    | with_reducible apply lockConfirmed_kept
    | with_reducible apply kept_ite
    | with_reducible apply keptO_next

theorem lockTimeout_kept (h : Kept F b o s) {a2} (hF : Fits 2374163530 F) : Kept F b o (lockTimeout s a2) := by
  unfold lockTimeout
  repeat' first
    | exact hF.of rfl
    | with_reducible assumption
    | with_reducible apply doorEvent_kept
    | with_reducible apply State.modDoor_kept
    | with_reducible apply doorFault_kept
    | with_reducible apply startMove_kept
    | with_reducible apply kept_ite

theorem execDoorLockTimeout_kept (h : Kept F b o s) {a1} (hF : Fits 2374163530 F) :
    KeptO F b o (execDoorLockTimeout a1 s) := by
  unfold execDoorLockTimeout
  repeat' first
    | exact hF.of rfl
    | with_reducible assumption
    | with_reducible apply lockTimeout_kept
    | with_reducible apply kept_ite
    | with_reducible apply keptO_next

theorem execReferencingTimeout_kept (h : Kept F b o s) {a1} (hF : Fits 226679882 F) :
    KeptO F b o (execReferencingTimeout a1 s) := by
  unfold execReferencingTimeout
  repeat' first
    | exact hF.of rfl
    | with_reducible assumption
    | with_reducible apply doorFault_kept
    | with_reducible apply decelerate_kept
    | with_reducible apply kept_ite
    | with_reducible apply keptO_next

theorem execOpenRetryExpiry_kept (h : Kept F b o s) {a1} (hF : Fits 2214596608 F) :
    KeptO F b o (execOpenRetryExpiry a1 s) := by
  unfold execOpenRetryExpiry
  repeat' first
    | exact hF.of rfl
    | with_reducible assumption
    | with_reducible apply startMove_kept
    | with_reducible apply kept_ite
    | with_reducible apply keptO_next

theorem estimate_kept (h : Kept F b o s) {a2 a3} (hF : Fits 4096 F) :
    Kept F b o (estimate s a2 a3) :=
  h.upd hF rfl rfl

theorem noEstimate_kept (h : Kept F b o s) {a2} (hF : Fits 4096 F) : Kept F b o (noEstimate s a2) := h.upd hF rfl rfl

theorem resynchronise_kept (h : Kept F b o s) {a2} (hF : Fits 67112960 F) : Kept F b o (resynchronise s a2) := by
  unfold resynchronise
  repeat' first
    | exact hF.of rfl
    | with_reducible assumption
    | with_reducible apply State.modDoor_kept
    | with_reducible apply doorEvent_kept
    | with_reducible apply decelerate_kept
    | with_reducible apply reopen_kept
    | (intro x; subst x)
    | lift_lets
    | split

theorem stallCheck_kept (h : Kept F b o s) {a2} (hF : Fits 67112960 F) : Kept F b o (stallCheck s a2) := by
  unfold stallCheck
  repeat' first
    | exact hF.of rfl
    | with_reducible assumption
    | with_reducible apply State.modDoor_kept
    | with_reducible apply doorEvent_kept
    | with_reducible apply kept_ite

theorem obstCount_kept (h : Kept F b o s) {a2} (hF : Fits 4096 F) : Kept F b o (obstCount s a2).1 := by
  unfold obstCount
  repeat' first
    | exact hF.of rfl
    | with_reducible assumption
    | with_reducible apply State.modDoor_kept
    | with_reducible apply kept_ite_fst

theorem closeObst_kept (h : Kept F b o s) {a2 a3} (hF : Fits 226679882 F) : Kept F b o (closeObst s a2 a3) := by
  unfold closeObst
  repeat' first
    | exact hF.of rfl
    | with_reducible assumption
    | with_reducible apply State.modDoor_kept
    | with_reducible apply doorEvent_kept
    | with_reducible apply reopen_kept
    | with_reducible apply doorFault_kept
    | with_reducible apply kept_ite

theorem openObst_kept (h : Kept F b o s) {a2} (hF : Fits 67112960 F) : Kept F b o (openObst s a2) := by
  unfold openObst
  repeat' first
    | exact hF.of rfl
    | with_reducible assumption
    | with_reducible apply State.modDoor_kept
    | with_reducible apply doorEvent_kept
    | with_reducible apply decelerate_kept

theorem carStopDoor_kept (h : Kept F b o s) {a2} (hF : Fits 4096 F) : Kept F b o (carStopDoor s a2) := by
  unfold carStopDoor
  repeat' first
    | exact hF.of rfl
    | with_reducible assumption
    | with_reducible apply State.modDoor_kept
    | with_reducible apply redirect_kept
    | with_reducible apply kept_ite

theorem doorDemands_kept (h : Kept F b o s) {a2} (hF : Fits 226679882 F) : Kept F b o (doorDemands s a2) := by
  unfold doorDemands
  repeat' first
    | exact hF.of rfl
    | with_reducible assumption
    | with_reducible apply State.modDoor_kept
    | with_reducible apply carStopDoor_kept
    | with_reducible apply resynchronise_kept
    | with_reducible apply losePosition_kept
    | with_reducible apply stallCheck_kept
    | with_reducible apply obstCount_kept
    | with_reducible apply openObst_kept
    | with_reducible apply closeObst_kept
    | with_reducible apply doorEvent_kept
    | with_reducible apply reopen_kept
    | with_reducible apply kept_ite

theorem openFromRest_kept (h : Kept F b o s) {a2} (hF : Fits 2214596608 F) : Kept F b o (openFromRest s a2) := by
  unfold openFromRest
  repeat' first
    | exact hF.of rfl
    | with_reducible assumption
    | with_reducible apply startMove_kept
    | with_reducible apply State.modDoor_kept
    | with_reducible apply kept_ite

theorem doorNext_kept (h : Kept F b o s) {a2} (hF : Fits 2214596608 F) : Kept F b o (doorNext s a2) := by
  unfold doorNext
  repeat' first
    | exact hF.of rfl
    | with_reducible assumption
    | with_reducible apply openFromRest_kept
    | with_reducible apply startMove_kept
    | with_reducible apply startReferencing_kept
    | with_reducible apply kept_ite
    | with_reducible apply kept_ite_fst
    | (with_reducible apply forEach_kept; on_goal 2 => intros)
    | (extract_lets x; refine cut (P := Kept F b o x) ?_ fun hx => ?_
       (on_goal 2 => clear_value x); (on_goal 1 => subst x))
    | (extract_lets x; refine cut (P := Kept F b o x.1) ?_ fun hx => ?_
       (on_goal 2 => clear_value x); (on_goal 1 => subst x))
    | (extract_lets x; clear_value x)
    | (with_reducible apply foldl_kept; on_goal 2 => intros)
    | (with_reducible apply foldl_fst_kept; on_goal 2 => intros)
    | split

theorem doorArrive_kept (h : Kept F b o s) {a2 a3} (hF : Fits 4096 F) : Kept F b o (doorArrive s a2 a3) := by
  unfold doorArrive
  repeat' first
    | exact hF.of rfl
    | with_reducible assumption
    | with_reducible apply State.modDoor_kept
    | with_reducible apply lockNow_kept
    | (intro x; subst x)
    | lift_lets
    | split

theorem doorProfile_kept (h : Kept F b o s) {a2} (hF : Fits 2214596608 F) : Kept F b o (doorProfile s a2) := by
  unfold doorProfile
  repeat' first
    | exact hF.of rfl
    | with_reducible assumption
    | with_reducible apply doorNext_kept
    | with_reducible apply State.modDoor_kept
    | with_reducible apply doorArrive_kept
    | with_reducible apply kept_ite
    | with_reducible apply kept_ite_fst
    | (with_reducible apply forEach_kept; on_goal 2 => intros)
    | (extract_lets x; refine cut (P := Kept F b o x) ?_ fun hx => ?_
       (on_goal 2 => clear_value x); (on_goal 1 => subst x))
    | (extract_lets x; refine cut (P := Kept F b o x.1) ?_ fun hx => ?_
       (on_goal 2 => clear_value x); (on_goal 1 => subst x))
    | (extract_lets x; clear_value x)
    | (with_reducible apply foldl_kept; on_goal 2 => intros)
    | (with_reducible apply foldl_fst_kept; on_goal 2 => intros)
    | split

theorem doorAddress_kept (h : Kept F b o s) {a2 a3} (hF : Fits 4096 F) :
    Kept F b o (doorAddress s a2 a3) :=
  h.upd hF rfl rfl

theorem nudgePoint_kept (h : Kept F b o s) {a2} (hF : Fits 1048576 F) : Kept F b o (nudgePoint s a2) := by
  unfold nudgePoint
  repeat' first
    | exact hF.of rfl
    | with_reducible assumption
    | with_reducible apply State.modPoint_kept
    | with_reducible apply kept_ite

theorem doorSample_kept (h : Kept F b o s) {a2} (hF : Fits 2375212106 F) : Kept F b o (doorSample s a2) := by
  unfold doorSample
  repeat' first
    | exact hF.of rfl
    | with_reducible assumption
    | with_reducible apply estimate_kept
    | with_reducible apply losePosition_kept
    | with_reducible apply noEstimate_kept
    | with_reducible apply doorDemands_kept
    | with_reducible apply doorAddress_kept
    | with_reducible apply doorProfile_kept
    | with_reducible apply loopSample_kept
    | with_reducible apply nudgePoint_kept
    | with_reducible apply State.modDoor_kept
    | with_reducible apply kept_ite
    | (with_reducible apply forEach_kept; on_goal 2 => intros)
    | split

theorem doOpen_kept (h : Kept F b o s) {a2} (hF : Fits 2214596608 F) : Kept F b o (doOpen s a2) := by
  unfold doOpen
  repeat' first
    | exact hF.of rfl
    | with_reducible assumption
    | with_reducible apply turnByCommand_kept
    | with_reducible apply replanMove_kept
    | with_reducible apply redirect_kept
    | with_reducible apply openFromRest_kept
    | with_reducible apply kept_ite
    | with_reducible apply kept_ite_fst
    | (with_reducible apply forEach_kept; on_goal 2 => intros)
    | (extract_lets x; refine cut (P := Kept F b o x) ?_ fun hx => ?_
       (on_goal 2 => clear_value x); (on_goal 1 => subst x))
    | (extract_lets x; refine cut (P := Kept F b o x.1) ?_ fun hx => ?_
       (on_goal 2 => clear_value x); (on_goal 1 => subst x))
    | (extract_lets x; clear_value x)
    | (with_reducible apply foldl_kept; on_goal 2 => intros)
    | (with_reducible apply foldl_fst_kept; on_goal 2 => intros)
    | split

theorem doClose_kept (h : Kept F b o s) {a2 a3} (hF : Fits 2214596608 F) : Kept F b o (doClose s a2 a3) := by
  unfold doClose
  repeat' first
    | exact hF.of rfl
    | with_reducible assumption
    | with_reducible apply startReferencing_kept
    | with_reducible apply turnByCommand_kept
    | with_reducible apply replanMove_kept
    | with_reducible apply startMove_kept
    | with_reducible apply kept_ite
    | with_reducible apply kept_ite_fst
    | (with_reducible apply forEach_kept; on_goal 2 => intros)
    | (extract_lets x; refine cut (P := Kept F b o x) ?_ fun hx => ?_
       (on_goal 2 => clear_value x); (on_goal 1 => subst x))
    | (extract_lets x; refine cut (P := Kept F b o x.1) ?_ fun hx => ?_
       (on_goal 2 => clear_value x); (on_goal 1 => subst x))
    | (extract_lets x; clear_value x)
    | (with_reducible apply foldl_kept; on_goal 2 => intros)
    | (with_reducible apply foldl_fst_kept; on_goal 2 => intros)
    | split

theorem openTo_kept (h : Kept F b o s) {a2 a3 a4} (hF : Fits 2214596608 F) : Kept F b o (openTo s a2 a3 a4) := by
  unfold openTo
  repeat' first
    | exact hF.of rfl
    | with_reducible assumption
    | with_reducible apply doOpen_kept
    | with_reducible apply State.modDoor_kept

theorem demandOpen_kept (h : Kept F b o s) {a2 a3 a4} (hF : Fits 2214596608 F) :
    Kept F b o (demandOpen s a2 a3 a4).1 := by
  unfold demandOpen
  repeat' first
    | exact hF.of rfl
    | with_reducible assumption
    | with_reducible apply openTo_kept
    | with_reducible apply kept_ite
    | with_reducible apply kept_ite_fst

theorem demandClose_kept (h : Kept F b o s) {a2 a3 a4} (hF : Fits 2214596608 F) :
    Kept F b o (demandClose s a2 a3 a4).1 := by
  unfold demandClose
  repeat' first
    | exact hF.of rfl
    | with_reducible assumption
    | with_reducible apply State.modDoor_kept
    | with_reducible apply doClose_kept
    | with_reducible apply doorEvent_kept
    | with_reducible apply kept_ite
    | with_reducible apply kept_ite_fst

theorem doorCommand_kept (h : Kept F b o s) {a2 a3 a4 a5} (hF : Fits 2214596608 F) :
    Kept F b o (doorCommand s a2 a3 a4 a5).1 := by
  unfold doorCommand
  repeat' first
    | exact hF.of rfl
    | with_reducible assumption
    | with_reducible apply demandOpen_kept
    | with_reducible apply demandClose_kept
    | with_reducible apply openTo_kept
    | with_reducible apply State.modDoor_kept
    | with_reducible apply turnByCommand_kept
    | with_reducible apply startReferencing_kept
    | with_reducible apply kept_ite
    | with_reducible apply kept_ite_fst
    | (with_reducible apply forEach_kept; on_goal 2 => intros)
    | (extract_lets x; refine cut (P := Kept F b o x) ?_ fun hx => ?_
       (on_goal 2 => clear_value x); (on_goal 1 => subst x))
    | (extract_lets x; refine cut (P := Kept F b o x.1) ?_ fun hx => ?_
       (on_goal 2 => clear_value x); (on_goal 1 => subst x))
    | (extract_lets x; clear_value x)
    | (with_reducible apply foldl_kept; on_goal 2 => intros)
    | (with_reducible apply foldl_fst_kept; on_goal 2 => intros)
    | split

theorem actDoor_kept (h : Kept F b o s) {a1 a2 a3 a4 a5} (hF : Fits 6509563904 F) :
    Kept F b o (actDoor a1 a2 a3 a4 a5 s) := by
  unfold actDoor
  repeat' first
    | exact hF.of rfl
    | with_reducible assumption
    | (with_reducible apply serve_kept; on_goal 2 => (intros; try beta_reduce))
    | with_reducible apply doorCommand_kept
    | with_reducible apply kept_ite_fst

theorem actDoorStop_kept (h : Kept F b o s) {a1 a2 a3 a4} (hF : Fits 6509563904 F) :
    Kept F b o (actDoorStop a1 a2 a3 a4 s) := by
  unfold actDoorStop
  repeat' first
    | exact hF.of rfl
    | with_reducible assumption
    | with_reducible apply actDoor_kept

theorem execDoorStop_kept (h : Kept F b o s) {a1 a2 a3 a4} (hF : Fits 6509563904 F) :
    KeptO F b o (execDoorStop a1 a2 a3 a4 s) := by
  unfold execDoorStop
  repeat' first
    | exact hF.of rfl
    | with_reducible assumption
    | (with_reducible apply hostRow_kept; on_goal 2 => (intros; try beta_reduce))
    | with_reducible apply actDoorStop_kept

theorem actDoorOpen_kept (h : Kept F b o s) {a1 a2 a3 a4} (hF : Fits 6509563904 F) :
    Kept F b o (actDoorOpen a1 a2 a3 a4 s) := by
  unfold actDoorOpen
  repeat' first
    | exact hF.of rfl
    | with_reducible assumption
    | with_reducible apply actDoor_kept

theorem execDoorOpen_kept (h : Kept F b o s) {a1 a2 a3 a4} (hF : Fits 6509563904 F) :
    KeptO F b o (execDoorOpen a1 a2 a3 a4 s) := by
  unfold execDoorOpen
  repeat' first
    | exact hF.of rfl
    | with_reducible assumption
    | (with_reducible apply hostRow_kept; on_goal 2 => (intros; try beta_reduce))
    | with_reducible apply actDoorOpen_kept

theorem actDoorClose_kept (h : Kept F b o s) {a1 a2 a3 a4} (hF : Fits 6509563904 F) :
    Kept F b o (actDoorClose a1 a2 a3 a4 s) := by
  unfold actDoorClose
  repeat' first
    | exact hF.of rfl
    | with_reducible assumption
    | with_reducible apply actDoor_kept

theorem execDoorClose_kept (h : Kept F b o s) {a1 a2 a3 a4} (hF : Fits 6509563904 F) :
    KeptO F b o (execDoorClose a1 a2 a3 a4 s) := by
  unfold execDoorClose
  repeat' first
    | exact hF.of rfl
    | with_reducible assumption
    | (with_reducible apply hostRow_kept; on_goal 2 => (intros; try beta_reduce))
    | with_reducible apply actDoorClose_kept

theorem actDoorNudgeClose_kept (h : Kept F b o s) {a1 a2 a3 a4} (hF : Fits 6509563904 F) :
    Kept F b o (actDoorNudgeClose a1 a2 a3 a4 s) := by
  unfold actDoorNudgeClose
  repeat' first
    | exact hF.of rfl
    | with_reducible assumption
    | with_reducible apply actDoor_kept

theorem execDoorNudgeClose_kept (h : Kept F b o s) {a1 a2 a3 a4} (hF : Fits 6509563904 F) :
    KeptO F b o (execDoorNudgeClose a1 a2 a3 a4 s) := by
  unfold execDoorNudgeClose
  repeat' first
    | exact hF.of rfl
    | with_reducible assumption
    | (with_reducible apply hostRow_kept; on_goal 2 => (intros; try beta_reduce))
    | with_reducible apply actDoorNudgeClose_kept

theorem actDoorHoldOpen_kept (h : Kept F b o s) {a1 a2 a3 a4} (hF : Fits 6509563904 F) :
    Kept F b o (actDoorHoldOpen a1 a2 a3 a4 s) := by
  unfold actDoorHoldOpen
  repeat' first
    | exact hF.of rfl
    | with_reducible assumption
    | with_reducible apply actDoor_kept

theorem execDoorHoldOpen_kept (h : Kept F b o s) {a1 a2 a3 a4} (hF : Fits 6509563904 F) :
    KeptO F b o (execDoorHoldOpen a1 a2 a3 a4 s) := by
  unfold execDoorHoldOpen
  repeat' first
    | exact hF.of rfl
    | with_reducible assumption
    | (with_reducible apply hostRow_kept; on_goal 2 => (intros; try beta_reduce))
    | with_reducible apply actDoorHoldOpen_kept

theorem actDoorReleaseHold_kept (h : Kept F b o s) {a1 a2 a3 a4} (hF : Fits 6509563904 F) :
    Kept F b o (actDoorReleaseHold a1 a2 a3 a4 s) := by
  unfold actDoorReleaseHold
  repeat' first
    | exact hF.of rfl
    | with_reducible assumption
    | with_reducible apply actDoor_kept

theorem execDoorReleaseHold_kept (h : Kept F b o s) {a1 a2 a3 a4} (hF : Fits 6509563904 F) :
    KeptO F b o (execDoorReleaseHold a1 a2 a3 a4 s) := by
  unfold execDoorReleaseHold
  repeat' first
    | exact hF.of rfl
    | with_reducible assumption
    | (with_reducible apply hostRow_kept; on_goal 2 => (intros; try beta_reduce))
    | with_reducible apply actDoorReleaseHold_kept

theorem actDoorReference_kept (h : Kept F b o s) {a1 a2 a3 a4} (hF : Fits 6509563904 F) :
    Kept F b o (actDoorReference a1 a2 a3 a4 s) := by
  unfold actDoorReference
  repeat' first
    | exact hF.of rfl
    | with_reducible assumption
    | with_reducible apply actDoor_kept

theorem execDoorReference_kept (h : Kept F b o s) {a1 a2 a3 a4} (hF : Fits 6509563904 F) :
    KeptO F b o (execDoorReference a1 a2 a3 a4 s) := by
  unfold execDoorReference
  repeat' first
    | exact hF.of rfl
    | with_reducible assumption
    | (with_reducible apply hostRow_kept; on_goal 2 => (intros; try beta_reduce))
    | with_reducible apply actDoorReference_kept

theorem execNudgeTimerExpiry_kept (h : Kept F b o s) {a1} (hF : Fits 2214596608 F) :
    KeptO F b o (execNudgeTimerExpiry a1 s) := by
  unfold execNudgeTimerExpiry
  repeat' first
    | exact hF.of rfl
    | with_reducible assumption
    | with_reducible apply demandClose_kept
    | with_reducible apply kept_ite
    | with_reducible apply keptO_next

theorem execDoorDwellExpiry_kept (h : Kept F b o s) {a1} (hF : Fits 2214596608 F) :
    KeptO F b o (execDoorDwellExpiry a1 s) := by
  unfold execDoorDwellExpiry
  repeat' first
    | exact hF.of rfl
    | with_reducible assumption
    | with_reducible apply demandClose_kept
    | with_reducible apply kept_ite
    | with_reducible apply keptO_next

theorem actDoorStatus_kept (h : Kept F b o s) {a1 a2} (hF : Fits 4294967296 F) :
    Kept F b o (actDoorStatus a1 a2 s) := by
  unfold actDoorStatus
  repeat' first
    | exact hF.of rfl
    | with_reducible assumption
    | (with_reducible apply serve_kept; on_goal 2 => (intros; try beta_reduce))

theorem execDoorStatus_kept (h : Kept F b o s) {a1 a2} (hF : Fits 4362076160 F) :
    KeptO F b o (execDoorStatus a1 a2 s) := by
  unfold execDoorStatus
  repeat' first
    | exact hF.of rfl
    | with_reducible assumption
    | (with_reducible apply hostRow_kept; on_goal 2 => (intros; try beta_reduce))
    | with_reducible apply actDoorStatus_kept

theorem writeTable_kept (h : Kept F b o s) {a2 a3 a4} (hF : Fits 12288 F) : Kept F b o (writeTable s a2 a3 a4).1 := by
  unfold writeTable
  repeat' first
    | exact hF.of rfl
    | with_reducible assumption
    | with_reducible apply State.modDoorSlot_kept
    | with_reducible apply tableDownload_kept
    | with_reducible apply State.modDoor_kept
    | with_reducible apply kept_ite
    | with_reducible apply kept_ite_fst
    | (with_reducible apply forEach_kept; on_goal 2 => intros)

theorem actDoorTableWrite_kept (h : Kept F b o s) {a1 a2 a3 a4 a5} (hF : Fits 4294979584 F) :
    Kept F b o (actDoorTableWrite a1 a2 a3 a4 a5 s) := by
  unfold actDoorTableWrite
  repeat' first
    | exact hF.of rfl
    | with_reducible assumption
    | (with_reducible apply serve_kept; on_goal 2 => (intros; try beta_reduce))
    | with_reducible apply writeTable_kept

theorem execDoorTableWrite_kept (h : Kept F b o s) {a1 a2 a3 a4 a5} (hF : Fits 4362088448 F) :
    KeptO F b o (execDoorTableWrite a1 a2 a3 a4 a5 s) := by
  unfold execDoorTableWrite
  repeat' first
    | exact hF.of rfl
    | with_reducible assumption
    | (with_reducible apply hostRow_kept; on_goal 2 => (intros; try beta_reduce))
    | with_reducible apply actDoorTableWrite_kept
    | with_reducible apply keptO_ite
    | exact keptO_fault

theorem actDoorTableRead_kept (h : Kept F b o s) {a1 a2} (hF : Fits 4294967296 F) :
    Kept F b o (actDoorTableRead a1 a2 s) := by
  unfold actDoorTableRead
  repeat' first
    | exact hF.of rfl
    | with_reducible assumption
    | (with_reducible apply serve_kept; on_goal 2 => (intros; try beta_reduce))

theorem execDoorTableRead_kept (h : Kept F b o s) {a1 a2} (hF : Fits 4362076160 F) :
    KeptO F b o (execDoorTableRead a1 a2 s) := by
  unfold execDoorTableRead
  repeat' first
    | exact hF.of rfl
    | with_reducible assumption
    | (with_reducible apply hostRow_kept; on_goal 2 => (intros; try beta_reduce))
    | with_reducible apply actDoorTableRead_kept

theorem crcConfirm_kept (h : Kept F b o s) {a2 a3} (hF : Fits 226679882 F) : Kept F b o (crcConfirm s a2 a3) := by
  unfold crcConfirm
  repeat' first
    | exact hF.of rfl
    | with_reducible assumption
    | with_reducible apply State.modDoor_kept
    | with_reducible apply referenceNow_kept
    | with_reducible apply doorFault_kept
    | with_reducible apply kept_ite

theorem execTableCrcConfirm_kept (h : Kept F b o s) {a1 a2} (hF : Fits 226679882 F) :
    KeptO F b o (execTableCrcConfirm a1 a2 s) := by
  unfold execTableCrcConfirm
  repeat' first
    | exact hF.of rfl
    | with_reducible assumption
    | with_reducible apply crcConfirm_kept
    | with_reducible apply kept_ite
    | with_reducible apply keptO_next

theorem downloadNow_kept (h : Kept F b o s) {a2} (hF : Fits 4096 F) :
    Kept F b o (downloadNow s a2) :=
  h.upd hF rfl rfl

theorem adoptTables_kept (h : Kept F b o s) {old} (hF : Fits 4096 F) : Kept F b o (adoptTables old s) := by
  unfold adoptTables
  refine forEach_kept h fun s d h => ?_
  exact kept_ite (kept_ite (downloadNow_kept h (hF.of rfl)) h)
    (kept_ite (tableDownload_kept (State.modDoor_kept h (hF.of rfl)) (hF.of rfl)) h)

/-! ### Hoist -/

theorem setDem_kept (h : Kept F b o s) {a2 a3} (hF : Fits 2048 F) : Kept F b o (setDem s a2 a3) := h.upd hF rfl rfl

theorem requestMove_kept (h : Kept F b o s) {a2 a3 a4 a5 a6} (hF : Fits 2048 F) :
    Kept F b o (requestMove s a2 a3 a4 a5 a6) :=
  h.upd hF rfl rfl

theorem startSequence_kept (h : Kept F b o s) {a2} (hF : Fits 2147487232 F) : Kept F b o (startSequence s a2) := by
  unfold startSequence
  repeat' first
    | exact hF.of rfl
    | with_reducible assumption
    | with_reducible apply State.latch'_kept
    | with_reducible apply State.modHoist_kept
    | with_reducible apply State.modCarFb_kept
    | with_reducible apply State.modPlaus_kept

theorem checkReady_kept (h : Kept F b o s) {a2} (hF : Fits 2048 F) : Kept F b o (checkReady s a2) := by
  unfold checkReady
  repeat' first
    | exact hF.of rfl
    | with_reducible assumption
    | with_reducible apply State.modHoist_kept
    | with_reducible apply kept_ite

theorem liftBrakes_kept (h : Kept F b o s) {a2} (hF : Fits 2048 F) : Kept F b o (liftBrakes s a2) := h.upd hF rfl rfl

theorem beginRun_kept (h : Kept F b o s) {a2} (hF : Fits 2048 F) : Kept F b o (beginRun s a2) := by
  unfold beginRun
  repeat' first
    | exact hF.of rfl
    | with_reducible assumption
    | with_reducible apply State.modHoist_kept
    | with_reducible apply kept_ite

theorem abandonStart_kept (h : Kept F b o s) {a2} (hF : Fits 2048 F) :
    Kept F b o (abandonStart s a2) :=
  h.upd hF rfl rfl

theorem settleExpiry_kept (h : Kept F b o s) {a2} (hF : Fits 2048 F) : Kept F b o (settleExpiry s a2) := by
  unfold settleExpiry
  repeat' first
    | exact hF.of rfl
    | with_reducible assumption
    | with_reducible apply State.modHoist_kept
    | with_reducible apply beginRun_kept
    | with_reducible apply liftBrakes_kept
    | with_reducible apply kept_ite

theorem execPretorqueSettleExpiry_kept (h : Kept F b o s) {a1} (hF : Fits 2048 F) :
    KeptO F b o (execPretorqueSettleExpiry a1 s) := by
  unfold execPretorqueSettleExpiry
  repeat' first
    | exact hF.of rfl
    | with_reducible assumption
    | with_reducible apply settleExpiry_kept
    | with_reducible apply kept_ite
    | with_reducible apply keptO_next

theorem execBrakesOpenConfirmed_kept (h : Kept F b o s) {a1} (hF : Fits 2048 F) :
    KeptO F b o (execBrakesOpenConfirmed a1 s) := by
  unfold execBrakesOpenConfirmed
  repeat' first
    | exact hF.of rfl
    | with_reducible assumption
    | with_reducible apply beginRun_kept
    | with_reducible apply kept_ite
    | with_reducible apply keptO_next

theorem execStartTimeout_kept (h : Kept F b o s) {a1} (hF : Fits 226679882 F) :
    KeptO F b o (execStartTimeout a1 s) := by
  unfold execStartTimeout
  repeat' first
    | exact hF.of rfl
    | with_reducible assumption
    | with_reducible apply raise_kept
    | with_reducible apply abandonStart_kept
    | with_reducible apply kept_ite
    | with_reducible apply keptO_next

theorem abortLearn_kept (h : Kept F b o s) {a2 a3} (hF : Fits 67116032 F) : Kept F b o (abortLearn s a2 a3) := by
  unfold abortLearn
  repeat' first
    | exact hF.of rfl
    | with_reducible assumption
    | with_reducible apply State.modHoist_kept
    | with_reducible apply State.requestStop_kept
    | with_reducible apply record_kept
    | with_reducible apply kept_ite

theorem learned_kept (h : Kept F b o s) {l : Tbl Int} {p : Params} (hF : Fits 3288341504 F) :
    Kept F b o { s with params := { s.params with learned := l, staged := p } } := h.upd hF rfl rfl

theorem completeLearn_kept (h : Kept F b o s) {a2} (hF : Fits 3288341504 F) :
    Kept F b o (completeLearn s a2) := by
  unfold completeLearn
  extract_lets l
  split
  · exact abortLearn_kept h (hF.of rfl)
  · extract_lets
    exact event_kept (State.modHoist_kept (learned_kept h hF) (hF.of rfl)) (hF.of rfl)

theorem learnRawEdge_kept (h : Kept F b o s) {a2 a3 a4 a5} (hF : Fits 67116032 F) :
    Kept F b o (learnRawEdge s a2 a3 a4 a5) := by
  unfold learnRawEdge
  repeat' first
    | exact hF.of rfl
    | with_reducible assumption
    | with_reducible apply State.modHoist_kept
    | with_reducible apply abortLearn_kept
    | with_reducible apply kept_ite

theorem learnConfirmed_kept (h : Kept F b o s) {a2 a3 a4 a5} (hF : Fits 67116032 F) :
    Kept F b o (learnConfirmed s a2 a3 a4 a5) := by
  unfold learnConfirmed
  repeat' first
    | exact hF.of rfl
    | with_reducible assumption
    | with_reducible apply State.modHoist_kept
    | with_reducible apply abortLearn_kept
    | with_reducible apply kept_ite
    | split

theorem secondPass_kept (h : Kept F b o s) {a2} (hF : Fits 2048 F) : Kept F b o (secondPass s a2) := h.upd hF rfl rfl

theorem endTest_kept (h : Kept F b o s) {a2 a3} (hF : Fits 4362078208 F) : Kept F b o (endTest s a2 a3) := by
  unfold endTest
  repeat' first
    | exact hF.of rfl
    | with_reducible assumption
    | with_reducible apply State.modHoist_kept
    | with_reducible apply abandonStart_kept
    | with_reducible apply notifyOn_kept
    | with_reducible apply kept_ite
    | with_reducible apply kept_ite_fst
    | (with_reducible apply forEach_kept; on_goal 2 => intros)

theorem btPhaseEnd_kept (h : Kept F b o s) {a2} (hF : Fits 4362209280 F) : Kept F b o (btPhaseEnd s a2) := by
  unfold btPhaseEnd
  repeat' first
    | exact hF.of rfl
    | with_reducible assumption
    | with_reducible apply State.modHoist_kept
    | with_reducible apply State.modCarSaf_kept
    | with_reducible apply endTest_kept
    | with_reducible apply event_kept
    | with_reducible apply kept_ite
    | split

theorem execBrakeTestPhaseEnd_kept (h : Kept F b o s) {a1} (hF : Fits 4362209280 F) :
    KeptO F b o (execBrakeTestPhaseEnd a1 s) := by
  unfold execBrakeTestPhaseEnd
  repeat' first
    | exact hF.of rfl
    | with_reducible assumption
    | with_reducible apply btPhaseEnd_kept
    | with_reducible apply kept_ite
    | with_reducible apply keptO_next

theorem testSample_kept (h : Kept F b o s) {a2} (hF : Fits 4521647178 F) : Kept F b o (testSample s a2) := by
  unfold testSample
  repeat' first
    | exact hF.of rfl
    | with_reducible assumption
    | with_reducible apply State.modHoist_kept
    | with_reducible apply raise_kept
    | with_reducible apply endTest_kept
    | with_reducible apply kept_ite

theorem abortTest_kept (h : Kept F b o s) {a2} (hF : Fits 4362078208 F) : Kept F b o (abortTest s a2) := by
  unfold abortTest
  repeat' first
    | exact hF.of rfl
    | with_reducible assumption
    | with_reducible apply endTest_kept
    | with_reducible apply kept_ite

theorem relevelDemand_kept (h : Kept F b o s) {a2} (hF : Fits 2374163530 F) : Kept F b o (relevelDemand s a2) := by
  unfold relevelDemand
  repeat' first
    | exact hF.of rfl
    | with_reducible assumption
    | with_reducible apply raise_kept
    | with_reducible apply State.modHoist_kept
    | with_reducible apply requestMove_kept
    | with_reducible apply State.modCarSaf_kept
    | with_reducible apply demandClose_kept
    | with_reducible apply kept_ite
    | (with_reducible apply forEach_kept; on_goal 2 => intros)

theorem execRelevelDelayExpiry_kept (h : Kept F b o s) {a1} (hF : Fits 2374163530 F) :
    KeptO F b o (execRelevelDelayExpiry a1 s) := by
  unfold execRelevelDelayExpiry
  repeat' first
    | exact hF.of rfl
    | with_reducible assumption
    | with_reducible apply relevelDemand_kept
    | with_reducible apply kept_ite
    | with_reducible apply keptO_next

theorem emergencyStop_kept (h : Kept F b o s) {a2} (hF : Fits 38912 F) : Kept F b o (emergencyStop s a2) := by
  unfold emergencyStop
  repeat' first
    | exact hF.of rfl
    | with_reducible assumption
    | with_reducible apply State.stopDoors_kept
    | with_reducible apply State.carOff_kept
    | with_reducible apply State.modHoist_kept

theorem stopPlan_kept (h : Kept F b o s) {a2 a3} (hF : Fits 2048 F) :
    Kept F b o (stopPlan s a2 a3) :=
  h.upd hF rfl rfl

theorem retarget_kept (h : Kept F b o s) {a2 a3 a4} (hF : Fits 2048 F) :
    Kept F b o (retarget s a2 a3 a4) :=
  h.upd hF rfl rfl

theorem landingStop_kept (h : Kept F b o s) {a2} (hF : Fits 2048 F) : Kept F b o (landingStop s a2) := by
  unfold landingStop
  repeat' first
    | exact hF.of rfl
    | with_reducible assumption
    | with_reducible apply State.modHoist_kept
    | with_reducible apply stopPlan_kept
    | with_reducible apply retarget_kept
    | with_reducible apply kept_ite

theorem applyStop_kept (h : Kept F b o s) {a2 a3} (hF : Fits 4362116096 F) : Kept F b o (applyStop s a2 a3) := by
  unfold applyStop
  repeat' first
    | exact hF.of rfl
    | with_reducible assumption
    | with_reducible apply State.modHoist_kept
    | with_reducible apply abortTest_kept
    | with_reducible apply abortLearn_kept
    | with_reducible apply State.stopDoors_kept
    | with_reducible apply State.carOff_kept
    | with_reducible apply emergencyStop_kept
    | with_reducible apply abandonStart_kept
    | with_reducible apply landingStop_kept
    | with_reducible apply stopPlan_kept
    | with_reducible apply kept_ite

theorem takeStop_kept (h : Kept F b o s) {a2} (hF : Fits 4362116096 F) : Kept F b o (takeStop s a2) := by
  unfold takeStop
  repeat' first
    | exact hF.of rfl
    | with_reducible assumption
    | with_reducible apply applyStop_kept
    | with_reducible apply State.modHoist_kept
    | split

theorem goBehind_kept (h : Kept F b o s) {a2} (hF : Fits 2048 F) : Kept F b o (goBehind s a2) := by
  unfold goBehind
  repeat' first
    | exact hF.of rfl
    | with_reducible assumption
    | with_reducible apply State.modHoist_kept
    | with_reducible apply requestMove_kept
    | with_reducible apply kept_ite

theorem beginStopSeq_kept (h : Kept F b o s) {a2} (hF : Fits 2048 F) :
    Kept F b o (beginStopSeq s a2) :=
  h.upd hF rfl rfl

theorem arrive_kept (h : Kept F b o s) {a2} (hF : Fits 3288341504 F) : Kept F b o (arrive s a2) := by
  unfold arrive
  repeat' first
    | exact hF.of rfl
    | with_reducible assumption
    | with_reducible apply State.modHoist_kept
    | with_reducible apply event_kept
    | with_reducible apply beginStopSeq_kept
    | with_reducible apply completeLearn_kept
    | with_reducible apply kept_ite

theorem brakesClosedConfirmed_kept (h : Kept F b o s) {a2} (hF : Fits 133120 F) :
    Kept F b o (brakesClosedConfirmed s a2) := by
  unfold brakesClosedConfirmed
  repeat' first
    | exact hF.of rfl
    | with_reducible assumption
    | with_reducible apply State.modHoist_kept
    | with_reducible apply State.modCarSaf_kept
    | with_reducible apply goBehind_kept
    | with_reducible apply kept_ite

theorem execBrakesClosedConfirmed_kept (h : Kept F b o s) {a1} (hF : Fits 133120 F) :
    KeptO F b o (execBrakesClosedConfirmed a1 s) := by
  unfold execBrakesClosedConfirmed
  repeat' first
    | exact hF.of rfl
    | with_reducible assumption
    | with_reducible apply brakesClosedConfirmed_kept
    | with_reducible apply kept_ite
    | with_reducible apply keptO_next

theorem execTorqueHoldExpiry_kept (h : Kept F b o s) {a1} (hF : Fits 2048 F) :
    KeptO F b o (execTorqueHoldExpiry a1 s) := by
  unfold execTorqueHoldExpiry
  repeat' first
    | exact hF.of rfl
    | with_reducible assumption
    | with_reducible apply State.modHoist_kept
    | with_reducible apply kept_ite
    | with_reducible apply keptO_next

theorem torqueRampEnd_kept (h : Kept F b o s) {a2} (hF : Fits 2374163530 F) : Kept F b o (torqueRampEnd s a2) := by
  unfold torqueRampEnd
  repeat' first
    | exact hF.of rfl
    | with_reducible assumption
    | with_reducible apply State.modHoist_kept
    | with_reducible apply State.modCarSaf_kept
    | with_reducible apply secondPass_kept
    | with_reducible apply relevelDemand_kept
    | with_reducible apply kept_ite

theorem execReversalDwellExpiry_kept (h : Kept F b o s) {a1} (hF : Fits 2048 F) :
    KeptO F b o (execReversalDwellExpiry a1 s) := by
  unfold execReversalDwellExpiry
  repeat' first
    | exact hF.of rfl
    | with_reducible assumption
    | with_reducible apply State.modHoist_kept
    | with_reducible apply liftBrakes_kept
    | with_reducible apply kept_ite
    | with_reducible apply keptO_next

theorem endJog_kept (h : Kept F b o s) {a2} (hF : Fits 2048 F) : Kept F b o (endJog s a2) := by
  unfold endJog
  repeat' first
    | exact hF.of rfl
    | with_reducible assumption
    | with_reducible apply State.modHoist_kept
    | with_reducible apply stopPlan_kept
    | with_reducible apply abandonStart_kept
    | with_reducible apply kept_ite

theorem runJog_kept (h : Kept F b o s) {a2 a3 a4} (hF : Fits 2048 F) : Kept F b o (runJog s a2 a3 a4) := by
  unfold runJog
  repeat' first
    | exact hF.of rfl
    | with_reducible assumption
    | with_reducible apply State.modHoist_kept
    | with_reducible apply retarget_kept
    | with_reducible apply requestMove_kept
    | with_reducible apply kept_ite

theorem ignorePress_kept (h : Kept F b o s) {a2 a3 a4} (hF : Fits 67110912 F) :
    Kept F b o (ignorePress s a2 a3 a4) := by
  unfold ignorePress
  repeat' first
    | exact hF.of rfl
    | with_reducible assumption
    | with_reducible apply event_kept
    | with_reducible apply State.modHoist_kept
    | with_reducible apply endJog_kept

theorem jogDemand_kept (h : Kept F b o s) {a2 a3 a4} (hF : Fits 67110912 F) : Kept F b o (jogDemand s a2 a3 a4) := by
  unfold jogDemand
  repeat' first
    | exact hF.of rfl
    | with_reducible assumption
    | with_reducible apply endJog_kept
    | with_reducible apply State.modHoist_kept
    | with_reducible apply ignorePress_kept
    | with_reducible apply runJog_kept
    | with_reducible apply kept_ite

theorem execJogKeepaliveExpiry_kept (h : Kept F b o s) {a1} (hF : Fits 67110912 F) :
    KeptO F b o (execJogKeepaliveExpiry a1 s) := by
  unfold execJogKeepaliveExpiry
  repeat' first
    | exact hF.of rfl
    | with_reducible assumption
    | with_reducible apply jogDemand_kept
    | with_reducible apply kept_ite
    | with_reducible apply kept_ite_fst
    | with_reducible apply keptO_ite
    | exact keptO_fault
    | with_reducible apply keptO_next

theorem execJogReversalHoldExpiry_kept (h : Kept F b o s) {a1} (hF : Fits 2048 F) :
    KeptO F b o (execJogReversalHoldExpiry a1 s) := by
  unfold execJogReversalHoldExpiry
  repeat' first
    | exact hF.of rfl
    | with_reducible assumption
    | with_reducible apply State.modHoist_kept
    | with_reducible apply kept_ite
    | with_reducible apply keptO_next

theorem limitChange_kept (h : Kept F b o s) {a2} (hF : Fits 2048 F) : Kept F b o (limitChange s a2) := by
  unfold limitChange
  repeat' first
    | exact hF.of rfl
    | with_reducible assumption
    | with_reducible apply State.modHoist_kept
    | (intro x; subst x)
    | lift_lets
    | split

theorem profileSample_kept (h : Kept F b o s) {a2} (hF : Fits 3288341504 F) : Kept F b o (profileSample s a2) := by
  unfold profileSample
  repeat' first
    | exact hF.of rfl
    | with_reducible assumption
    | with_reducible apply arrive_kept
    | with_reducible apply State.modHoist_kept
    | (intro x; subst x)
    | lift_lets
    | split

theorem rampSample_kept (h : Kept F b o s) {a2} (hF : Fits 2048 F) : Kept F b o (rampSample s a2) := h.upd hF rfl rfl

theorem bridgeRequests_kept (h : Kept F b o s) {a2} (hF : Fits 131072 F) :
    Kept F b o (bridgeRequests s a2) :=
  h.upd hF rfl rfl

theorem hoistSample_kept (h : Kept F b o s) {a2} (hF : Fits 7743921738 F) : Kept F b o (hoistSample s a2) := by
  unfold hoistSample
  repeat' first
    | exact hF.of rfl
    | with_reducible assumption
    | with_reducible apply fbHoistSample_kept
    | with_reducible apply takeStop_kept
    | with_reducible apply abortLearn_kept
    | with_reducible apply limitChange_kept
    | with_reducible apply endJog_kept
    | with_reducible apply testSample_kept
    | with_reducible apply profileSample_kept
    | with_reducible apply rampSample_kept
    | with_reducible apply State.modHoist_kept
    | with_reducible apply relevelDemand_kept
    | with_reducible apply bridgeRequests_kept
    | with_reducible apply loopSample_kept
    | with_reducible apply endReactions_kept
    | with_reducible apply plausSample_kept
    | with_reducible apply kept_ite
    | with_reducible apply kept_ite_fst
    | (with_reducible apply forEach_kept; on_goal 2 => intros)
    | (extract_lets x; refine cut (P := Kept F b o x) ?_ fun hx => ?_
       (on_goal 2 => clear_value x); (on_goal 1 => subst x))
    | (extract_lets x; refine cut (P := Kept F b o x.1) ?_ fun hx => ?_
       (on_goal 2 => clear_value x); (on_goal 1 => subst x))
    | (extract_lets x; clear_value x)
    | (with_reducible apply foldl_kept; on_goal 2 => intros)
    | (with_reducible apply foldl_fst_kept; on_goal 2 => intros)
    | split

theorem dwellAgain_kept (h : Kept F b o s) {a2} (hF : Fits 2048 F) : Kept F b o (dwellAgain s a2) := by
  unfold dwellAgain
  repeat' first
    | exact hF.of rfl
    | with_reducible assumption
    | with_reducible apply State.modHoist_kept
    | with_reducible apply liftBrakes_kept
    | with_reducible apply kept_ite

theorem takeTarget_kept (h : Kept F b o s) {a2 a3 a4 a5} (hF : Fits 2048 F) :
    Kept F b o (takeTarget s a2 a3 a4 a5).1 := by
  unfold takeTarget
  repeat' first
    | exact hF.of rfl
    | with_reducible assumption
    | with_reducible apply State.modHoist_kept
    | with_reducible apply retarget_kept
    | with_reducible apply abandonStart_kept
    | with_reducible apply dwellAgain_kept
    | with_reducible apply requestMove_kept
    | with_reducible apply kept_ite
    | with_reducible apply kept_ite_fst

theorem tripTarget_kept (h : Kept F b o s) {a2 a3 a4 a5 a6} (hF : Fits 2048 F) :
    Kept F b o (tripTarget s a2 a3 a4 a5 a6).1 := by
  unfold tripTarget
  repeat' first
    | exact hF.of rfl
    | with_reducible assumption
    | with_reducible apply takeTarget_kept
    | with_reducible apply kept_ite_fst

theorem actTripTarget_kept (h : Kept F b o s) {a1 a2 a3 a4 a5 a6} (hF : Fits 4294969344 F) :
    Kept F b o (actTripTarget a1 a2 a3 a4 a5 a6 s) := by
  unfold actTripTarget
  repeat' first
    | exact hF.of rfl
    | with_reducible assumption
    | (with_reducible apply serve_kept; on_goal 2 => (intros; try beta_reduce))
    | with_reducible apply tripTarget_kept

theorem execTripTarget_kept (h : Kept F b o s) {a1 a2 a3 a4 a5 a6} (hF : Fits 4362078208 F) :
    KeptO F b o (execTripTarget a1 a2 a3 a4 a5 a6 s) := by
  unfold execTripTarget
  repeat' first
    | exact hF.of rfl
    | with_reducible assumption
    | (with_reducible apply hostRow_kept; on_goal 2 => (intros; try beta_reduce))
    | with_reducible apply actTripTarget_kept

theorem hostJog_kept (h : Kept F b o s) {a2 a3} (hF : Fits 67110912 F) : Kept F b o (hostJog s a2 a3).1 := by
  unfold hostJog
  repeat' first
    | exact hF.of rfl
    | with_reducible assumption
    | with_reducible apply jogDemand_kept
    | with_reducible apply kept_ite_fst

theorem actJog_kept (h : Kept F b o s) {a1 a2 a3} (hF : Fits 4362078208 F) : Kept F b o (actJog a1 a2 a3 s) := by
  unfold actJog
  repeat' first
    | exact hF.of rfl
    | with_reducible assumption
    | (with_reducible apply serve_kept; on_goal 2 => (intros; try beta_reduce))
    | with_reducible apply hostJog_kept

theorem execJog_kept (h : Kept F b o s) {a1 a2 a3} (hF : Fits 4362078208 F) : KeptO F b o (execJog a1 a2 a3 s) := by
  unfold execJog
  repeat' first
    | exact hF.of rfl
    | with_reducible assumption
    | (with_reducible apply hostRow_kept; on_goal 2 => (intros; try beta_reduce))
    | with_reducible apply actJog_kept

theorem hostStop_kept (h : Kept F b o s) {a2 a3} (hF : Fits 4362116096 F) : Kept F b o (hostStop s a2 a3).1 := by
  unfold hostStop
  repeat' first
    | exact hF.of rfl
    | with_reducible assumption
    | with_reducible apply applyStop_kept
    | with_reducible apply State.requestStop_kept
    | with_reducible apply State.modHoist_kept
    | with_reducible apply kept_ite

theorem actStop_kept (h : Kept F b o s) {a1 a2 a3} (hF : Fits 4362116096 F) : Kept F b o (actStop a1 a2 a3 s) := by
  unfold actStop
  repeat' first
    | exact hF.of rfl
    | with_reducible assumption
    | (with_reducible apply serve_kept; on_goal 2 => (intros; try beta_reduce))
    | with_reducible apply hostStop_kept

theorem execStop_kept (h : Kept F b o s) {a1 a2 a3} (hF : Fits 4362116096 F) : KeptO F b o (execStop a1 a2 a3 s) := by
  unfold execStop
  repeat' first
    | exact hF.of rfl
    | with_reducible assumption
    | (with_reducible apply hostRow_kept; on_goal 2 => (intros; try beta_reduce))
    | with_reducible apply actStop_kept

theorem actMotionStatus_kept (h : Kept F b o s) {a1 a2} (hF : Fits 4294967296 F) :
    Kept F b o (actMotionStatus a1 a2 s) := by
  unfold actMotionStatus
  repeat' first
    | exact hF.of rfl
    | with_reducible assumption
    | (with_reducible apply serve_kept; on_goal 2 => (intros; try beta_reduce))

theorem execMotionStatus_kept (h : Kept F b o s) {a1 a2} (hF : Fits 4362076160 F) :
    KeptO F b o (execMotionStatus a1 a2 s) := by
  unfold execMotionStatus
  repeat' first
    | exact hF.of rfl
    | with_reducible assumption
    | (with_reducible apply hostRow_kept; on_goal 2 => (intros; try beta_reduce))
    | with_reducible apply actMotionStatus_kept

theorem actLearnRunRead_kept (h : Kept F b o s) {a1 a2 a3 a4 a5} (hF : Fits 4294967296 F) :
    Kept F b o (actLearnRunRead a1 a2 a3 a4 a5 s) := by
  unfold actLearnRunRead
  repeat' first
    | exact hF.of rfl
    | with_reducible assumption
    | (with_reducible apply serve_kept; on_goal 2 => (intros; try beta_reduce))

theorem execLearnRunRead_kept (h : Kept F b o s) {a1 a2 a3 a4 a5} (hF : Fits 4362076160 F) :
    KeptO F b o (execLearnRunRead a1 a2 a3 a4 a5 s) := by
  unfold execLearnRunRead
  repeat' first
    | exact hF.of rfl
    | with_reducible assumption
    | (with_reducible apply hostRow_kept; on_goal 2 => (intros; try beta_reduce))
    | with_reducible apply actLearnRunRead_kept
    | with_reducible apply keptO_ite
    | exact keptO_fault

theorem startLearn_kept (h : Kept F b o s) {a2 a3 a4} (hF : Fits 2147485696 F) :
    Kept F b o (startLearn s a2 a3 a4).1 := by
  unfold startLearn
  repeat' first
    | exact hF.of rfl
    | with_reducible assumption
    | with_reducible apply State.latch'_kept
    | with_reducible apply State.modHoist_kept
    | with_reducible apply requestMove_kept
    | with_reducible apply kept_ite_fst

theorem actLearnRunStart_kept (h : Kept F b o s) {a1 a2 a3 a4 a5} (hF : Fits 6442452992 F) :
    Kept F b o (actLearnRunStart a1 a2 a3 a4 a5 s) := by
  unfold actLearnRunStart
  repeat' first
    | exact hF.of rfl
    | with_reducible assumption
    | (with_reducible apply serve_kept; on_goal 2 => (intros; try beta_reduce))
    | with_reducible apply startLearn_kept

theorem execLearnRunStart_kept (h : Kept F b o s) {a1 a2 a3 a4 a5} (hF : Fits 6509561856 F) :
    KeptO F b o (execLearnRunStart a1 a2 a3 a4 a5 s) := by
  unfold execLearnRunStart
  repeat' first
    | exact hF.of rfl
    | with_reducible assumption
    | (with_reducible apply hostRow_kept; on_goal 2 => (intros; try beta_reduce))
    | with_reducible apply actLearnRunStart_kept
    | with_reducible apply keptO_ite
    | exact keptO_fault

theorem actLearnRunAbort_kept (h : Kept F b o s) {a1 a2 a3 a4 a5} (hF : Fits 4362083328 F) :
    Kept F b o (actLearnRunAbort a1 a2 a3 a4 a5 s) := by
  unfold actLearnRunAbort
  repeat' first
    | exact hF.of rfl
    | with_reducible assumption
    | (with_reducible apply serve_kept; on_goal 2 => (intros; try beta_reduce))
    | with_reducible apply abortLearn_kept

theorem execLearnRunAbort_kept (h : Kept F b o s) {a1 a2 a3 a4 a5} (hF : Fits 4362083328 F) :
    KeptO F b o (execLearnRunAbort a1 a2 a3 a4 a5 s) := by
  unfold execLearnRunAbort
  repeat' first
    | exact hF.of rfl
    | with_reducible assumption
    | (with_reducible apply hostRow_kept; on_goal 2 => (intros; try beta_reduce))
    | with_reducible apply actLearnRunAbort_kept
    | with_reducible apply keptO_ite
    | exact keptO_fault

theorem actBrakeTestRead_kept (h : Kept F b o s) {a1 a2 a3 a4} (hF : Fits 4294967296 F) :
    Kept F b o (actBrakeTestRead a1 a2 a3 a4 s) := by
  unfold actBrakeTestRead
  repeat' first
    | exact hF.of rfl
    | with_reducible assumption
    | (with_reducible apply serve_kept; on_goal 2 => (intros; try beta_reduce))

theorem execBrakeTestRead_kept (h : Kept F b o s) {a1 a2 a3 a4} (hF : Fits 4362076160 F) :
    KeptO F b o (execBrakeTestRead a1 a2 a3 a4 s) := by
  unfold execBrakeTestRead
  repeat' first
    | exact hF.of rfl
    | with_reducible assumption
    | (with_reducible apply hostRow_kept; on_goal 2 => (intros; try beta_reduce))
    | with_reducible apply actBrakeTestRead_kept

theorem startTest_kept (h : Kept F b o s) {a2 a3 a4 a5} (hF : Fits 2147485696 F) :
    Kept F b o (startTest s a2 a3 a4 a5).1 := by
  unfold startTest
  repeat' first
    | exact hF.of rfl
    | with_reducible assumption
    | with_reducible apply State.latch'_kept
    | with_reducible apply State.modHoist_kept
    | with_reducible apply requestMove_kept
    | with_reducible apply kept_ite_fst

theorem actBrakeTestStart_kept (h : Kept F b o s) {a1 a2 a3 a4} (hF : Fits 6442452992 F) :
    Kept F b o (actBrakeTestStart a1 a2 a3 a4 s) := by
  unfold actBrakeTestStart
  repeat' first
    | exact hF.of rfl
    | with_reducible assumption
    | (with_reducible apply serve_kept; on_goal 2 => (intros; try beta_reduce))
    | with_reducible apply startTest_kept

theorem execBrakeTestStart_kept (h : Kept F b o s) {a1 a2 a3 a4} (hF : Fits 6509561856 F) :
    KeptO F b o (execBrakeTestStart a1 a2 a3 a4 s) := by
  unfold execBrakeTestStart
  repeat' first
    | exact hF.of rfl
    | with_reducible assumption
    | (with_reducible apply hostRow_kept; on_goal 2 => (intros; try beta_reduce))
    | with_reducible apply actBrakeTestStart_kept

end Sys2Proof.Machine
end

