-- ==== Sys2Proof/Laws/KeptGroup.lean ====
section
/-! SUPPORT. What the operations of these units keep (`Kept`): images, dispatching and power, outputs, supervision, modes. -/

namespace Sys2Proof.Machine

variable {F N : Nat} {b : Bool} {o s t : State}

/-! ### Images -/

theorem useToken_kept (h : Kept F b o s) {a2 a3} (hF : Fits 34426847232 F) : Kept F b o (useToken s a2 a3).1 := by
  unfold useToken
  repeat' first
    | exact hF.of rfl
    | with_reducible assumption
    | with_reducible apply record_kept
    | with_reducible apply kept_ite
    | with_reducible apply kept_ite_fst
    | (apply Kept.gen; dsimp -zeta only; on_goal 2 => (intro y e hy; rw [e]; exact hy.upd hF rfl rfl))

theorem withToken_kept (h : Kept F b o s) {len : Nat} {suffix token : Bytes} {act : State → State × Bytes}
    (ha : ∀ s, Kept F b o s → Kept F b o (act s).1) (hF : Fits 34426847232 F) :
    Kept F b o (withToken s len suffix token act).1 := by
  have h1 := useToken_kept h (a2 := suffix) (a3 := token) (hF.of rfl)
  unfold withToken
  split
  · rename_i e; rw [e] at h1; exact ha _ h1
  · rename_i e; rw [e] at h1; exact h1

theorem issueChallenge_kept (h : Kept F b o s) (hF : Fits 103079215104 F) : Kept F b o (issueChallenge s).1 := by
  unfold issueChallenge
  repeat' first
    | exact hF.of rfl
    | with_reducible assumption
    | with_reducible apply drawNonce_kept
    | with_reducible apply kept_ite_fst
    | lift_lets
    | (apply Kept.gen; dsimp -zeta only; on_goal 2 => (intro y e hy; rw [e]; exact hy.upd hF rfl rfl))

theorem actAuthChallenge_kept (h : Kept F b o s) {a1 a2} (hF : Fits 107374182400 F) :
    Kept F b o (actAuthChallenge a1 a2 s) := by
  unfold actAuthChallenge
  repeat' first
    | exact hF.of rfl
    | with_reducible assumption
    | (with_reducible apply serve_kept; on_goal 2 => (intros; try beta_reduce))
    | with_reducible apply issueChallenge_kept

theorem execAuthChallenge_kept (h : Kept F b o s) {a1 a2} (hF : Fits 107441291264 F) :
    KeptO F b o (execAuthChallenge a1 a2 s) := by
  unfold execAuthChallenge
  repeat' first
    | exact hF.of rfl
    | with_reducible assumption
    | (with_reducible apply hostRow_kept; on_goal 2 => (intros; try beta_reduce))
    | with_reducible apply actAuthChallenge_kept

theorem beginImage_kept (h : Kept F b o s) {a2 a3 a4} (hF : Fits 53687091200 F) :
    Kept F b o (beginImage s a2 a3 a4).1 := by
  unfold beginImage
  repeat' first
    | exact hF.of rfl
    | with_reducible assumption
    | with_reducible apply State.modImgSlot_kept
    | with_reducible apply State.latch'_kept
    | with_reducible apply kept_ite_fst
    | lift_lets
    | (apply Kept.gen; dsimp -zeta only; on_goal 2 => (intro y e hy; rw [e]; exact hy.upd hF rfl rfl))

theorem actImageBegin_kept (h : Kept F b o s) {a1 a2 a3 a4 a5} (hF : Fits 57982058496 F) :
    Kept F b o (actImageBegin a1 a2 a3 a4 a5 s) := by
  unfold actImageBegin
  repeat' first
    | exact hF.of rfl
    | with_reducible assumption
    | (with_reducible apply serve_kept; on_goal 2 => (intros; try beta_reduce))
    | with_reducible apply beginImage_kept

theorem execImageBegin_kept (h : Kept F b o s) {a1 a2 a3 a4 a5} (hF : Fits 58049167360 F) :
    KeptO F b o (execImageBegin a1 a2 a3 a4 a5 s) := by
  unfold execImageBegin
  repeat' first
    | exact hF.of rfl
    | with_reducible assumption
    | (with_reducible apply hostRow_kept; on_goal 2 => (intros; try beta_reduce))
    | with_reducible apply actImageBegin_kept

theorem addChunk_kept (h : Kept F b o s) {a2 a3} (hF : Fits 34359738368 F) : Kept F b o (addChunk s a2 a3).1 := by
  unfold addChunk
  repeat' first
    | exact hF.of rfl
    | with_reducible assumption
    | lift_lets
    | split
    | (apply Kept.gen; dsimp -zeta only; on_goal 2 => (intro y e hy; rw [e]; exact hy.upd hF rfl rfl))

theorem actImageChunk_kept (h : Kept F b o s) {a1 a2 a3 a4 a5} (hF : Fits 38654705664 F) :
    Kept F b o (actImageChunk a1 a2 a3 a4 a5 s) := by
  unfold actImageChunk
  repeat' first
    | exact hF.of rfl
    | with_reducible assumption
    | (with_reducible apply serve_kept; on_goal 2 => (intros; try beta_reduce))
    | with_reducible apply addChunk_kept

theorem execImageChunk_kept (h : Kept F b o s) {a1 a2 a3 a4 a5} (hF : Fits 38721814528 F) :
    KeptO F b o (execImageChunk a1 a2 a3 a4 a5 s) := by
  unfold execImageChunk
  repeat' first
    | exact hF.of rfl
    | with_reducible assumption
    | (with_reducible apply hostRow_kept; on_goal 2 => (intros; try beta_reduce))
    | with_reducible apply actImageChunk_kept
    | with_reducible apply keptO_ite
    | exact keptO_fault

theorem endImage_kept (h : Kept F b o s) {a2} (hF : Fits 51539607552 F) : Kept F b o (endImage s a2).1 := by
  unfold endImage
  repeat' first
    | exact hF.of rfl
    | with_reducible assumption
    | with_reducible apply State.modImgSlot_kept
    | lift_lets
    | split
    | (apply Kept.gen; dsimp -zeta only; on_goal 2 => (intro y e hy; rw [e]; exact hy.upd hF rfl rfl))

theorem actImageEnd_kept (h : Kept F b o s) {a1 a2} (hF : Fits 55834574848 F) : Kept F b o (actImageEnd a1 a2 s) := by
  unfold actImageEnd
  repeat' first
    | exact hF.of rfl
    | with_reducible assumption
    | (with_reducible apply serve_kept; on_goal 2 => (intros; try beta_reduce))
    | with_reducible apply endImage_kept

theorem execImageEnd_kept (h : Kept F b o s) {a1 a2} (hF : Fits 55901683712 F) :
    KeptO F b o (execImageEnd a1 a2 s) := by
  unfold execImageEnd
  repeat' first
    | exact hF.of rfl
    | with_reducible assumption
    | (with_reducible apply hostRow_kept; on_goal 2 => (intros; try beta_reduce))
    | with_reducible apply actImageEnd_kept

theorem execImageVerifyComplete_kept (h : Kept F b o s) (hF : Fits 55901683712 F) :
    KeptO F b o (execImageVerifyComplete s) := by
  unfold execImageVerifyComplete
  generalize (if s.running then s.img.verifying else none) = v
  split
  · exact keptO_next h
  · extract_lets d r k s1 s2 s3
    have h1 : Kept F b o s1 := h.upd hF rfl rfl
    clear_value s1
    have h2 : Kept F b o s2 := State.modImgSlot_kept h1 (hF.of rfl)
    clear_value s2
    have h3 : Kept F b o s3 := kept_ite (event_kept h2 (hF.of rfl)) (event_kept h2 (hF.of rfl))
    clear_value s3
    exact keptO_next (notifyOn_kept h3 (hF.of rfl))

theorem dropSession_kept (h : Kept F b o s) (hF : Fits 51539607552 F) : Kept F b o (dropSession s) := by
  unfold dropSession
  repeat' first
    | exact hF.of rfl
    | with_reducible assumption
    | with_reducible apply State.modImgSlot_kept
    | lift_lets
    | split
    | (apply Kept.gen; dsimp -zeta only; on_goal 2 => (intro y e hy; rw [e]; exact hy.upd hF rfl rfl))

theorem dropLoads_kept (h : Kept F b o s) (hF : Fits 51539607552 F) : Kept F b o (dropLoads s) := by
  unfold dropLoads
  extract_lets s1
  have h1 : Kept F b o s1 := dropSession_kept h (hF.of rfl)
  clear_value s1
  split
  · rename_i type slot hd e
    extract_lets s2
    have h2 : Kept F b o s2 := State.modImgSlot_kept h1 (hF.of rfl)
    clear_value s2
    exact h2.upd hF rfl rfl
  · exact h1

theorem execImageSessionIdle_kept (h : Kept F b o s) (hF : Fits 51539607552 F) :
    KeptO F b o (execImageSessionIdle s) := by
  unfold execImageSessionIdle
  repeat' first
    | exact hF.of rfl
    | with_reducible assumption
    | with_reducible apply dropSession_kept
    | with_reducible apply kept_ite
    | with_reducible apply keptO_next

theorem sinkBelow_kept (h : Kept F b o s) {a2} (hF : Fits 17179869184 F) :
    Kept F b o (sinkBelow s a2) :=
  h.upd hF rfl rfl

theorem activateSlot_kept (h : Kept F b o s) {a2 a3} (hF : Fits 17246978048 F) :
    Kept F b o (activateSlot s a2 a3) := by
  unfold activateSlot
  repeat' first
    | exact hF.of rfl
    | with_reducible assumption
    | with_reducible apply State.modImgSlot_kept
    | with_reducible apply event_kept
    | with_reducible apply sinkBelow_kept
    | (with_reducible apply forEach_kept; on_goal 2 => intros)
    | (apply Kept.gen; dsimp -zeta only; on_goal 2 => (intro y e hy; rw [e]; exact hy.upd hF rfl rfl))

theorem selectSlot_kept (h : Kept F b o s) {a2 a3} (hF : Fits 17179869184 F) :
    Kept F b o (selectSlot s a2 a3) :=
  h.upd hF rfl rfl

theorem activate_kept (h : Kept F b o s) {a2 a3} (hF : Fits 51606716416 F) : Kept F b o (activate s a2 a3).1 := by
  unfold activate
  repeat' first
    | exact hF.of rfl
    | with_reducible assumption
    | with_reducible apply selectSlot_kept
    | with_reducible apply activateSlot_kept
    | with_reducible apply kept_ite_fst
    | lift_lets
    | (apply Kept.gen; dsimp -zeta only; on_goal 2 => (intro y e hy; rw [e]; exact hy.upd hF rfl rfl))

theorem actImageActivate_kept (h : Kept F b o s) {a1 a2 a3 a4} (hF : Fits 55901683712 F) :
    Kept F b o (actImageActivate a1 a2 a3 a4 s) := by
  unfold actImageActivate
  repeat' first
    | exact hF.of rfl
    | with_reducible assumption
    | (with_reducible apply serve_kept; on_goal 2 => (intros; try beta_reduce))
    | with_reducible apply activate_kept

theorem execImageActivate_kept (h : Kept F b o s) {a1 a2 a3 a4} (hF : Fits 55901683712 F) :
    KeptO F b o (execImageActivate a1 a2 a3 a4 s) := by
  unfold execImageActivate
  repeat' first
    | exact hF.of rfl
    | with_reducible assumption
    | (with_reducible apply hostRow_kept; on_goal 2 => (intros; try beta_reduce))
    | with_reducible apply actImageActivate_kept

theorem imagesAtEpoch_kept (h : Kept F b o s) (hF : Fits 17246978048 F) : Kept F b o (imagesAtEpoch s).1 := by
  unfold imagesAtEpoch
  repeat' first
    | exact hF.of rfl
    | with_reducible assumption
    | with_reducible apply activateSlot_kept
    | (intro x; subst x)
    | (with_reducible apply foldl_fst_kept; on_goal 2 => intros)
    | lift_lets
    | split
    | (apply Kept.gen; dsimp -zeta only; on_goal 2 => (intro y e hy; rw [e]; exact hy.upd hF rfl rfl))

theorem actImageStatus_kept (h : Kept F b o s) {a1 a2} (hF : Fits 4294967296 F) :
    Kept F b o (actImageStatus a1 a2 s) := by
  unfold actImageStatus
  repeat' first
    | exact hF.of rfl
    | with_reducible assumption
    | (with_reducible apply serve_kept; on_goal 2 => (intros; try beta_reduce))

theorem execImageStatus_kept (h : Kept F b o s) {a1 a2} (hF : Fits 4362076160 F) :
    KeptO F b o (execImageStatus a1 a2 s) := by
  unfold execImageStatus
  repeat' first
    | exact hF.of rfl
    | with_reducible assumption
    | (with_reducible apply hostRow_kept; on_goal 2 => (intros; try beta_reduce))
    | with_reducible apply actImageStatus_kept

theorem actKeyEnrolRead_kept (h : Kept F b o s) {a1 a2 a3 a4 a5} (hF : Fits 4294967296 F) :
    Kept F b o (actKeyEnrolRead a1 a2 a3 a4 a5 s) := by
  unfold actKeyEnrolRead
  repeat' first
    | exact hF.of rfl
    | with_reducible assumption
    | (with_reducible apply serve_kept; on_goal 2 => (intros; try beta_reduce))

theorem execKeyEnrolRead_kept (h : Kept F b o s) {a1 a2 a3 a4 a5} (hF : Fits 4362076160 F) :
    KeptO F b o (execKeyEnrolRead a1 a2 a3 a4 a5 s) := by
  unfold execKeyEnrolRead
  repeat' first
    | exact hF.of rfl
    | with_reducible assumption
    | (with_reducible apply hostRow_kept; on_goal 2 => (intros; try beta_reduce))
    | with_reducible apply actKeyEnrolRead_kept
    | with_reducible apply keptO_ite
    | exact keptO_fault

theorem armEnrol_kept (h : Kept F b o s) {a2 a3 a4} (hF : Fits 34359869440 F) :
    Kept F b o (armEnrol s a2 a3 a4).1 := by
  unfold armEnrol
  repeat' first
    | exact hF.of rfl
    | with_reducible assumption
    | with_reducible apply kept_ite_fst
    | lift_lets
    | (apply Kept.gen; dsimp -zeta only; on_goal 2 => (intro y e hy; rw [e]; exact hy.upd hF rfl rfl))

theorem actKeyEnrol_kept (h : Kept F b o s) {a1 a2 a3 a4 a5} (hF : Fits 38721945600 F) :
    Kept F b o (actKeyEnrol a1 a2 a3 a4 a5 s) := by
  unfold actKeyEnrol
  repeat' first
    | exact hF.of rfl
    | with_reducible assumption
    | (with_reducible apply serve_kept; on_goal 2 => (intros; try beta_reduce))
    | (with_reducible apply withToken_kept; on_goal 2 => (intros; try beta_reduce))
    | with_reducible apply armEnrol_kept
    | with_reducible apply kept_ite_fst

theorem execKeyEnrol_kept (h : Kept F b o s) {a1 a2 a3 a4 a5} (hF : Fits 38721945600 F) :
    KeptO F b o (execKeyEnrol a1 a2 a3 a4 a5 s) := by
  unfold execKeyEnrol
  repeat' first
    | exact hF.of rfl
    | with_reducible assumption
    | (with_reducible apply hostRow_kept; on_goal 2 => (intros; try beta_reduce))
    | with_reducible apply actKeyEnrol_kept
    | with_reducible apply keptO_ite
    | exact keptO_fault

theorem closeEnrol_kept (h : Kept F b o s) {a2} (hF : Fits 4362207232 F) : Kept F b o (closeEnrol s a2) := by
  unfold closeEnrol
  repeat' first
    | exact hF.of rfl
    | with_reducible assumption
    | with_reducible apply event_kept
    | with_reducible apply notifyOn_kept
    | with_reducible apply kept_ite
    | with_reducible apply kept_ite_fst
    | (with_reducible apply forEach_kept; on_goal 2 => intros)
    | (extract_lets x; refine cut (P := Kept F b o x) ?_ fun hx => ?_
       (on_goal 2 => clear_value x); (on_goal 1 => subst x))
    | (extract_lets x; refine cut (P := Kept F b o x.1) ?_ fun hx => ?_
       (on_goal 2 => clear_value x); (on_goal 1 => subst x))
    | (extract_lets x; subst x)
    | (with_reducible apply foldl_kept; on_goal 2 => intros)
    | (with_reducible apply foldl_fst_kept; on_goal 2 => intros)
    | split
    | (with_reducible refine kept_fst ‹_ = (_, _)› ?_)
    | (apply Kept.gen; dsimp -zeta only; on_goal 2 => (intro y e hy; rw [e]; exact hy.upd hF rfl rfl))

theorem execEnrolWindowExpiry_kept (h : Kept F b o s) (hF : Fits 4362207232 F) :
    KeptO F b o (execEnrolWindowExpiry s) := by
  unfold execEnrolWindowExpiry
  repeat' first
    | exact hF.of rfl
    | with_reducible assumption
    | with_reducible apply closeEnrol_kept
    | with_reducible apply kept_ite
    | with_reducible apply keptO_next

theorem enrolKey_kept (h : Kept F b o s) (hF : Fits 30132011008 F) : Kept F b o (enrolKey s) := by
  unfold enrolKey
  repeat' first
    | exact hF.of rfl
    | with_reducible assumption
    | with_reducible apply State.modImgSlot_kept
    | with_reducible apply notifyOn_kept
    | with_reducible apply event_kept
    | (with_reducible apply forEach_kept; on_goal 2 => intros)
    | split
    | (apply Kept.gen; dsimp -zeta only; on_goal 2 => (intro y e hy; rw [e]; exact hy.upd hF rfl rfl))

theorem clearSecrets_kept (h : Kept F b o s) (hF : Fits 42953867264 F) : Kept F b o (clearSecrets s) := by
  unfold clearSecrets
  repeat' first
    | exact hF.of rfl
    | with_reducible assumption
    | with_reducible apply kept_ite
    | with_reducible apply kept_ite_fst
    | (with_reducible apply forEach_kept; on_goal 2 => intros)
    | (intro x; subst x)
    | (with_reducible apply foldl_kept; on_goal 2 => intros)
    | (with_reducible apply foldl_fst_kept; on_goal 2 => intros)
    | lift_lets
    | split
    | (with_reducible refine kept_fst ‹_ = (_, _)› ?_)
    | (apply Kept.gen; dsimp -zeta only; on_goal 2 => (intro y e hy; rw [e]; exact hy.upd hF rfl rfl))

theorem reloadSecrets_kept (h : Kept F b o s) (hF : Fits 42953867264 F) : Kept F b o (reloadSecrets s) := by
  unfold reloadSecrets
  repeat' first
    | exact hF.of rfl
    | with_reducible assumption
    | with_reducible apply kept_ite
    | with_reducible apply kept_ite_fst
    | (with_reducible apply forEach_kept; on_goal 2 => intros)
    | (intro x; subst x)
    | (with_reducible apply foldl_kept; on_goal 2 => intros)
    | (with_reducible apply foldl_fst_kept; on_goal 2 => intros)
    | lift_lets
    | split
    | (with_reducible refine kept_fst ‹_ = (_, _)› ?_)
    | (apply Kept.gen; dsimp -zeta only; on_goal 2 => (intro y e hy; rw [e]; exact hy.upd hF rfl rfl))

theorem execTapInstructionUpdate_kept (h : Kept F b o s) {a1} (hF : Fits 47475514442 F) :
    KeptO F b o (execTapInstructionUpdate a1 s) := by
  unfold execTapInstructionUpdate
  repeat' first
    | exact hF.of rfl
    | with_reducible assumption
    | with_reducible apply closeEnrol_kept
    | with_reducible apply clearSecrets_kept
    | with_reducible apply raise_kept
    | with_reducible apply kept_ite
    | with_reducible apply keptO_next
    | (apply Kept.gen; dsimp -zeta only; on_goal 2 => (intro y e hy; rw [e]; exact hy.upd hF rfl rfl))

theorem execSecretReload_kept (h : Kept F b o s) (hF : Fits 43180547146 F) :
    KeptO F b o (execSecretReload s) := by
  unfold execSecretReload
  repeat' first
    | exact hF.of rfl
    | with_reducible assumption
    | with_reducible apply event_kept
    | with_reducible apply reloadSecrets_kept
    | with_reducible apply raise_kept
    | with_reducible apply kept_ite
    | with_reducible apply kept_ite_fst
    | with_reducible apply keptO_ite
    | exact keptO_fault
    | with_reducible apply keptO_next

theorem actIdentityRead_kept (h : Kept F b o s) {a1 a2 a3} (hF : Fits 4294967296 F) :
    Kept F b o (actIdentityRead a1 a2 a3 s) := by
  unfold actIdentityRead
  repeat' first
    | exact hF.of rfl
    | with_reducible assumption
    | (with_reducible apply serve_kept; on_goal 2 => (intros; try beta_reduce))

theorem execIdentityRead_kept (h : Kept F b o s) {a1 a2 a3} (hF : Fits 4362076160 F) :
    KeptO F b o (execIdentityRead a1 a2 a3 s) := by
  unfold execIdentityRead
  repeat' first
    | exact hF.of rfl
    | with_reducible assumption
    | (with_reducible apply hostRow_kept; on_goal 2 => (intros; try beta_reduce))
    | with_reducible apply actIdentityRead_kept
    | with_reducible apply keptO_ite
    | exact keptO_fault

/-! ### Calls -/

theorem State.modCall_kept (h : Kept F b o s) {a2 a3} (hF : Fits 16384 F) :
    Kept F b o (State.modCall s a2 a3) :=
  h.upd hF rfl rfl

theorem State.putCall_kept (h : Kept F b o s) {a2} (hF : Fits 16384 F) :
    Kept F b o (State.putCall s a2) :=
  h.upd hF rfl rfl

theorem State.unqueue_kept (h : Kept F b o s) {a2} (hF : Fits 16384 F) :
    Kept F b o (State.unqueue s a2) :=
  h.upd hF rfl rfl

theorem State.enqueue_kept (h : Kept F b o s) {a2} (hF : Fits 16384 F) :
    Kept F b o (State.enqueue s a2) :=
  h.upd hF rfl rfl

theorem State.dropCall_kept (h : Kept F b o s) {a2} (hF : Fits 16384 F) :
    Kept F b o (State.dropCall s a2) :=
  h.upd hF rfl rfl

theorem State.forget_kept (h : Kept F b o s) {a2} (hF : Fits 16384 F) :
    Kept F b o (State.forget s a2) := by
  unfold State.forget
  exact kept_ite (h.upd hF rfl rfl) (State.dropCall_kept h hF)

theorem sendItem_kept (h : Kept F b o s) {a2 a3 a4 a5} (hF : Fits 16384 F) :
    Kept F b o (sendItem s a2 a3 a4 a5) :=
  h.upd hF rfl rfl

theorem State.sentAway_kept (h : Kept F b o s) {a2 a3} (hF : Fits 16384 F) :
    Kept F b o (State.sentAway s a2 a3) :=
  h.upd hF rfl rfl

theorem State.cameBack_kept (h : Kept F b o s) {a2} (hF : Fits 16384 F) :
    Kept F b o (State.cameBack s a2) :=
  h.upd hF rfl rfl

theorem endCall_kept (h : Kept F b o s) {a2 a3} (hF : Fits 16384 F) : Kept F b o (endCall s a2 a3) := by
  unfold endCall
  repeat' first
    | exact hF.of rfl
    | with_reducible assumption
    | with_reducible apply State.modCall_kept
    | with_reducible apply State.unqueue_kept
    | with_reducible apply sendItem_kept
    | with_reducible apply kept_ite
    | with_reducible apply kept_ite_fst
    | (with_reducible apply forEach_kept; on_goal 2 => intros)
    | (extract_lets x; refine cut (P := Kept F b o x) ?_ fun hx => ?_
       (on_goal 2 => clear_value x); (on_goal 1 => subst x))
    | (extract_lets x; refine cut (P := Kept F b o x.1) ?_ fun hx => ?_
       (on_goal 2 => clear_value x); (on_goal 1 => subst x))
    | (extract_lets x; clear_value x)
    | (with_reducible apply foldl_kept; on_goal 2 => intros)
    | (with_reducible apply foldl_fst_kept; on_goal 2 => intros)
    | split

theorem orderItin_kept (h : Kept F b o s) {a2} (hF : Fits 16384 F) : Kept F b o (orderItin s a2) := by
  unfold orderItin
  repeat' first
    | exact hF.of rfl
    | with_reducible assumption
    | with_reducible apply State.modDcar_kept
    | with_reducible apply kept_ite

theorem planned_kept (h : Kept F b o s) {a2} (hF : Fits 2147483648 F) : Kept F b o (planned s a2) := by
  unfold planned
  repeat' first
    | exact hF.of rfl
    | with_reducible assumption
    | with_reducible apply State.latch'_kept

theorem chooseReceivers_kept (h : Kept F b o s) {a2 a3} (hF : Fits 16384 F) :
    Kept F b o (chooseReceivers s a2 a3) := by
  unfold chooseReceivers
  repeat' first
    | exact hF.of rfl
    | with_reducible assumption
    | with_reducible apply sendItem_kept
    | with_reducible apply kept_ite
    | with_reducible apply kept_ite_fst
    | (with_reducible apply forEach_kept; on_goal 2 => intros)
    | (extract_lets x; refine cut (P := Kept F b o x) ?_ fun hx => ?_
       (on_goal 2 => clear_value x); (on_goal 1 => subst x))
    | (extract_lets x; refine cut (P := Kept F b o x.1) ?_ fun hx => ?_
       (on_goal 2 => clear_value x); (on_goal 1 => subst x))
    | (extract_lets x; clear_value x)
    | (with_reducible apply foldl_kept; on_goal 2 => intros)
    | (with_reducible apply foldl_fst_kept; on_goal 2 => intros)
    | split
    | (with_reducible refine kept_fst ‹_ = (_, _)› ?_)
    | (apply Kept.gen; dsimp -zeta only; on_goal 2 => (intro y e hy; rw [e]; exact hy.upd hF rfl rfl))

theorem redispatchCalls_kept (h : Kept F b o s) {a2 a3} (hF : Fits 67125248 F) :
    Kept F b o (redispatchCalls s a2 a3) := by
  unfold redispatchCalls
  repeat' first
    | exact hF.of rfl
    | with_reducible assumption
    | with_reducible apply event_kept
    | with_reducible apply chooseReceivers_kept
    | with_reducible apply State.modDcar_kept
    | with_reducible apply kept_ite

theorem pruneItin_kept (h : Kept F b o s) {a2} (hF : Fits 16384 F) : Kept F b o (pruneItin s a2) := h.upd hF rfl rfl

theorem unassign_kept (h : Kept F b o s) {a2} (hF : Fits 16384 F) : Kept F b o (unassign s a2) := by
  unfold unassign
  repeat' first
    | exact hF.of rfl
    | with_reducible assumption
    | with_reducible apply pruneItin_kept
    | with_reducible apply State.modDcar_kept
    | with_reducible apply kept_ite
    | (with_reducible apply forEach_kept; on_goal 2 => intros)

theorem serveHere_kept (h : Kept F b o s) {a2} (hF : Fits 2214612992 F) : Kept F b o (serveHere s a2) := by
  unfold serveHere
  repeat' first
    | exact hF.of rfl
    | with_reducible assumption
    | with_reducible apply demandOpen_kept
    | with_reducible apply State.modDcar_kept
    | with_reducible apply kept_ite
    | (with_reducible apply forEach_kept; on_goal 2 => intros)
    | split

theorem boardHere_kept (h : Kept F b o s) {c} (hF : Fits 16384 F) : Kept F b o (boardHere s c) := by
  unfold boardHere
  split
  · exact h
  · rename_i k l e
    extract_lets on ends off s1 s2
    clear_value on ends off
    have h1 : Kept F b o s1 := forEach_kept h fun _ _ h => State.modCall_kept h (hF.of rfl)
    clear_value s1
    have h2 : Kept F b o s2 := forEach_kept h1 fun _ _ h => endCall_kept h (hF.of rfl)
    clear_value s2
    exact orderItin_kept (State.modDcar_kept h2 (hF.of rfl)) (hF.of rfl)

theorem doorsOpened_kept (h : Kept F b o s) {c} (hF : Fits 16384 F) : Kept F b o (doorsOpened s c) := by
  unfold doorsOpened
  extract_lets t
  split
  · exact h
  · exact kept_ite h (boardHere_kept (State.modDcar_kept h (hF.of rfl)) (hF.of rfl))

theorem stopServed_kept (h : Kept F b o s) {c} (hF : Fits 16384 F) : Kept F b o (stopServed s c) := by
  unfold stopServed
  split
  · exact h
  · refine kept_ite h (State.modDcar_kept (forEach_kept h fun s e h => ?_) (hF.of rfl))
    split
    · exact kept_ite (endCall_kept h (hF.of rfl)) h
    · exact h

theorem execTorqueRampEnd_kept (h : Kept F b o s) {a1} (hF : Fits 2374163530 F) :
    KeptO F b o (execTorqueRampEnd a1 s) := by
  unfold execTorqueRampEnd
  repeat' first
    | exact hF.of rfl
    | with_reducible assumption
    | with_reducible apply serveHere_kept
    | with_reducible apply torqueRampEnd_kept
    | with_reducible apply kept_ite
    | with_reducible apply keptO_next

theorem preempt_kept (h : Kept F b o s) {a2 a3} (hF : Fits 67125248 F) : Kept F b o (preempt s a2 a3) := by
  unfold preempt
  repeat' first
    | exact hF.of rfl
    | with_reducible assumption
    | with_reducible apply event_kept
    | with_reducible apply redispatchCalls_kept
    | with_reducible apply kept_ite
    | with_reducible apply kept_ite_fst
    | (with_reducible apply forEach_kept; on_goal 2 => intros)

theorem announceCall_kept (h : Kept F b o s) {a2} (hF : Fits 4294983680 F) : Kept F b o (announceCall s a2) := by
  unfold announceCall
  repeat' first
    | exact hF.of rfl
    | with_reducible assumption
    | with_reducible apply holdNote_kept
    | (with_reducible apply forEach_kept; on_goal 2 => intros)
    | (intro x; subst x)
    | lift_lets
    | split
    | (apply Kept.gen; dsimp -zeta only; on_goal 2 => (intro y e hy; rw [e]; exact hy.upd hF rfl rfl))

theorem legDue_kept (h : Kept F b o s) {a2 a3} (hF : Fits 16384 F) : Kept F b o (legDue s a2 a3) := by
  unfold legDue
  repeat' first
    | exact hF.of rfl
    | with_reducible assumption
    | with_reducible apply State.putCall_kept
    | with_reducible apply State.sentAway_kept
    | with_reducible apply sendItem_kept
    | with_reducible apply State.forget_kept
    | with_reducible apply State.enqueue_kept
    | with_reducible apply kept_ite
    | with_reducible apply kept_ite_fst
    | (with_reducible apply forEach_kept; on_goal 2 => intros)
    | (extract_lets x; refine cut (P := Kept F b o x) ?_ fun hx => ?_
       (on_goal 2 => clear_value x); (on_goal 1 => subst x))
    | (extract_lets x; refine cut (P := Kept F b o x.1) ?_ fun hx => ?_
       (on_goal 2 => clear_value x); (on_goal 1 => subst x))
    | (extract_lets x; clear_value x)
    | (with_reducible apply foldl_kept; on_goal 2 => intros)
    | (with_reducible apply foldl_fst_kept; on_goal 2 => intros)
    | split

theorem assign_kept (h : Kept F b o s) {a2 a3 a4 a5} (hF : Fits 16384 F) : Kept F b o (assign s a2 a3 a4 a5) := by
  unfold assign
  repeat' first
    | exact hF.of rfl
    | with_reducible assumption
    | with_reducible apply State.putCall_kept
    | with_reducible apply State.cameBack_kept
    | with_reducible apply State.modDcar_kept
    | with_reducible apply orderItin_kept
    | with_reducible apply boardHere_kept
    | with_reducible apply kept_ite

theorem followItin_kept (h : Kept F b o s) {a2} (hF : Fits 2048 F) : Kept F b o (followItin s a2) := by
  unfold followItin
  repeat' first
    | exact hF.of rfl
    | with_reducible assumption
    | with_reducible apply retarget_kept
    | with_reducible apply State.modHoist_kept
    | with_reducible apply kept_ite
    | with_reducible apply kept_ite_fst
    | (with_reducible apply forEach_kept; on_goal 2 => intros)
    | (extract_lets x; refine cut (P := Kept F b o x) ?_ fun hx => ?_
       (on_goal 2 => clear_value x); (on_goal 1 => subst x))
    | (extract_lets x; refine cut (P := Kept F b o x.1) ?_ fun hx => ?_
       (on_goal 2 => clear_value x); (on_goal 1 => subst x))
    | (extract_lets x; clear_value x)
    | (with_reducible apply foldl_kept; on_goal 2 => intros)
    | (with_reducible apply foldl_fst_kept; on_goal 2 => intros)
    | split

theorem register_kept (h : Kept F b o s) {a2 a3 a4 a5} (hF : Fits 6509582336 F) :
    Kept F b o (register s a2 a3 a4 a5) := by
  unfold register
  repeat' first
    | exact hF.of rfl
    | with_reducible assumption
    | with_reducible apply assign_kept
    | with_reducible apply preempt_kept
    | with_reducible apply announceCall_kept
    | with_reducible apply serveHere_kept
    | with_reducible apply followItin_kept
    | with_reducible apply legDue_kept
    | with_reducible apply kept_ite
    | with_reducible apply kept_ite_fst
    | (with_reducible apply forEach_kept; on_goal 2 => intros)
    | (extract_lets x; refine cut (P := Kept F b o x) ?_ fun hx => ?_
       (on_goal 2 => clear_value x); (on_goal 1 => subst x))
    | (extract_lets x; refine cut (P := Kept F b o x.1) ?_ fun hx => ?_
       (on_goal 2 => clear_value x); (on_goal 1 => subst x))
    | (extract_lets x; clear_value x)
    | (with_reducible apply foldl_kept; on_goal 2 => intros)
    | (with_reducible apply foldl_fst_kept; on_goal 2 => intros)
    | split
    | (with_reducible refine kept_fst ‹_ = (_, _)› ?_)
    | (apply Kept.gen; dsimp -zeta only; on_goal 2 => (intro y e hy; rw [e]; exact hy.upd hF rfl rfl))

theorem decideOwn_kept (h : Kept F b o s) {a2} (hF : Fits 6509582336 F) : Kept F b o (decideOwn s a2) := by
  unfold decideOwn
  repeat' first
    | exact hF.of rfl
    | with_reducible assumption
    | with_reducible apply State.sentAway_kept
    | with_reducible apply sendItem_kept
    | with_reducible apply register_kept
    | with_reducible apply State.enqueue_kept
    | with_reducible apply kept_ite
    | with_reducible apply kept_ite_fst
    | (with_reducible apply forEach_kept; on_goal 2 => intros)
    | (extract_lets x; refine cut (P := Kept F b o x) ?_ fun hx => ?_
       (on_goal 2 => clear_value x); (on_goal 1 => subst x))
    | (extract_lets x; refine cut (P := Kept F b o x.1) ?_ fun hx => ?_
       (on_goal 2 => clear_value x); (on_goal 1 => subst x))
    | (extract_lets x; clear_value x)
    | (with_reducible apply foldl_kept; on_goal 2 => intros)
    | (with_reducible apply foldl_fst_kept; on_goal 2 => intros)
    | split

theorem takeOffer_kept (h : Kept F b o s) {a2 a3 a4} (hF : Fits 16384 F) :
    Kept F b o (takeOffer s a2 a3 a4) := by
  unfold takeOffer
  repeat' first
    | exact hF.of rfl
    | with_reducible assumption
    | with_reducible apply State.putCall_kept
    | with_reducible apply State.modDcar_kept
    | with_reducible apply sendItem_kept
    | with_reducible apply kept_ite
    | with_reducible apply kept_ite_fst
    | (with_reducible apply forEach_kept; on_goal 2 => intros)
    | (extract_lets x; refine cut (P := Kept F b o x) ?_ fun hx => ?_
       (on_goal 2 => clear_value x); (on_goal 1 => subst x))
    | (extract_lets x; refine cut (P := Kept F b o x.1) ?_ fun hx => ?_
       (on_goal 2 => clear_value x); (on_goal 1 => subst x))
    | (extract_lets x; clear_value x)
    | (with_reducible apply foldl_kept; on_goal 2 => intros)
    | (with_reducible apply foldl_fst_kept; on_goal 2 => intros)
    | split

theorem withdraw_kept (h : Kept F b o s) {a2} (hF : Fits 16384 F) : Kept F b o (withdraw s a2) := by
  unfold withdraw
  repeat' first
    | exact hF.of rfl
    | with_reducible assumption
    | with_reducible apply endCall_kept
    | with_reducible apply unassign_kept
    | with_reducible apply kept_ite
    | with_reducible apply kept_ite_fst
    | (with_reducible apply forEach_kept; on_goal 2 => intros)
    | (extract_lets x; refine cut (P := Kept F b o x) ?_ fun hx => ?_
       (on_goal 2 => clear_value x); (on_goal 1 => subst x))
    | (extract_lets x; refine cut (P := Kept F b o x.1) ?_ fun hx => ?_
       (on_goal 2 => clear_value x); (on_goal 1 => subst x))
    | (extract_lets x; clear_value x)
    | (with_reducible apply foldl_kept; on_goal 2 => intros)
    | (with_reducible apply foldl_fst_kept; on_goal 2 => intros)
    | split

theorem decideForwarded_kept (h : Kept F b o s) {a2 a3 a4} (hF : Fits 6509582336 F) :
    Kept F b o (decideForwarded s a2 a3 a4) := by
  unfold decideForwarded
  repeat' first
    | exact hF.of rfl
    | with_reducible assumption
    | with_reducible apply withdraw_kept
    | with_reducible apply takeOffer_kept
    | with_reducible apply sendItem_kept
    | with_reducible apply register_kept
    | with_reducible apply kept_ite
    | with_reducible apply kept_ite_fst
    | (with_reducible apply forEach_kept; on_goal 2 => intros)
    | (with_reducible apply foldl_kept; on_goal 2 => intros)
    | (with_reducible apply foldl_fst_kept; on_goal 2 => intros)
    | split

theorem evaluateNext_kept (h : Kept F b o s) (hF : Fits 6509582336 F) : Kept F b o (evaluateNext s) := by
  unfold evaluateNext
  repeat' first
    | exact hF.of rfl
    | with_reducible assumption
    | with_reducible apply decideForwarded_kept
    | with_reducible apply decideOwn_kept
    | (intro x; subst x)
    | lift_lets
    | split
    | (apply Kept.gen; dsimp -zeta only; on_goal 2 => (intro y e hy; rw [e]; exact hy.upd hF rfl rfl))

theorem execCallEvaluation_kept (h : Kept F b o s) (hF : Fits 6509582336 F) : KeptO F b o (execCallEvaluation s) := by
  unfold execCallEvaluation
  repeat' first
    | exact hF.of rfl
    | with_reducible assumption
    | with_reducible apply evaluateNext_kept
    | with_reducible apply kept_ite
    | with_reducible apply keptO_next

theorem outOfReach_kept (h : Kept F b o s) {a2} (hF : Fits 67125248 F) : Kept F b o (outOfReach s a2) := by
  unfold outOfReach
  repeat' first
    | exact hF.of rfl
    | with_reducible assumption
    | with_reducible apply State.enqueue_kept
    | with_reducible apply State.cameBack_kept
    | with_reducible apply record_kept
    | with_reducible apply State.modPairView_kept
    | with_reducible apply kept_ite
    | with_reducible apply kept_ite_fst
    | (with_reducible apply forEach_kept; on_goal 2 => intros)

theorem onItem_kept (h : Kept F b o s) {p : Fin 4} {hd : IpHdr} {k : Nat} {act : State → State}
    (ha : ∀ s, Kept F b o s → Kept F b o (act s)) (hF : Fits 67387392 F) : KeptO F b o (onItem s p hd k act) := by
  have hm : ∀ {p f}, Kept F b o (s.modPort p f) := State.modPort_kept h (hF.of rfl)
  unfold onItem
  refine keptO_next (kept_ite h ?_)
  split
  · exact h
  · refine kept_ite h (kept_ite (outOfReach_kept (kept_ite h (record_kept hm (hF.of rfl))) (hF.of rfl)) ?_)
    exact kept_ite (ha _ h) (kept_ite h (ha _ hm))

theorem execCarSummaryReceived_kept (h : Kept F b o s) {a1 a2 a3} (hF : Fits 226942026 F) :
    KeptO F b o (execCarSummaryReceived a1 a2 a3 s) := by
  unfold execCarSummaryReceived
  repeat' first
    | exact hF.of rfl
    | with_reducible assumption
    | with_reducible apply State.modPort_kept
    | with_reducible apply raise_kept
    | (with_reducible apply onItem_kept; on_goal 2 => (intros; try beta_reduce))
    | with_reducible apply State.modPairView_kept
    | with_reducible apply event_kept
    | with_reducible apply kept_ite

theorem execPairOutOfReach_kept (h : Kept F b o s) {a1} (hF : Fits 67125248 F) :
    KeptO F b o (execPairOutOfReach a1 s) := by
  unfold execPairOutOfReach
  repeat' first
    | exact hF.of rfl
    | with_reducible assumption
    | with_reducible apply outOfReach_kept
    | with_reducible apply kept_ite
    | with_reducible apply keptO_next

theorem execForwardedCallReceived_kept (h : Kept F b o s) {a1 a2 a3 a4} (hF : Fits 67387392 F) :
    KeptO F b o (execForwardedCallReceived a1 a2 a3 a4 s) := by
  unfold execForwardedCallReceived
  repeat' first
    | exact hF.of rfl
    | with_reducible assumption
    | (with_reducible apply onItem_kept; on_goal 2 => (intros; try beta_reduce))
    | (apply Kept.gen; dsimp -zeta only; on_goal 2 => (intro y e hy; rw [e]; exact hy.upd hF rfl rfl))

theorem placeChosen_kept (h : Kept F b o s) {a2 a3 a4 a5} (hF : Fits 6509582336 F) :
    Kept F b o (placeChosen s a2 a3 a4 a5) := by
  unfold placeChosen
  repeat' first
    | exact hF.of rfl
    | with_reducible assumption
    | with_reducible apply register_kept
    | with_reducible apply State.sentAway_kept
    | with_reducible apply sendItem_kept
    | with_reducible apply event_kept
    | with_reducible apply kept_ite
    | with_reducible apply kept_ite_fst
    | (with_reducible apply forEach_kept; on_goal 2 => intros)
    | (extract_lets x; refine cut (P := Kept F b o x) ?_ fun hx => ?_
       (on_goal 2 => clear_value x); (on_goal 1 => subst x))
    | (extract_lets x; refine cut (P := Kept F b o x.1) ?_ fun hx => ?_
       (on_goal 2 => clear_value x); (on_goal 1 => subst x))
    | (extract_lets x; clear_value x)
    | (with_reducible apply foldl_kept; on_goal 2 => intros)
    | (with_reducible apply foldl_fst_kept; on_goal 2 => intros)
    | split

theorem decision_kept (h : Kept F b o s) {a2 a3 a4} (hF : Fits 6509582336 F) : Kept F b o (decision s a2 a3 a4) := by
  unfold decision
  repeat' first
    | exact hF.of rfl
    | with_reducible assumption
    | with_reducible apply State.cameBack_kept
    | with_reducible apply State.modCall_kept
    | with_reducible apply sendItem_kept
    | with_reducible apply placeChosen_kept
    | with_reducible apply announceCall_kept
    | with_reducible apply State.sentAway_kept
    | with_reducible apply State.enqueue_kept
    | with_reducible apply kept_ite
    | with_reducible apply kept_ite_fst
    | (with_reducible apply forEach_kept; on_goal 2 => intros)
    | (extract_lets x; refine cut (P := Kept F b o x) ?_ fun hx => ?_
       (on_goal 2 => clear_value x); (on_goal 1 => subst x))
    | (extract_lets x; refine cut (P := Kept F b o x.1) ?_ fun hx => ?_
       (on_goal 2 => clear_value x); (on_goal 1 => subst x))
    | (extract_lets x; clear_value x)
    | (with_reducible apply foldl_kept; on_goal 2 => intros)
    | (with_reducible apply foldl_fst_kept; on_goal 2 => intros)
    | split

theorem execDecisionReceived_kept (h : Kept F b o s) {a1 a2 a3 a4} (hF : Fits 6509844480 F) :
    KeptO F b o (execDecisionReceived a1 a2 a3 a4 s) := by
  unfold execDecisionReceived
  repeat' first
    | exact hF.of rfl
    | with_reducible assumption
    | (with_reducible apply onItem_kept; on_goal 2 => (intros; try beta_reduce))
    | with_reducible apply legDue_kept
    | with_reducible apply decision_kept

theorem takeReleased_kept (h : Kept F b o s) {a2 a3} (hF : Fits 6509580288 F) :
    Kept F b o (takeReleased s a2 a3) := by
  unfold takeReleased
  repeat' first
    | exact hF.of rfl
    | with_reducible assumption
    | with_reducible apply State.modCall_kept
    | with_reducible apply serveHere_kept
    | with_reducible apply announceCall_kept
    | with_reducible apply State.modDcar_kept
    | with_reducible apply sendItem_kept
    | with_reducible apply assign_kept
    | with_reducible apply State.enqueue_kept
    | with_reducible apply State.cameBack_kept
    | with_reducible apply State.putCall_kept
    | with_reducible apply kept_ite
    | with_reducible apply kept_ite_fst
    | (with_reducible apply forEach_kept; on_goal 2 => intros)
    | (extract_lets x; refine cut (P := Kept F b o x) ?_ fun hx => ?_
       (on_goal 2 => clear_value x); (on_goal 1 => subst x))
    | (extract_lets x; refine cut (P := Kept F b o x.1) ?_ fun hx => ?_
       (on_goal 2 => clear_value x); (on_goal 1 => subst x))
    | (extract_lets x; clear_value x)
    | (with_reducible apply foldl_kept; on_goal 2 => intros)
    | (with_reducible apply foldl_fst_kept; on_goal 2 => intros)
    | split

theorem transferItem_kept (h : Kept F b o s) {a2 a3} (hF : Fits 6509580288 F) :
    Kept F b o (transferItem s a2 a3) := by
  unfold transferItem
  exact kept_ite (takeReleased_kept h hF) (h.upd hF rfl rfl)

theorem execTransferItemReceived_kept (h : Kept F b o s) {a1 a2 a3} (hF : Fits 6509842432 F) :
    KeptO F b o (execTransferItemReceived a1 a2 a3 s) := by
  unfold execTransferItemReceived
  repeat' first
    | exact hF.of rfl
    | with_reducible assumption
    | (with_reducible apply onItem_kept; on_goal 2 => (intros; try beta_reduce))
    | with_reducible apply transferItem_kept

theorem execTransferLegReceived_kept (h : Kept F b o s) {a1 a2 a3} (hF : Fits 67387392 F) :
    KeptO F b o (execTransferLegReceived a1 a2 a3 s) := by
  unfold execTransferLegReceived
  repeat' first
    | exact hF.of rfl
    | with_reducible assumption
    | (with_reducible apply onItem_kept; on_goal 2 => (intros; try beta_reduce))
    | with_reducible apply State.enqueue_kept
    | with_reducible apply State.putCall_kept
    | with_reducible apply sendItem_kept
    | with_reducible apply record_kept
    | with_reducible apply kept_ite

theorem addCall_kept (h : Kept F b o s) {a2} (hF : Fits 16384 F) : Kept F b o (addCall s a2) := by
  unfold addCall
  repeat' first
    | exact hF.of rfl
    | with_reducible assumption
    | with_reducible apply State.putCall_kept
    | with_reducible apply State.enqueue_kept
    | with_reducible apply kept_ite
    | with_reducible apply kept_ite_fst
    | (with_reducible apply forEach_kept; on_goal 2 => intros)
    | (extract_lets x; refine cut (P := Kept F b o x) ?_ fun hx => ?_
       (on_goal 2 => clear_value x); (on_goal 1 => subst x))
    | (extract_lets x; refine cut (P := Kept F b o x.1) ?_ fun hx => ?_
       (on_goal 2 => clear_value x); (on_goal 1 => subst x))
    | (extract_lets x; clear_value x)
    | (with_reducible apply foldl_kept; on_goal 2 => intros)
    | (with_reducible apply foldl_fst_kept; on_goal 2 => intros)
    | split
    | (with_reducible refine kept_fst ‹_ = (_, _)› ?_)
    | (apply Kept.gen; dsimp -zeta only; on_goal 2 => (intro y e hy; rw [e]; exact hy.upd hF rfl rfl))

theorem enterCall_kept (h : Kept F b o s) {a2} (hF : Fits 16384 F) : Kept F b o (enterCall s a2).1 := by
  unfold enterCall
  repeat' first
    | exact hF.of rfl
    | with_reducible assumption
    | with_reducible apply addCall_kept
    | with_reducible apply State.putCall_kept
    | with_reducible apply State.dropCall_kept
    | with_reducible apply State.modCall_kept
    | (intro x; subst x)
    | lift_lets
    | split

theorem joinNotify_kept {s₀ : State} (h : Kept F b o s) {a3 a4} (hF : Fits 4294983680 F) :
    Kept F b o (joinNotify s₀ s a3 a4) := by
  unfold joinNotify
  split
  · exact kept_ite h (kept_ite (State.modCall_kept h (hF.of rfl)) (holdNote_kept h (hF.of rfl)))
  · exact h

theorem actCallEnter_kept (h : Kept F b o s) {a1 a2 a3 a4 a5 a6 a7 a8 a9 a10} (hF : Fits 4294983680 F) :
    Kept F b o (actCallEnter a1 a2 a3 a4 a5 a6 a7 a8 a9 a10 s) := by
  unfold actCallEnter
  repeat' first
    | exact hF.of rfl
    | with_reducible assumption
    | (with_reducible apply serve_kept; on_goal 2 => (intros; try beta_reduce))
    | with_reducible apply enterCall_kept
    | with_reducible apply joinNotify_kept
    | (intro x; subst x)
    | lift_lets
    | split
    | (with_reducible refine kept_fst ‹_ = (_, _)› ?_)

theorem execCallEnter_kept (h : Kept F b o s) {a1 a2 a3 a4 a5 a6 a7 a8 a9 a10} (hF : Fits 4362092544 F) :
    KeptO F b o (execCallEnter a1 a2 a3 a4 a5 a6 a7 a8 a9 a10 s) := by
  unfold execCallEnter
  repeat' first
    | exact hF.of rfl
    | with_reducible assumption
    | (with_reducible apply hostRow_kept; on_goal 2 => (intros; try beta_reduce))
    | with_reducible apply actCallEnter_kept

theorem cancelCall_kept (h : Kept F b o s) {a2} (hF : Fits 16384 F) : Kept F b o (cancelCall s a2) := by
  unfold cancelCall
  repeat' first
    | exact hF.of rfl
    | with_reducible assumption
    | with_reducible apply State.cameBack_kept
    | with_reducible apply sendItem_kept
    | with_reducible apply endCall_kept
    | with_reducible apply unassign_kept
    | with_reducible apply kept_ite
    | with_reducible apply kept_ite_fst
    | (with_reducible apply forEach_kept; on_goal 2 => intros)
    | (extract_lets x; refine cut (P := Kept F b o x) ?_ fun hx => ?_
       (on_goal 2 => clear_value x); (on_goal 1 => subst x))
    | (extract_lets x; refine cut (P := Kept F b o x.1) ?_ fun hx => ?_
       (on_goal 2 => clear_value x); (on_goal 1 => subst x))
    | (extract_lets x; subst x)
    | (with_reducible apply foldl_kept; on_goal 2 => intros)
    | (with_reducible apply foldl_fst_kept; on_goal 2 => intros)
    | split

theorem actCallCancel_kept (h : Kept F b o s) {a1 a2 a3} (hF : Fits 4294983680 F) :
    Kept F b o (actCallCancel a1 a2 a3 s) := by
  unfold actCallCancel
  repeat' first
    | exact hF.of rfl
    | with_reducible assumption
    | (with_reducible apply serve_kept; on_goal 2 => (intros; try beta_reduce))
    | with_reducible apply cancelCall_kept
    | split

theorem execCallCancel_kept (h : Kept F b o s) {a1 a2 a3} (hF : Fits 4362092544 F) :
    KeptO F b o (execCallCancel a1 a2 a3 s) := by
  unfold execCallCancel
  repeat' first
    | exact hF.of rfl
    | with_reducible assumption
    | (with_reducible apply hostRow_kept; on_goal 2 => (intros; try beta_reduce))
    | with_reducible apply actCallCancel_kept

theorem actCallQuery_kept (h : Kept F b o s) {a1 a2 a3} (hF : Fits 4294967296 F) :
    Kept F b o (actCallQuery a1 a2 a3 s) := by
  unfold actCallQuery
  repeat' first
    | exact hF.of rfl
    | with_reducible assumption
    | (with_reducible apply serve_kept; on_goal 2 => (intros; try beta_reduce))
    | split

theorem execCallQuery_kept (h : Kept F b o s) {a1 a2 a3} (hF : Fits 4362076160 F) :
    KeptO F b o (execCallQuery a1 a2 a3 s) := by
  unfold execCallQuery
  repeat' first
    | exact hF.of rfl
    | with_reducible assumption
    | (with_reducible apply hostRow_kept; on_goal 2 => (intros; try beta_reduce))
    | with_reducible apply actCallQuery_kept

theorem actItineraryRead_kept (h : Kept F b o s) {a1 a2} (hF : Fits 4294967296 F) :
    Kept F b o (actItineraryRead a1 a2 s) := by
  unfold actItineraryRead
  repeat' first
    | exact hF.of rfl
    | with_reducible assumption
    | (with_reducible apply serve_kept; on_goal 2 => (intros; try beta_reduce))
    | with_reducible apply kept_ite
    | with_reducible apply kept_ite_fst

theorem execItineraryRead_kept (h : Kept F b o s) {a1 a2} (hF : Fits 4362076160 F) :
    KeptO F b o (execItineraryRead a1 a2 s) := by
  unfold execItineraryRead
  repeat' first
    | exact hF.of rfl
    | with_reducible assumption
    | (with_reducible apply hostRow_kept; on_goal 2 => (intros; try beta_reduce))
    | with_reducible apply actItineraryRead_kept

theorem without_kept (h : Kept F b o s) {a2} (hF : Fits 16384 F) : Kept F b o (without s a2) := by
  unfold without
  repeat' first
    | exact hF.of rfl
    | with_reducible assumption
    | with_reducible apply unassign_kept

theorem redispatch_kept (h : Kept F b o s) {a2 a3} (hF : Fits 67125248 F) : Kept F b o (redispatch s a2 a3).1 := by
  unfold redispatch
  repeat' first
    | exact hF.of rfl
    | with_reducible assumption
    | with_reducible apply redispatchCalls_kept

theorem chooseAgain_kept (h : Kept F b o s) (hF : Fits 16384 F) : Kept F b o (chooseAgain s) := by
  unfold chooseAgain
  repeat' first
    | exact hF.of rfl
    | with_reducible assumption
    | with_reducible apply chooseReceivers_kept
    | with_reducible apply kept_ite
    | with_reducible apply kept_ite_fst
    | (with_reducible apply forEach_kept; on_goal 2 => intros)

theorem placeOn_kept (h : Kept F b o s) {e} (he : placeOn s e = some t) (hF : Fits 6509582336 F) : Kept F b o t := by
  unfold placeOn at he
  split at he
  · split at he
    · cases he
    · obtain ⟨c, -, rfl⟩ := Option.map_eq_some_iff.1 he
      exact register_kept (without_kept h (hF.of rfl)) (hF.of rfl)
  · cases he

theorem refineMove_kept (h : Kept F b o s) {e} (he : refineMove s e = some t) (hF : Fits 6509582336 F) :
    Kept F b o t := by
  unfold refineMove at he
  split at he
  · cases he
  split at he
  · cases he
  split at he
  · cases he
  split at he
  · cases he
  split at he
  · obtain ⟨c, -, hc⟩ := Option.bind_eq_some_iff.1 he
    split at hc
    · cases hc
      exact register_kept (without_kept h (hF.of rfl)) (hF.of rfl)
    · cases hc
  · split at he
    · cases he
      exact sendItem_kept h (hF.of rfl)
    · cases he

theorem allMoves_kept (h : Kept F b o s) {es} (he : allMoves es s = some t) (hF : Fits 6509582336 F) :
    Kept F b o t := by
  induction es generalizing s with
  | nil => cases he; exact h
  | cons e es ih =>
    obtain ⟨u, hu, he⟩ := Option.bind_eq_some_iff.1 he
    exact ih (refineMove_kept h hu (hF.of rfl)) he

theorem commitRefinement_kept (h : Kept F b o s) (hF : Fits 6509582336 F) : Kept F b o (commitRefinement s) := by
  unfold commitRefinement
  extract_lets todo d s1
  have h1 : Kept F b o s1 := h.upd hF rfl rfl
  clear_value s1
  split
  · exact h1
  · rename_i t e
    exact (allMoves_kept h1 e (hF.of rfl)).upd hF rfl rfl

theorem moveCalls_kept (h : Kept F b o s) (hF : Fits 6509582336 F) : Kept F b o (moveCalls s) := by
  unfold moveCalls
  extract_lets todo d s1 s2 given d2 s3
  have h1 : Kept F b o s1 := h.upd hF rfl rfl
  clear_value s1
  have h2 : Kept F b o s2 := by
    refine commitRefinement_kept (forEach_kept h1 fun s e h => ?_) (hF.of rfl)
    cases he : placeOn s e with
    | none => exact h
    | some t => exact placeOn_kept h he (hF.of rfl)
  clear_value s2
  have h3 : Kept F b o s3 := h2.upd hF rfl rfl
  clear_value s3
  refine forEach_kept h3 fun s e h => ?_
  split
  · refine kept_ite ?_ h
    extract_lets n u
    have h4 : Kept F b o u := kept_ite h (h.upd hF rfl rfl)
    clear_value u
    exact State.sentAway_kept (sendItem_kept (State.forget_kept (unassign_kept h4 (hF.of rfl)) (hF.of rfl)) (hF.of rfl))
      (hF.of rfl)
  · exact h

theorem redispatchBound_kept (h : Kept F b o s) (hF : Fits 67125248 F) : Kept F b o (redispatchBound s) := by
  unfold redispatchBound
  repeat' first
    | exact hF.of rfl
    | with_reducible assumption
    | with_reducible apply State.modDcar_kept
    | with_reducible apply record_kept
    | with_reducible apply kept_ite
    | (with_reducible apply forEach_kept; on_goal 2 => intros)
    | split

theorem refine_kept (h : Kept F b o s) (hF : Fits 16384 F) : Kept F b o (refine s) := h.upd hF rfl rfl

theorem execRefinePeriod_kept (h : Kept F b o s) (hF : Fits 16384 F) : KeptO F b o (execRefinePeriod s) := by
  unfold execRefinePeriod
  repeat' first
    | exact hF.of rfl
    | with_reducible assumption
    | with_reducible apply refine_kept
    | with_reducible apply kept_ite
    | with_reducible apply keptO_next

/-! ### Power -/

theorem budgetWatch_kept (h : Kept F b o s) (hF : Fits 67125248 F) : Kept F b o (budgetWatch s) := by
  unfold budgetWatch
  repeat' first
    | exact hF.of rfl
    | with_reducible assumption
    | with_reducible apply record_kept
    | with_reducible apply State.modDomain_kept
    | with_reducible apply kept_ite
    | (with_reducible apply forEach_kept; on_goal 2 => intros)

theorem demandRescue_kept (h : Kept F b o s) {a2} (hF : Fits 67110912 F) : Kept F b o (demandRescue s a2) := by
  unfold demandRescue
  repeat' first
    | exact hF.of rfl
    | with_reducible assumption
    | with_reducible apply requestMove_kept
    | with_reducible apply record_kept
    | with_reducible apply State.modHoist_kept
    | with_reducible apply kept_ite
    | split

theorem rescueArrived_kept (h : Kept F b o s) {a2} (hF : Fits 2214596608 F) : Kept F b o (rescueArrived s a2) := by
  unfold rescueArrived
  repeat' first
    | exact hF.of rfl
    | with_reducible assumption
    | with_reducible apply event_kept
    | with_reducible apply demandOpen_kept
    | with_reducible apply kept_ite
    | (with_reducible apply forEach_kept; on_goal 2 => intros)

theorem abandonOffers_kept (h : Kept F b o s) {a2} (hF : Fits 16384 F) : Kept F b o (abandonOffers s a2) := by
  unfold abandonOffers
  refine kept_ite h (State.modDcar_kept (forEach_kept h fun s i h => ?_) hF)
  exact State.forget_kept (unassign_kept h hF) hF

theorem demandTrip_kept (h : Kept F b o s) {a2} (hF : Fits 18432 F) : Kept F b o (demandTrip s a2) := by
  unfold demandTrip
  repeat' first
    | exact hF.of rfl
    | with_reducible assumption
    | with_reducible apply abandonOffers_kept
    | with_reducible apply State.modDcar_kept
    | with_reducible apply requestMove_kept
    | with_reducible apply kept_ite
    | with_reducible apply kept_ite_fst
    | (with_reducible apply forEach_kept; on_goal 2 => intros)
    | (extract_lets x; refine cut (P := Kept F b o x) ?_ fun hx => ?_
       (on_goal 2 => clear_value x); (on_goal 1 => subst x))
    | (extract_lets x; refine cut (P := Kept F b o x.1) ?_ fun hx => ?_
       (on_goal 2 => clear_value x); (on_goal 1 => subst x))
    | (extract_lets x; clear_value x)
    | (with_reducible apply foldl_kept; on_goal 2 => intros)
    | (with_reducible apply foldl_fst_kept; on_goal 2 => intros)
    | split

theorem demands_kept (h : Kept F b o s) (hF : Fits 67127296 F) : Kept F b o (demands s) := by
  unfold demands
  repeat' first
    | exact hF.of rfl
    | with_reducible assumption
    | with_reducible apply demandTrip_kept
    | with_reducible apply demandRescue_kept
    | (with_reducible apply forEach_kept; on_goal 2 => intros)

theorem admitStart_kept (h : Kept F b o s) {a2} (hF : Fits 2214727168 F) : Kept F b o (admitStart s a2) := by
  unfold admitStart
  repeat' first
    | exact hF.of rfl
    | with_reducible assumption
    | with_reducible apply State.modHoist_kept
    | with_reducible apply State.modCarSaf_kept
    | with_reducible apply event_kept
    | with_reducible apply startSequence_kept
    | split

theorem tripAdmission_kept (h : Kept F b o s) {a2} (hF : Fits 2214743552 F) : Kept F b o (tripAdmission s a2) := by
  unfold tripAdmission
  repeat' first
    | exact hF.of rfl
    | with_reducible assumption
    | with_reducible apply budgetWatch_kept
    | with_reducible apply demands_kept
    | with_reducible apply admitStart_kept
    | with_reducible apply kept_ite

theorem execTripAdmission_kept (h : Kept F b o s) {a1} (hF : Fits 2214743552 F) :
    KeptO F b o (execTripAdmission a1 s) := by
  unfold execTripAdmission
  repeat' first
    | exact hF.of rfl
    | with_reducible assumption
    | with_reducible apply tripAdmission_kept
    | with_reducible apply kept_ite
    | with_reducible apply keptO_next

theorem endAboard_kept (h : Kept F b o s) {a2} (hF : Fits 16384 F) : Kept F b o (endAboard s a2) := by
  unfold endAboard
  repeat' first
    | exact hF.of rfl
    | with_reducible assumption
    | with_reducible apply endCall_kept
    | with_reducible apply unassign_kept
    | with_reducible apply kept_ite
    | with_reducible apply kept_ite_fst
    | (with_reducible apply forEach_kept; on_goal 2 => intros)

theorem recallCar_kept (h : Kept F b o s) {a2} (hF : Fits 18432 F) : Kept F b o (recallCar s a2) := by
  unfold recallCar
  repeat' first
    | exact hF.of rfl
    | with_reducible assumption
    | with_reducible apply endAboard_kept
    | with_reducible apply State.modDcar_kept
    | with_reducible apply retarget_kept
    | with_reducible apply State.modHoist_kept
    | with_reducible apply kept_ite
    | with_reducible apply kept_ite_fst
    | (with_reducible apply forEach_kept; on_goal 2 => intros)
    | (extract_lets x; refine cut (P := Kept F b o x) ?_ fun hx => ?_
       (on_goal 2 => clear_value x); (on_goal 1 => subst x))
    | (extract_lets x; refine cut (P := Kept F b o x.1) ?_ fun hx => ?_
       (on_goal 2 => clear_value x); (on_goal 1 => subst x))
    | (extract_lets x; clear_value x)
    | (with_reducible apply foldl_kept; on_goal 2 => intros)
    | (with_reducible apply foldl_fst_kept; on_goal 2 => intros)
    | split

theorem changeRegime_kept (h : Kept F b o s) {a2 a3} (hF : Fits 67132416 F) :
    Kept F b o (changeRegime s a2 a3) := by
  unfold changeRegime
  repeat' first
    | exact hF.of rfl
    | with_reducible assumption
    | with_reducible apply event_kept
    | with_reducible apply redispatch_kept
    | with_reducible apply State.modDcar_kept
    | with_reducible apply State.modDoor_kept
    | with_reducible apply endInjOn_kept
    | with_reducible apply State.modHoist_kept
    | with_reducible apply State.requestStop_kept
    | with_reducible apply recallCar_kept
    | (with_reducible apply forEach_kept; on_goal 2 => intros)
    | split

theorem execRegimeChange_kept (h : Kept F b o s) {a1} (hF : Fits 67132416 F) :
    KeptO F b o (execRegimeChange a1 s) := by
  unfold execRegimeChange
  repeat' first
    | exact hF.of rfl
    | with_reducible assumption
    | with_reducible apply changeRegime_kept
    | with_reducible apply kept_ite
    | with_reducible apply keptO_next

theorem actCarRegimeSet_kept (h : Kept F b o s) {a1 a2 a3} (hF : Fits 4294983680 F) :
    Kept F b o (actCarRegimeSet a1 a2 a3 s) := by
  unfold actCarRegimeSet
  repeat' first
    | exact hF.of rfl
    | with_reducible assumption
    | (with_reducible apply serve_kept; on_goal 2 => (intros; try beta_reduce))
    | with_reducible apply State.modDcar_kept

theorem execCarRegimeSet_kept (h : Kept F b o s) {a1 a2 a3} (hF : Fits 4362092544 F) :
    KeptO F b o (execCarRegimeSet a1 a2 a3 s) := by
  unfold execCarRegimeSet
  repeat' first
    | exact hF.of rfl
    | with_reducible assumption
    | (with_reducible apply hostRow_kept; on_goal 2 => (intros; try beta_reduce))
    | with_reducible apply actCarRegimeSet_kept

theorem removeCar_kept (h : Kept F b o s) {a2} (hF : Fits 67125248 F) : Kept F b o (removeCar s a2).1 := by
  unfold removeCar
  repeat' first
    | exact hF.of rfl
    | with_reducible assumption
    | with_reducible apply redispatch_kept
    | with_reducible apply State.modDcar_kept

theorem actCarServiceRemove_kept (h : Kept F b o s) {a1 a2} (hF : Fits 4362092544 F) :
    Kept F b o (actCarServiceRemove a1 a2 s) := by
  unfold actCarServiceRemove
  repeat' first
    | exact hF.of rfl
    | with_reducible assumption
    | (with_reducible apply serve_kept; on_goal 2 => (intros; try beta_reduce))
    | with_reducible apply removeCar_kept

theorem execCarServiceRemove_kept (h : Kept F b o s) {a1 a2} (hF : Fits 4362092544 F) :
    KeptO F b o (execCarServiceRemove a1 a2 s) := by
  unfold execCarServiceRemove
  repeat' first
    | exact hF.of rfl
    | with_reducible assumption
    | (with_reducible apply hostRow_kept; on_goal 2 => (intros; try beta_reduce))
    | with_reducible apply actCarServiceRemove_kept

theorem actCarServiceAdd_kept (h : Kept F b o s) {a1 a2} (hF : Fits 4294983680 F) :
    Kept F b o (actCarServiceAdd a1 a2 s) := by
  unfold actCarServiceAdd
  repeat' first
    | exact hF.of rfl
    | with_reducible assumption
    | (with_reducible apply serve_kept; on_goal 2 => (intros; try beta_reduce))
    | with_reducible apply State.modDcar_kept

theorem execCarServiceAdd_kept (h : Kept F b o s) {a1 a2} (hF : Fits 4362092544 F) :
    KeptO F b o (execCarServiceAdd a1 a2 s) := by
  unfold execCarServiceAdd
  repeat' first
    | exact hF.of rfl
    | with_reducible assumption
    | (with_reducible apply hostRow_kept; on_goal 2 => (intros; try beta_reduce))
    | with_reducible apply actCarServiceAdd_kept

theorem dispatchCycle_kept (h : Kept F b o s) (hF : Fits 16384 F) : Kept F b o (dispatchCycle s) := by
  unfold dispatchCycle
  repeat' first
    | exact hF.of rfl
    | with_reducible assumption
    | with_reducible apply chooseAgain_kept
    | with_reducible apply State.modDcar_kept
    | with_reducible apply kept_ite
    | with_reducible apply kept_ite_fst
    | (with_reducible apply forEach_kept; on_goal 2 => intros)
    | (extract_lets x; refine cut (P := Kept F b o x) ?_ fun hx => ?_
       (on_goal 2 => clear_value x); (on_goal 1 => subst x))
    | (extract_lets x; refine cut (P := Kept F b o x.1) ?_ fun hx => ?_
       (on_goal 2 => clear_value x); (on_goal 1 => subst x))
    | (extract_lets x; clear_value x)
    | (with_reducible apply foldl_kept; on_goal 2 => intros)
    | (with_reducible apply foldl_fst_kept; on_goal 2 => intros)
    | split
    | (with_reducible refine kept_fst ‹_ = (_, _)› ?_)
    | (apply Kept.gen; dsimp -zeta only; on_goal 2 => (intro y e hy; rw [e]; exact hy.upd hF rfl rfl))

theorem policyCalls_kept (h : Kept F b o s) (hF : Fits 16384 F) : Kept F b o (policyCalls s) := by
  unfold policyCalls
  repeat' first
    | exact hF.of rfl
    | with_reducible assumption
    | with_reducible apply enterCall_kept
    | with_reducible apply kept_ite
    | with_reducible apply kept_ite_fst
    | (with_reducible apply forEach_kept; on_goal 2 => intros)
    | (extract_lets x; refine cut (P := Kept F b o x) ?_ fun hx => ?_
       (on_goal 2 => clear_value x); (on_goal 1 => subst x))
    | (extract_lets x; refine cut (P := Kept F b o x.1) ?_ fun hx => ?_
       (on_goal 2 => clear_value x); (on_goal 1 => subst x))
    | (extract_lets x; clear_value x)
    | (with_reducible apply foldl_kept; on_goal 2 => intros)
    | (with_reducible apply foldl_fst_kept; on_goal 2 => intros)
    | split
    | (with_reducible refine kept_fst ‹_ = (_, _)› ?_)
    | (apply Kept.gen; dsimp -zeta only; on_goal 2 => (intro y e hy; rw [e]; exact hy.upd hF rfl rfl))

theorem dispatchEpoch_kept (h : Kept F b o s) (hF : Fits 6509582336 F) : Kept F b o (dispatchEpoch s) := by
  unfold dispatchEpoch
  repeat' first
    | exact hF.of rfl
    | with_reducible assumption
    | with_reducible apply dispatchCycle_kept
    | with_reducible apply policyCalls_kept
    | with_reducible apply redispatch_kept
    | with_reducible apply State.modDcar_kept
    | with_reducible apply budgetWatch_kept
    | with_reducible apply redispatchBound_kept
    | with_reducible apply moveCalls_kept
    | with_reducible apply kept_ite
    | with_reducible apply kept_ite_fst
    | (with_reducible apply forEach_kept; on_goal 2 => intros)

theorem actPowerBudgetOverrideSet_kept (h : Kept F b o s) {a1 a2 a3 a4} (hF : Fits 4362092544 F) :
    Kept F b o (actPowerBudgetOverrideSet a1 a2 a3 a4 s) := by
  unfold actPowerBudgetOverrideSet
  repeat' first
    | exact hF.of rfl
    | with_reducible assumption
    | (with_reducible apply serve_kept; on_goal 2 => (intros; try beta_reduce))
    | with_reducible apply budgetWatch_kept
    | with_reducible apply State.modDomain_kept

theorem execPowerBudgetOverrideSet_kept (h : Kept F b o s) {a1 a2 a3 a4} (hF : Fits 4362092544 F) :
    KeptO F b o (execPowerBudgetOverrideSet a1 a2 a3 a4 s) := by
  unfold execPowerBudgetOverrideSet
  repeat' first
    | exact hF.of rfl
    | with_reducible assumption
    | (with_reducible apply hostRow_kept; on_goal 2 => (intros; try beta_reduce))
    | with_reducible apply actPowerBudgetOverrideSet_kept

theorem actPowerBudgetOverrideRelease_kept (h : Kept F b o s) {a1 a2} (hF : Fits 4362092544 F) :
    Kept F b o (actPowerBudgetOverrideRelease a1 a2 s) := by
  unfold actPowerBudgetOverrideRelease
  repeat' first
    | exact hF.of rfl
    | with_reducible assumption
    | (with_reducible apply serve_kept; on_goal 2 => (intros; try beta_reduce))
    | with_reducible apply budgetWatch_kept
    | with_reducible apply State.modDomain_kept

theorem execPowerBudgetOverrideRelease_kept (h : Kept F b o s) {a1 a2 a3 a4} (hF : Fits 4362092544 F) :
    KeptO F b o (execPowerBudgetOverrideRelease a1 a2 a3 a4 s) := by
  unfold execPowerBudgetOverrideRelease
  repeat' first
    | exact hF.of rfl
    | with_reducible assumption
    | (with_reducible apply hostRow_kept; on_goal 2 => (intros; try beta_reduce))
    | with_reducible apply actPowerBudgetOverrideRelease_kept

theorem actGroupStatus_kept (h : Kept F b o s) {a1 a2} (hF : Fits 4294967296 F) :
    Kept F b o (actGroupStatus a1 a2 s) := by
  unfold actGroupStatus
  repeat' first
    | exact hF.of rfl
    | with_reducible assumption
    | (with_reducible apply serve_kept; on_goal 2 => (intros; try beta_reduce))

theorem execGroupStatus_kept (h : Kept F b o s) {a1 a2} (hF : Fits 4362076160 F) :
    KeptO F b o (execGroupStatus a1 a2 s) := by
  unfold execGroupStatus
  repeat' first
    | exact hF.of rfl
    | with_reducible assumption
    | (with_reducible apply hostRow_kept; on_goal 2 => (intros; try beta_reduce))
    | with_reducible apply actGroupStatus_kept

theorem execGroupEpochReceived_kept (h : Kept F b o s) {a1 a2 a3} (hF : Fits 67387392 F) :
    KeptO F b o (execGroupEpochReceived a1 a2 a3 s) := by
  unfold execGroupEpochReceived
  repeat' first
    | exact hF.of rfl
    | with_reducible assumption
    | (with_reducible apply onItem_kept; on_goal 2 => (intros; try beta_reduce))
    | (apply Kept.gen; dsimp -zeta only; on_goal 2 => (intro y e hy; rw [e]; exact hy.upd hF rfl rfl))

theorem setShares_kept (h : Kept F b o s) (hF : Fits 16384 F) : Kept F b o (setShares s) := by
  unfold setShares
  repeat' first
    | exact hF.of rfl
    | with_reducible assumption
    | with_reducible apply State.modDomain_kept
    | with_reducible apply kept_ite
    | (with_reducible apply forEach_kept; on_goal 2 => intros)

theorem regroup_kept (h : Kept F b o s) (hF : Fits 2214608896 F) : Kept F b o (regroup s) := by
  unfold regroup
  repeat' first
    | exact hF.of rfl
    | with_reducible assumption
    | with_reducible apply redispatch_kept
    | with_reducible apply State.latch'_kept
    | (with_reducible apply forEach_kept; on_goal 2 => intros)

theorem groupBoundary_kept (h : Kept F b o s) (hF : Fits 2214608896 F) : Kept F b o (groupBoundary s) := by
  unfold groupBoundary
  repeat' first
    | exact hF.of rfl
    | with_reducible assumption
    | with_reducible apply event_kept
    | with_reducible apply State.modPairView_kept
    | with_reducible apply budgetWatch_kept
    | with_reducible apply setShares_kept
    | with_reducible apply regroup_kept
    | with_reducible apply kept_ite
    | (with_reducible apply forEach_kept; on_goal 2 => intros)
    | (apply Kept.gen; dsimp -zeta only; on_goal 2 => (intro y e hy; rw [e]; exact hy.upd hF rfl rfl))

theorem execGroupEpochBoundary_kept (h : Kept F b o s) (hF : Fits 2214608896 F) :
    KeptO F b o (execGroupEpochBoundary s) := by
  unfold execGroupEpochBoundary
  repeat' first
    | exact hF.of rfl
    | with_reducible assumption
    | with_reducible apply groupBoundary_kept
    | with_reducible apply kept_ite
    | with_reducible apply keptO_next

/-! ### Outputs -/

/-- The device whose commands move the cars is in a mode in which gates may toggle. -/
theorem live_of_incharge (h : s.incharge = true) : s.mode = .service ∨ s.mode = .commission := by
  simp only [State.incharge, State.activeCom, Bool.or_eq_true, Bool.and_eq_true, beq_iff_eq] at h
  exact h.imp id And.left

theorem live_of_driving (h : s.driving = true) : s.power = .on ∧ (s.mode = .service ∨ s.mode = .commission) := by
  simp only [State.driving, Bool.and_eq_true, beq_iff_eq] at h
  exact ⟨h.1.1.1, live_of_incharge h.1.1.2⟩

/-- A demand energises only in a device whose gates may toggle. -/
theorem driveOut_kept (h : Kept F b o s) {n : Nat} {d : Bool}
    (hl : d = true → s.power = .on ∧ (s.mode = .service ∨ s.mode = .commission)) (hF : Fits 32768 F) : Kept F b o (driveOut s n d) := by
  unfold driveOut
  extract_lets x
  split
  · exact kept_ite (State.outOff_kept h (hF.of rfl)) h
  · have hl := hl (by simpa using ‹¬(!d) = true›)
    split
    · exact kept_ite (modOut_kept h (fun x hx => hx) (hF.of rfl)) (modOut_live h hl.1 hl.2 (hF.of rfl))
    · split
      · exact h
      · exact modOut_live h hl.1 hl.2 (hF.of rfl)

theorem State.dropCar_kept (h : Kept F b o s) {a2} (hF : Fits 4362116096 F) : Kept F b o (State.dropCar s a2) := by
  unfold State.dropCar
  repeat' first
    | exact hF.of rfl
    | with_reducible assumption
    | with_reducible apply applyStop_kept
    | with_reducible apply State.carOff_kept

theorem stuckCheck_kept (h : Kept F b o s) {a2} (hF : Fits 226679882 F) : Kept F b o (stuckCheck s a2) := by
  unfold stuckCheck
  repeat' first
    | exact hF.of rfl
    | with_reducible assumption
    | with_reducible apply tripFor_kept
    | with_reducible apply kept_ite
    | (with_reducible refine modOut_kept ?_ (fun x hx => ?_) ?_; on_goal 2 => (simp_all [outStill]; done))

theorem execOutputConfirmTimeout_kept (h : Kept F b o s) {a1} (hF : Fits 4521647178 F) :
    KeptO F b o (execOutputConfirmTimeout a1 s) := by
  unfold execOutputConfirmTimeout
  repeat' first
    | exact hF.of rfl
    | with_reducible assumption
    | with_reducible apply raise_kept
    | with_reducible apply State.dropCar_kept
    | with_reducible apply kept_ite
    | with_reducible apply keptO_next

theorem startTestOf_kept (h : Kept F b o s) {a2 a3 a4} (hF : Fits 32768 F) : Kept F b o (startTestOf s a2 a3 a4) := by
  unfold startTestOf
  repeat' first
    | exact hF.of rfl
    | with_reducible assumption
    | (with_reducible refine modOut_kept ?_ (fun x hx => ?_) ?_; on_goal 2 => (simp_all [outStill]; done))

theorem execDarkTestStart_kept (h : Kept F b o s) {a1 a2} (hF : Fits 32768 F) :
    KeptO F b o (execDarkTestStart a1 a2 s) := by
  unfold execDarkTestStart
  repeat' first
    | exact hF.of rfl
    | with_reducible assumption
    | with_reducible apply startTestOf_kept
    | with_reducible apply kept_ite
    | with_reducible apply keptO_next
    | (with_reducible refine modOut_kept ?_ (fun x hx => ?_) ?_; on_goal 2 => (simp_all [outStill]; done))

theorem execDarkTestRepeat_kept (h : Kept F b o s) {a1} (hF : Fits 32768 F) :
    KeptO F b o (execDarkTestRepeat a1 s) := by
  unfold execDarkTestRepeat
  repeat' first
    | exact hF.of rfl
    | with_reducible assumption
    | with_reducible apply startTestOf_kept
    | with_reducible apply keptO_next
    | split

theorem judgeTest_kept (h : Kept F b o s) {a2 a3 a4} (hF : Fits 226679882 F) : Kept F b o (judgeTest s a2 a3 a4) := by
  unfold judgeTest
  repeat' first
    | exact hF.of rfl
    | with_reducible assumption
    | with_reducible apply raise_kept
    | with_reducible apply tripFor_kept
    | with_reducible apply kept_ite
    | (with_reducible refine modOut_kept ?_ (fun x hx => ?_) ?_; on_goal 2 => (simp_all [outStill]; done))

theorem execDarkTestJudge_kept (h : Kept F b o s) {a1 a2 a3} (hF : Fits 226679882 F) :
    KeptO F b o (execDarkTestJudge a1 a2 a3 s) := by
  unfold execDarkTestJudge
  repeat' first
    | exact hF.of rfl
    | with_reducible assumption
    | with_reducible apply judgeTest_kept
    | with_reducible apply keptO_next
    | (with_reducible refine modOut_kept ?_ (fun x hx => ?_) ?_; on_goal 2 => (simp_all [outStill]; done))
    | split

theorem execDarkTestPulseEnd_kept (h : Kept F b o s) {a1} (hF : Fits 32768 F) :
    KeptO F b o (execDarkTestPulseEnd a1 s) := by
  unfold execDarkTestPulseEnd
  repeat' first
    | exact hF.of rfl
    | with_reducible assumption
    | with_reducible apply keptO_next
    | (with_reducible refine modOut_kept ?_ (fun x hx => ?_) ?_; on_goal 2 => (simp_all [outStill]; done))
    | split

theorem execDarkTestSettleEnd_kept (h : Kept F b o s) {a1 a2} (hF : Fits 4521647178 F) :
    KeptO F b o (execDarkTestSettleEnd a1 a2 s) := by
  unfold execDarkTestSettleEnd
  repeat' first
    | exact hF.of rfl
    | with_reducible assumption
    | with_reducible apply raise_kept
    | with_reducible apply State.dropCar_kept
    | with_reducible apply keptO_next
    | (with_reducible refine modOut_kept ?_ (fun x hx => ?_) ?_; on_goal 2 => (simp_all [outStill]; done))
    | split

theorem execVetoReceived_kept (h : Kept F b o s) (hF : Fits 226679886 F) : KeptO F b o (execVetoReceived s) := by
  unfold execVetoReceived
  repeat' first
    | exact hF.of rfl
    | with_reducible assumption
    | with_reducible apply State.outOff_kept
    | with_reducible apply raise_kept
    | with_reducible apply kept_ite
    | with_reducible apply keptO_next
    | (with_reducible refine modOut_kept ?_ (fun x hx => ?_) ?_; on_goal 2 => (simp_all [outStill]; done))
    | (with_reducible apply forEach_kept; on_goal 2 => intros)
    | (apply Kept.gen; dsimp -zeta only; on_goal 2 => (intro y e hy; rw [e]; exact hy.upd hF rfl rfl))

theorem execVetoAssert_kept (h : Kept F b o s) {a1} (hF : Fits 67239936 F) : KeptO F b o (execVetoAssert a1 s) := by
  unfold execVetoAssert
  repeat' first
    | exact hF.of rfl
    | with_reducible assumption
    | with_reducible apply event_kept
    | with_reducible apply kept_ite
    | with_reducible apply keptO_next
    | (apply Kept.gen; dsimp -zeta only; on_goal 2 => (intro y e hy; rw [e]; exact hy.upd hF rfl rfl))

theorem actOutputTestReport_kept (h : Kept F b o s) {a1 a2} (hF : Fits 4294967296 F) :
    Kept F b o (actOutputTestReport a1 a2 s) := by
  unfold actOutputTestReport
  repeat' first
    | exact hF.of rfl
    | with_reducible assumption
    | (with_reducible apply serve_kept; on_goal 2 => (intros; try beta_reduce))

theorem execOutputTestReport_kept (h : Kept F b o s) {a1 a2} (hF : Fits 4362076160 F) :
    KeptO F b o (execOutputTestReport a1 a2 s) := by
  unfold execOutputTestReport
  repeat' first
    | exact hF.of rfl
    | with_reducible assumption
    | (with_reducible apply hostRow_kept; on_goal 2 => (intros; try beta_reduce))
    | with_reducible apply actOutputTestReport_kept

/-! ### Supervise -/

theorem inputFinding_kept (h : Kept F b o s) {a2 a3} (hF : Fits 226679882 F) : Kept F b o (inputFinding s a2 a3) := by
  unfold inputFinding
  repeat' first
    | exact hF.of rfl
    | with_reducible assumption
    | with_reducible apply tripFor_kept
    | with_reducible apply raise_kept
    | split

theorem switchEdge_kept (h : Kept F b o s) {a2 a3 a4} (hF : Fits 131072 F) : Kept F b o (switchEdge s a2 a3 a4) := by
  unfold switchEdge
  repeat' first
    | exact hF.of rfl
    | with_reducible assumption
    | with_reducible apply State.modSafIn_kept
    | with_reducible apply kept_ite
    | with_reducible apply kept_ite_fst
    | (with_reducible apply forEach_kept; on_goal 2 => intros)
    | (extract_lets x; refine cut (P := Kept F b o x) ?_ fun hx => ?_
       (on_goal 2 => clear_value x); (on_goal 1 => subst x))
    | (extract_lets x; refine cut (P := Kept F b o x.1) ?_ fun hx => ?_
       (on_goal 2 => clear_value x); (on_goal 1 => subst x))
    | (extract_lets x; clear_value x)
    | (with_reducible apply foldl_kept; on_goal 2 => intros)
    | (with_reducible apply foldl_fst_kept; on_goal 2 => intros)
    | split

theorem switchCheck_kept (h : Kept F b o s) {a2 a3} (hF : Fits 226679882 F) : Kept F b o (switchCheck s a2 a3) := by
  unfold switchCheck
  repeat' first
    | exact hF.of rfl
    | with_reducible assumption
    | with_reducible apply State.modSafIn_kept
    | with_reducible apply tripFor_kept
    | with_reducible apply kept_ite
    | with_reducible apply kept_ite_fst
    | (with_reducible apply forEach_kept; on_goal 2 => intros)
    | (extract_lets x; refine cut (P := Kept F b o x) ?_ fun hx => ?_
       (on_goal 2 => clear_value x); (on_goal 1 => subst x))
    | (extract_lets x; refine cut (P := Kept F b o x.1) ?_ fun hx => ?_
       (on_goal 2 => clear_value x); (on_goal 1 => subst x))
    | (extract_lets x; clear_value x)
    | (with_reducible apply foldl_kept; on_goal 2 => intros)
    | (with_reducible apply foldl_fst_kept; on_goal 2 => intros)
    | split

theorem inputChange_kept (h : Kept F b o s) {a2 a3 a4 a5} (hF : Fits 226679882 F) :
    Kept F b o (inputChange s a2 a3 a4 a5) := by
  unfold inputChange
  repeat' first
    | exact hF.of rfl
    | with_reducible assumption
    | with_reducible apply State.modSafIn_kept
    | with_reducible apply record_kept
    | with_reducible apply learnConfirmed_kept
    | with_reducible apply learnRawEdge_kept
    | with_reducible apply switchCheck_kept
    | with_reducible apply kept_ite
    | (with_reducible apply forEach_kept; on_goal 2 => intros)
    | split

theorem execSafetyInputChange_kept (h : Kept F b o s) {a1 a2 a3 a4} (hF : Fits 226679882 F) :
    KeptO F b o (execSafetyInputChange a1 a2 a3 a4 s) := by
  unfold execSafetyInputChange
  repeat' first
    | exact hF.of rfl
    | with_reducible assumption
    | with_reducible apply inputChange_kept
    | with_reducible apply learnRawEdge_kept
    | with_reducible apply switchEdge_kept
    | with_reducible apply kept_ite
    | with_reducible apply kept_ite_fst
    | with_reducible apply keptO_ite
    | exact keptO_fault
    | with_reducible apply keptO_next
    | (with_reducible apply forEach_kept; on_goal 2 => intros)
    | (extract_lets x; refine cut (P := Kept F b o x) ?_ fun hx => ?_
       (on_goal 2 => clear_value x); (on_goal 1 => subst x))
    | (extract_lets x; refine cut (P := Kept F b o x.1) ?_ fun hx => ?_
       (on_goal 2 => clear_value x); (on_goal 1 => subst x))
    | (extract_lets x; clear_value x)
    | (with_reducible apply foldl_kept; on_goal 2 => intros)
    | (with_reducible apply foldl_fst_kept; on_goal 2 => intros)
    | split

theorem execSafetyInputChatterEnd_kept (h : Kept F b o s) {a1} (hF : Fits 131072 F) :
    KeptO F b o (execSafetyInputChatterEnd a1 s) := by
  unfold execSafetyInputChatterEnd
  repeat' first
    | exact hF.of rfl
    | with_reducible assumption
    | with_reducible apply State.modSafIn_kept
    | with_reducible apply kept_ite
    | with_reducible apply keptO_next

theorem inputCycle_kept (h : Kept F b o s) {a2} (hF : Fits 226679882 F) : Kept F b o (inputCycle s a2) := by
  unfold inputCycle
  repeat' first
    | exact hF.of rfl
    | with_reducible assumption
    | with_reducible apply State.modSafIn_kept
    | with_reducible apply inputFinding_kept
    | with_reducible apply kept_ite

theorem disagreeWatch_kept (h : Kept F b o s) {a2} (hF : Fits 226679882 F) : Kept F b o (disagreeWatch s a2) := by
  unfold disagreeWatch
  repeat' first
    | exact hF.of rfl
    | with_reducible assumption
    | with_reducible apply raise_kept
    | with_reducible apply kept_ite
    | split
    | (apply Kept.gen; dsimp -zeta only; on_goal 2 => (intro y e hy; rw [e]; exact hy.upd hF rfl rfl))

theorem inputsCycle_kept (h : Kept F b o s) (hF : Fits 226679882 F) : Kept F b o (inputsCycle s) := by
  unfold inputsCycle
  repeat' first
    | exact hF.of rfl
    | with_reducible assumption
    | with_reducible apply inputCycle_kept
    | with_reducible apply disagreeWatch_kept
    | with_reducible apply kept_ite
    | (with_reducible apply forEach_kept; on_goal 2 => intros)
    | split

theorem measure_kept (h : Kept F b o s) {a2} (hF : Fits 131072 F) : Kept F b o (measure s a2) := h.upd hF rfl rfl

theorem modBrake_kept (h : Kept F b o s) {a2 a3 a4} (hF : Fits 131072 F) :
    Kept F b o (modBrake s a2 a3 a4) :=
  h.upd hF rfl rfl

theorem brakeCycle_kept (h : Kept F b o s) {a2 a3} (hF : Fits 226679882 F) : Kept F b o (brakeCycle s a2 a3) := by
  unfold brakeCycle
  repeat' first
    | exact hF.of rfl
    | with_reducible assumption
    | with_reducible apply modBrake_kept
    | with_reducible apply tripFor_kept
    | with_reducible apply kept_ite

theorem execBrakeOpenTimeout_kept (h : Kept F b o s) {a1 a2} (hF : Fits 4521647178 F) :
    KeptO F b o (execBrakeOpenTimeout a1 a2 s) := by
  unfold execBrakeOpenTimeout
  repeat' first
    | exact hF.of rfl
    | with_reducible assumption
    | with_reducible apply raise_kept
    | with_reducible apply State.dropCar_kept
    | with_reducible apply modBrake_kept
    | with_reducible apply kept_ite
    | with_reducible apply keptO_next

theorem execBrakeCloseTimeout_kept (h : Kept F b o s) {a1 a2} (hF : Fits 226679882 F) :
    KeptO F b o (execBrakeCloseTimeout a1 a2 s) := by
  unfold execBrakeCloseTimeout
  repeat' first
    | exact hF.of rfl
    | with_reducible assumption
    | with_reducible apply tripFor_kept
    | with_reducible apply modBrake_kept
    | with_reducible apply kept_ite
    | with_reducible apply keptO_next

theorem slipWatch_kept (h : Kept F b o s) {a2} (hF : Fits 226679882 F) : Kept F b o (slipWatch s a2) := by
  unfold slipWatch
  repeat' first
    | exact hF.of rfl
    | with_reducible assumption
    | with_reducible apply State.modCarSaf_kept
    | with_reducible apply tripFor_kept
    | split

theorem speedCycle_kept (h : Kept F b o s) {a2} (hF : Fits 226679882 F) : Kept F b o (speedCycle s a2) := by
  unfold speedCycle
  repeat' first
    | exact hF.of rfl
    | with_reducible assumption
    | with_reducible apply State.modCarSaf_kept
    | with_reducible apply event_kept
    | with_reducible apply tripFor_kept
    | with_reducible apply kept_ite
    | (with_reducible apply forEach_kept; on_goal 2 => intros)

theorem finalTrip_kept (h : Kept F b o s) {a2 a3} (hF : Fits 226679882 F) : Kept F b o (finalTrip s a2 a3) := by
  unfold finalTrip
  repeat' first
    | exact hF.of rfl
    | with_reducible assumption
    | with_reducible apply tripFor_kept
    | with_reducible apply abortLearn_kept
    | with_reducible apply kept_ite

theorem finalCycle_kept (h : Kept F b o s) {a2} (hF : Fits 226679882 F) : Kept F b o (finalCycle s a2) := by
  unfold finalCycle
  repeat' first
    | exact hF.of rfl
    | with_reducible assumption
    | with_reducible apply State.modCarSaf_kept
    | with_reducible apply finalTrip_kept
    | (with_reducible apply forEach_kept; on_goal 2 => intros)
    | split

theorem directionCycle_kept (h : Kept F b o s) {a2} (hF : Fits 226679882 F) : Kept F b o (directionCycle s a2) := by
  unfold directionCycle
  repeat' first
    | exact hF.of rfl
    | with_reducible assumption
    | with_reducible apply State.modCarSaf_kept
    | with_reducible apply tripFor_kept
    | with_reducible apply kept_ite

theorem terminalCycle_kept (h : Kept F b o s) {a2} (hF : Fits 226679882 F) : Kept F b o (terminalCycle s a2) := by
  unfold terminalCycle
  repeat' first
    | exact hF.of rfl
    | with_reducible assumption
    | with_reducible apply State.modCarSaf_kept
    | with_reducible apply tripFor_kept
    | with_reducible apply kept_ite

theorem crossCycle_kept (h : Kept F b o s) {a2} (hF : Fits 226679882 F) : Kept F b o (crossCycle s a2) := by
  unfold crossCycle
  repeat' first
    | exact hF.of rfl
    | with_reducible assumption
    | with_reducible apply State.modCarSaf_kept
    | with_reducible apply tripFor_kept
    | with_reducible apply kept_ite

theorem bridgeCycle_kept (h : Kept F b o s) {a2} (hF : Fits 226679882 F) : Kept F b o (bridgeCycle s a2) := by
  unfold bridgeCycle
  repeat' first
    | exact hF.of rfl
    | with_reducible assumption
    | with_reducible apply tripFor_kept
    | with_reducible apply State.modCarSaf_kept
    | with_reducible apply kept_ite

theorem ucmCycle_kept (h : Kept F b o s) {a2} (hF : Fits 226679882 F) : Kept F b o (ucmCycle s a2) := by
  unfold ucmCycle
  repeat' first
    | exact hF.of rfl
    | with_reducible assumption
    | with_reducible apply State.modCarSaf_kept
    | with_reducible apply ucmTrip_kept
    | with_reducible apply ucmWatch_kept
    | with_reducible apply tripFor_kept
    | (intro x; subst x)
    | lift_lets
    | split

theorem testCycle_kept (h : Kept F b o s) {a2} (hF : Fits 226679882 F) : Kept F b o (testCycle s a2) := by
  unfold testCycle
  repeat' first
    | exact hF.of rfl
    | with_reducible assumption
    | with_reducible apply State.modCarSaf_kept
    | with_reducible apply tripFor_kept
    | split

theorem execBrakeTestOverdue_kept (h : Kept F b o s) {a1} (hF : Fits 67239936 F) :
    KeptO F b o (execBrakeTestOverdue a1 s) := by
  unfold execBrakeTestOverdue
  repeat' first
    | exact hF.of rfl
    | with_reducible assumption
    | with_reducible apply record_kept
    | with_reducible apply State.modCarSaf_kept
    | with_reducible apply kept_ite
    | with_reducible apply keptO_next

theorem reactionTrips_kept (h : Kept F b o s) {a2} (hF : Fits 226679882 F) : Kept F b o (reactionTrips s a2) := by
  unfold reactionTrips
  repeat' first
    | exact hF.of rfl
    | with_reducible assumption
    | with_reducible apply tripFor_kept
    | with_reducible apply kept_ite
    | (with_reducible apply forEach_kept; on_goal 2 => intros)

theorem permitCycle_kept (h : Kept F b o s) {a2} (hF : Fits 4521647178 F) : Kept F b o (permitCycle s a2) := by
  unfold permitCycle
  repeat' first
    | exact hF.of rfl
    | with_reducible assumption
    | with_reducible apply reactionTrips_kept
    | with_reducible apply State.modCarSaf_kept
    | with_reducible apply raise_kept
    | with_reducible apply State.dropCar_kept
    | with_reducible apply disagreeWatch_kept
    | with_reducible apply tripFor_kept
    | with_reducible apply kept_ite

theorem confirmOut_still {x : Out} (h : outStill x = true) : outStill (confirmOut x) = true := by
  unfold confirmOut; split <;> exact h

theorem outputsCycle_kept (h : Kept F b o s) {c} (hF : Fits 226679882 F) : Kept F b o (outputsCycle s c) := by
  unfold outputsCycle
  extract_lets k hh deny
  apply forEach_kept h
  intro s i h
  extract_lets n s1 demand s2
  have h1 : Kept F b o s1 := modOut_kept h (fun x hx => confirmOut_still hx) (hF.of rfl)
  clear_value s1
  have h2 : Kept F b o s2 := by
    unfold s2; split
    · exact driveOut_kept h1 (fun _ => live_of_driving ‹_›) (hF.of rfl)
    · exact kept_ite h1 (driveOut_kept h1 (by simp) (hF.of rfl))
  exact stuckCheck_kept h2 (hF.of rfl)

theorem carCycle_kept (h : Kept F b o s) {a2} (hF : Fits 4521647178 F) : Kept F b o (carCycle s a2) := by
  unfold carCycle
  repeat' first
    | exact hF.of rfl
    | with_reducible assumption
    | with_reducible apply measure_kept
    | with_reducible apply outputsCycle_kept
    | with_reducible apply State.modCarSaf_kept
    | with_reducible apply changeRegime_kept
    | with_reducible apply brakeCycle_kept
    | with_reducible apply bridgeCycle_kept
    | with_reducible apply speedCycle_kept
    | with_reducible apply terminalCycle_kept
    | with_reducible apply finalCycle_kept
    | with_reducible apply crossCycle_kept
    | with_reducible apply directionCycle_kept
    | with_reducible apply slipWatch_kept
    | with_reducible apply ucmCycle_kept
    | with_reducible apply permitCycle_kept
    | with_reducible apply testCycle_kept
    | with_reducible apply checkReady_kept
    | with_reducible apply kept_ite

theorem safetyCycle_kept (h : Kept F b o s) {n h' l d} (hF : Fits 4521647946 F) :
    Kept F b o (safetyCycle s n h' l d) := by
  unfold safetyCycle
  extract_lets s1 s2 s3
  have h1 : Kept F b o s1 := timebase_kept h (hF.of rfl)
  clear_value s1
  have h2 : Kept F b o s2 := forEach_kept h1 fun _ _ h => modOut_kept h (fun x hx => by simp_all [outStill, sense]) (hF.of rfl)
  clear_value s2
  have h3 : Kept F b o s3 := forEach_kept h2 fun _ _ h => ssiGap_kept (State.modSsi_kept h (hF.of rfl)) (hF.of rfl)
  clear_value s3
  exact forEach_kept (inputsCycle_kept h3 (hF.of rfl)) fun _ _ h => carCycle_kept h (hF.of rfl)

theorem execSafetyCycle_kept (h : Kept F b o s) {a1 a2 a3 a4} (hF : Fits 4521647946 F) :
    KeptO F b o (execSafetyCycle a1 a2 a3 a4 s) := by
  unfold execSafetyCycle
  repeat' first
    | exact hF.of rfl
    | with_reducible assumption
    | with_reducible apply safetyCycle_kept
    | with_reducible apply kept_ite
    | with_reducible apply keptO_next

theorem actSafetyStatus_kept (h : Kept F b o s) {a1 a2 a3} (hF : Fits 4294967296 F) :
    Kept F b o (actSafetyStatus a1 a2 a3 s) := by
  unfold actSafetyStatus
  repeat' first
    | exact hF.of rfl
    | with_reducible assumption
    | (with_reducible apply serve_kept; on_goal 2 => (intros; try beta_reduce))

theorem execSafetyStatus_kept (h : Kept F b o s) {a1 a2 a3} (hF : Fits 4362076160 F) :
    KeptO F b o (execSafetyStatus a1 a2 a3 s) := by
  unfold execSafetyStatus
  repeat' first
    | exact hF.of rfl
    | with_reducible assumption
    | (with_reducible apply hostRow_kept; on_goal 2 => (intros; try beta_reduce))
    | with_reducible apply actSafetyStatus_kept

/-! ### Modes -/

theorem provingFrom_kept (h : Kept F b o s) (hF : Fits 67104595927 F) : Kept F b o (provingFrom s) :=
  ⟨h.1.upd hF rfl, fun hb => ⟨.inr fun _ _ => rfl, ⟨Nat.zero_le _, Nat.zero_le _, (h.2 hb).2.1.2.2⟩, rfl⟩⟩

theorem startProving_kept (h : Kept F b o s) {a2} (hF : Fits 67104595927 F) : Kept F b o (startProving s a2) := by
  unfold startProving
  repeat' first
    | exact hF.of rfl
    | with_reducible assumption
    | with_reducible apply event_kept
    | with_reducible apply provingFrom_kept
    | with_reducible apply dropLoads_kept
    | with_reducible apply State.allOff_kept

theorem lastFlushOf_outs : (lastFlushOf s).saf.outs = s.saf.outs := by unfold lastFlushOf; split <;> rfl

theorem halt_kept (h : Kept F b o s) (hF : Fits 64697173056 F) : Kept F b o (halt s) := by
  unfold halt
  extract_lets s1 testing
  have h' : Kept F b o s1 :=
    clearSecrets_kept (dropLoads_kept (State.allOff_kept h (hF.of rfl)) (hF.of rfl)) (hF.of rfl)
  clear_value s1
  exact ⟨h'.1.upd hF rfl, fun hb => ⟨(h'.2 hb).1, ⟨Nat.zero_le _, Nat.zero_le _, (h'.2 hb).2.1.2.2⟩, (h'.2 hb).2.2⟩⟩

theorem lastFlushOf_kept (h : Kept F b o s) (hF : Fits 67108864 F) : Kept F b o (lastFlushOf s) := by
  unfold lastFlushOf; split
  · exact h.upd hF rfl rfl
  · exact shorter_kept h hF rfl rfl rfl rfl rfl rfl (Nat.zero_le _)

theorem loseBuffer_kept (h : Kept F b o s) (hF : Fits 67108864 F) : Kept F b o (loseBuffer s) :=
  shorter_kept h hF rfl rfl rfl rfl rfl rfl (Nat.zero_le _)

theorem dropSession_outs : (dropSession s).saf.outs = s.saf.outs := by unfold dropSession; split <;> rfl

theorem dropLoads_outs : (dropLoads s).saf.outs = s.saf.outs := by
  have h := dropSession_outs (s := s)
  unfold dropLoads
  dsimp only
  generalize dropSession s = x at h ⊢
  split <;> exact h

theorem clearSecrets_outs : (clearSecrets s).saf.outs = s.saf.outs := by unfold clearSecrets; split <;> rfl

/-- A halted device has every gate static. -/
theorem halt_still (h : Kept F b o s) (hb : b = true) : outsStill (halt s).saf.outs := by
  unfold halt
  dsimp only
  rw [clearSecrets_outs, dropLoads_outs]
  exact State.allOff_still (h.2 hb).2.2

theorem enterDormant_kept (h : Kept F b o s) {c} (hF : Fits 64772670534 F) : Kept F b o (enterDormant s c) := by
  unfold enterDormant
  extract_lets s0 s1 s2
  have h1 : Kept F b o s1 := event_kept (kept_ite (ownFindings_kept h (hF.of rfl)) h) (hF.of rfl)
  clear_value s1
  have h2 : Kept F b o s2 := lastFlushOf_kept (halt_kept h1 (hF.of rfl)) (hF.of rfl)
  have hs : b = true → outsStill s2.saf.outs := fun hb => by
    unfold s2; rw [lastFlushOf_outs]; exact halt_still h1 hb
  clear_value s2
  exact h2.any_mode hF hs rfl rfl rfl rfl rfl

theorem tryStart_kept (h : Kept F b o s) (hF : Fits 67104595927 F) : Kept F b o (tryStart s) := by
  unfold tryStart
  repeat' first
    | exact hF.of rfl
    | with_reducible assumption
    | with_reducible apply provingFrom_kept
    | with_reducible apply kept_ite
    | (apply Kept.gen; dsimp -zeta only; on_goal 2 => (intro y e hy; rw [e]; exact hy.upd hF rfl rfl))

theorem tryRelease_kept (h : Kept F b o s) (hF : Fits 67104595927 F) : Kept F b o (tryRelease s) := by
  unfold tryRelease
  split
  · rename_i hc
    simp only [Bool.and_eq_true, beq_iff_eq] at hc
    refine kept_ite (provingFrom_kept (h.upd hF rfl rfl) (hF.of rfl)) ?_
    exact h.any_mode hF (h.still (.inl (by rw [hc.1.1.1.1]; decide))) rfl rfl rfl rfl rfl
  · exact h

theorem execVaonEntersRange_kept (h : Kept F b o s) (hF : Fits 133 F) : KeptO F b o (execVaonEntersRange s) := by
  unfold execVaonEntersRange
  apply keptO_next; split
  · rename_i hc
    exact h.any_mode hF (h.still (.inl (by rw [beq_iff_eq.1 hc]; decide))) rfl rfl rfl rfl rfl
  · exact h

theorem execWakeHigh_kept (h : Kept F b o s) (hF : Fits 67104595927 F) : KeptO F b o (execWakeHigh s) := by
  unfold execWakeHigh
  extract_lets p1 s1
  have h1 : Kept F b o s1 := h.upd hF rfl rfl
  apply keptO_next
  split
  · rename_i hc
    refine tryStart_kept ?_ (hF.of rfl)
    exact h1.any_mode hF (h.still (.inl (by rw [eq_of_beq hc]; decide))) rfl rfl rfl rfl rfl
  · split
    · rename_i hc
      simp only [Bool.and_eq_true, beq_iff_eq] at hc
      refine tryStart_kept ?_ (hF.of rfl)
      exact h1.any_mode hF (h.still (.inr (by rw [hc.1.2]; decide))) rfl rfl rfl rfl rfl
    · exact h1

theorem execWakeLow_kept (h : Kept F b o s) (hF : Fits 64772670663 F) : KeptO F b o (execWakeLow s) := by
  unfold execWakeLow
  extract_lets p1 s1 p2 s2
  have h1 : Kept F b o s1 := h.upd hF rfl rfl
  have h2 : Kept F b o s2 := by refine event_kept ?_ (hF.of rfl); exact h1.upd hF rfl rfl
  have hd : ∀ c, Kept F b o (enterDormant s1 c) := fun c => enterDormant_kept h1 (hF.of rfl)
  apply keptO_next
  split
  · rename_i hc
    exact h.any_mode hF (h.still (.inl (by rw [hc]; decide))) rfl rfl rfl rfl rfl
  · rename_i hc
    refine kept_ite ?_ h1
    exact h.any_mode hF (h.still (.inl (by rw [hc]; decide))) rfl rfl rfl rfl rfl
  · clear_value s2
    split
    · exact h1.upd hF rfl rfl
    · exact h1
    · exact event_kept h1 (hF.of rfl)
    · exact kept_ite (h1.upd hF rfl rfl) (hd _)
    · exact kept_ite h2 (hd _)
    · exact kept_ite h2 (hd _)
  · exact h1

theorem execHeldWakeDemandTaken_kept (h : Kept F b o s) (hF : Fits 64772670534 F) :
    KeptO F b o (execHeldWakeDemandTaken s) := by
  unfold execHeldWakeDemandTaken
  repeat' first
    | exact hF.of rfl
    | with_reducible assumption
    | with_reducible apply enterDormant_kept
    | with_reducible apply kept_ite
    | with_reducible apply keptO_next

theorem execModeTransitionBegin_kept (h : Kept F b o s) (hF : Fits 67108790231 F) :
    KeptO F b o (execModeTransitionBegin s) := by
  unfold execModeTransitionBegin
  repeat' first
    | exact hF.of rfl
    | with_reducible assumption
    | with_reducible apply startProving_kept
    | with_reducible apply enterDormant_kept
    | with_reducible apply keptO_next
    | split

theorem execRstNLow_kept (h : Kept F b o s) (hF : Fits 64764282053 F) : KeptO F b o (execRstNLow s) := by
  have h2 := lastFlushOf_kept (halt_kept h (hF.of rfl)) (hF.of rfl)
  have hs : b = true → outsStill (lastFlushOf (halt s)).saf.outs := fun hb => by
    rw [lastFlushOf_outs]; exact halt_still h hb
  unfold execRstNLow
  refine keptO_next (kept_ite ?_ (h.upd hF rfl rfl))
  dsimp only
  generalize lastFlushOf (halt s) = x at h2 hs ⊢
  exact h2.any_mode hF hs rfl rfl rfl rfl rfl

theorem execResetRelease_kept (h : Kept F b o s) (hF : Fits 67104595927 F) : KeptO F b o (execResetRelease s) := by
  unfold execResetRelease
  repeat' first
    | exact hF.of rfl
    | with_reducible assumption
    | with_reducible apply tryRelease_kept
    | with_reducible apply tryStart_kept
    | with_reducible apply keptO_next
    | (apply Kept.gen; dsimp -zeta only; on_goal 2 => (intro y e hy; rw [e]; exact hy.upd hF rfl rfl))

theorem loseBuffer_outs : (loseBuffer s).saf.outs = s.saf.outs := rfl

/-- A halted device without its buffer may be in any state of power. -/
theorem lost_kept (h : Kept F b o s) {N : Nat} {f : State → State} (hF : Fits N F) (hN : Fits 64764282055 F)
    (h1 : ∀ x, wipe N (f x) = wipe N x ∧ (f x).saf.outs = x.saf.outs ∧ (f x).host.port.waiting = x.host.port.waiting
      ∧ (f x).host.link.waiting = x.host.link.waiting ∧ (f x).log.buffer = x.log.buffer) :
    Kept F b o (f (loseBuffer (halt s))) := by
  have h2 := loseBuffer_kept (halt_kept h (hN.of rfl)) (hN.of rfl)
  have hs : b = true → outsStill (loseBuffer (halt s)).saf.outs := fun hb => by
    rw [loseBuffer_outs]; exact halt_still h hb
  obtain ⟨e1, e2, e3, e4, e5⟩ := h1 (loseBuffer (halt s))
  exact h2.any_mode hF hs e1 e2 e3 e4 e5

theorem execSupplyLoss_kept (h : Kept F b o s) {v} (hF : Fits 64764282055 F) : KeptO F b o (execSupplyLoss v s) := by
  have hl : ∀ {s}, Kept F b o s → Kept F b o (loseBuffer s) := fun h => loseBuffer_kept h (hF.of rfl)
  unfold execSupplyLoss
  apply keptO_next
  split
  · exact lost_kept (f := fun x => { x with
      power := .off, mode := .dormant, pins := { s.pins with vaon := false, wakeHeld := false } }) h hF hF
      fun _ => ⟨rfl, rfl, rfl, rfl, rfl⟩
  · extract_lets p1 s1
    have h1 : Kept F b o s1 := h.upd hF rfl rfl
    refine kept_ite ?_ (kept_ite h1 (kept_ite ?_ (hl h1)))
    · exact lost_kept (f := fun x => { x with power := .inReset, resetFrom := (modeCode s.mode, 3) }) h1 hF hF
        fun _ => ⟨rfl, rfl, rfl, rfl, rfl⟩
    · exact (hl h1).app (f := fun x => { x with resetFrom := (s.resetFrom.1, 3) }) hF fun _ => ⟨rfl, rfl⟩

theorem execSuppliesRestored_kept (h : Kept F b o s) (hF : Fits 67104595927 F) :
    KeptO F b o (execSuppliesRestored s) := by
  unfold execSuppliesRestored
  repeat' first
    | exact hF.of rfl
    | with_reducible assumption
    | with_reducible apply tryRelease_kept
    | with_reducible apply tryStart_kept
    | with_reducible apply keptO_next
    | (apply Kept.gen; dsimp -zeta only; on_goal 2 => (intro y e hy; rw [e]; exact hy.upd hF rfl rfl))

theorem execBaseImageRestart_kept (h : Kept F b o s) (hF : Fits 67104595927 F) :
    KeptO F b o (execBaseImageRestart s) := by
  unfold execBaseImageRestart
  repeat' first
    | exact hF.of rfl
    | with_reducible assumption
    | with_reducible apply startProving_kept
    | with_reducible apply kept_ite
    | with_reducible apply keptO_next

theorem execPosStrapChange_kept (h : Kept F b o s) {a1} (hF : Fits 67108868 F) :
    KeptO F b o (execPosStrapChange a1 s) := by
  unfold execPosStrapChange
  repeat' first
    | exact hF.of rfl
    | with_reducible assumption
    | with_reducible apply record_kept
    | with_reducible apply kept_ite
    | with_reducible apply keptO_next
    | (apply Kept.gen; dsimp -zeta only; on_goal 2 => (intro y e hy; rw [e]; exact hy.upd hF rfl rfl))

theorem execTemperatureExcursion_kept (h : Kept F b o s) {a1} (hF : Fits 83886080 F) :
    KeptO F b o (execTemperatureExcursion a1 s) := by
  unfold execTemperatureExcursion
  repeat' first
    | exact hF.of rfl
    | with_reducible assumption
    | with_reducible apply record_kept
    | with_reducible apply kept_ite
    | with_reducible apply keptO_next
    | (apply Kept.gen; dsimp -zeta only; on_goal 2 => (intro y e hy; rw [e]; exact hy.upd hF rfl rfl))

theorem execOvertemperatureLockout_kept (h : Kept F b o s) {a1} (hF : Fits 226679882 F) :
    KeptO F b o (execOvertemperatureLockout a1 s) := by
  unfold execOvertemperatureLockout
  repeat' first
    | exact hF.of rfl
    | with_reducible assumption
    | with_reducible apply raise_kept
    | with_reducible apply kept_ite
    | with_reducible apply keptO_next
    | (apply Kept.gen; dsimp -zeta only; on_goal 2 => (intro y e hy; rw [e]; exact hy.upd hF rfl rfl))

theorem claim_kept (h : Kept F b o s) {a2} (hF : Fits 8388608 F) : Kept F b o (claim s a2) := h.upd hF rfl rfl

theorem settle_kept (h : Kept F b o s) (hF : Fits 75497472 F) : Kept F b o (settle s) := by
  unfold settle
  repeat' first
    | exact hF.of rfl
    | with_reducible assumption
    | with_reducible apply claim_kept
    | with_reducible apply event_kept
    | with_reducible apply kept_ite
    | split
    | (apply Kept.gen; dsimp -zeta only; on_goal 2 => (intro y e hy; rw [e]; exact hy.upd hF rfl rfl))

theorem unitRestore_kept (h : Kept F b o s) (hF : Fits 43306188832 F) : Kept F b o (unitRestore s) := by
  unfold unitRestore
  repeat' first
    | exact hF.of rfl
    | with_reducible assumption
    | with_reducible apply clearSecrets_kept
    | with_reducible apply record_kept
    | with_reducible apply kept_ite
    | with_reducible apply kept_ite_fst
    | (with_reducible apply forEach_kept; on_goal 2 => intros)
    | (intro x; subst x)
    | (with_reducible apply foldl_kept; on_goal 2 => intros)
    | (with_reducible apply foldl_fst_kept; on_goal 2 => intros)
    | lift_lets
    | split
    | (with_reducible refine kept_fst ‹_ = (_, _)› ?_)
    | (apply Kept.gen; dsimp -zeta only; on_goal 2 => (intro y e hy; rw [e]; exact hy.upd hF rfl rfl))

theorem unitImages_kept (h : Kept F b o s) {a2} (hF : Fits 17246978048 F) : Kept F b o (unitImages s a2).1 := by
  have ha : ∀ {s t n}, Kept F b o s → Kept F b o (activateSlot s t n) := fun h => activateSlot_kept h (hF.of rfl)
  have hr : ∀ {s f}, Kept F b o s → Kept F b o (record s f) := fun h => record_kept h (hF.of rfl)
  unfold unitImages
  extract_lets s1 spoil other s2
  have hs : ∀ {s t}, Kept F b o s → Kept F b o (spoil s t) := fun h => by
    unfold spoil; split
    · exact State.modImgSlot_kept h (hF.of rfl)
    · exact h
  clear_value spoil
  have h1 : Kept F b o s1 := forEach_kept h fun _ _ h => by
    split
    · exact ha h
    · exact h
  clear_value s1
  split
  rename_i s3 base e
  have h3 : Kept F b o s3 := kept_fst e (kept_ite_fst h1 (kept_ite_fst (hr (ha (hs h1))) (hs h1)))
  extract_lets s4 s5 s6
  have h4 : Kept F b o s4 := kept_ite (hs h3) h3
  have h5 : Kept F b o s5 := kept_ite (hs h4) h4
  clear_value s5
  show Kept F b o s6
  unfold s6; split
  · exact kept_ite (hr h5) h5
  · exact h5

theorem endProving_kept (h : Kept F b o s) (hF : Fits 2911012170 F) : Kept F b o (endProving s) := by
  unfold endProving
  repeat' first
    | exact hF.of rfl
    | with_reducible assumption
    | with_reducible apply enterMode_kept
    | with_reducible apply openMode_kept
    | with_reducible apply changeMode_kept
    | with_reducible apply settle_kept
    | with_reducible apply kept_ite
    | (apply Kept.gen; dsimp -zeta only; on_goal 2 => (intro y e hy; rw [e]; exact hy.upd hF rfl rfl))

theorem recordEntries_kept (h : Kept F b o s) (hF : Fits 67108992 F) : Kept F b o (recordEntries s) := by
  unfold recordEntries
  repeat' first
    | exact hF.of rfl
    | with_reducible assumption
    | with_reducible apply event_kept
    | (with_reducible apply forEach_kept; on_goal 2 => intros)
    | lift_lets
    | (apply Kept.gen; dsimp -zeta only; on_goal 2 => (intro y e hy; rw [e]; exact hy.upd hF rfl rfl))

theorem unitDone_kept (h : Kept F b o s) {u r bad d} (hF : Fits 62633542816 F) :
    Kept F b o (unitDone s u r bad d) := by
  unfold unitDone
  extract_lets s1
  have h1 : Kept F b o s1 := kept_ite (unitRestore_kept h (hF.of rfl)) h
  clear_value s1
  have h2 : Kept F b o (if u == 0x13 then unitImages s1 (if r == 2 then bad else []) else (s1, true)).1 :=
    kept_ite_fst (unitImages_kept h1 (hF.of rfl)) h1
  generalize (if u == 0x13 then unitImages s1 (if r == 2 then bad else []) else (s1, true)) = x at h2 ⊢
  obtain ⟨s2, base⟩ := x
  generalize unitFailed s2 u bad = y
  obtain ⟨blocking, degraded, p⟩ := y
  dsimp -zeta only
  extract_lets bl s3 p2 s4 s5 s6 s7 i8 s8 s9 p10
  have h3 : Kept F b o s3 := kept_ite (h2.upd hF rfl rfl) h2
  clear_value s3
  have h5 : Kept F b o s5 := h3.upd hF rfl rfl
  clear_value s5
  have h6 : Kept F b o s6 := kept_ite (recordEntries_kept h5 (hF.of rfl)) h5
  clear_value s6
  have h7 : Kept F b o s7 := kept_ite (record_kept h6 (hF.of rfl)) (kept_ite (record_kept h6 (hF.of rfl)) h6)
  clear_value s7
  have h8 : Kept F b o s8 := kept_ite (h7.upd hF rfl rfl) h7
  clear_value s8
  have h9 : Kept F b o s9 := kept_ite (reloadSecrets_kept h8 (hF.of rfl)) h8
  clear_value s9
  exact kept_ite (reallocate_kept (h9.upd hF rfl rfl) (hF.of rfl)) h9

theorem execProvingUnitComplete_kept (h : Kept F b o s) {a1 a2 a3 a4} (hF : Fits 67608151534 F) :
    KeptO F b o (execProvingUnitComplete a1 a2 a3 a4 s) := by
  unfold execProvingUnitComplete
  repeat' first
    | exact hF.of rfl
    | with_reducible assumption
    | with_reducible apply unitDone_kept
    | with_reducible apply enterDormant_kept
    | with_reducible apply endProving_kept
    | with_reducible apply kept_ite
    | with_reducible apply keptO_next
    | (apply Kept.gen; dsimp -zeta only; on_goal 2 => (intro y e hy; rw [e]; exact hy.upd hF rfl rfl))

theorem actProvingReport_kept (h : Kept F b o s) {a1 a2 a3} (hF : Fits 4294967296 F) :
    Kept F b o (actProvingReport a1 a2 a3 s) := by
  unfold actProvingReport
  repeat' first
    | exact hF.of rfl
    | with_reducible assumption
    | (with_reducible apply serve_kept; on_goal 2 => (intros; try beta_reduce))

theorem execProvingReport_kept (h : Kept F b o s) {a1 a2 a3} (hF : Fits 4362076160 F) :
    KeptO F b o (execProvingReport a1 a2 a3 s) := by
  unfold execProvingReport
  repeat' first
    | exact hF.of rfl
    | with_reducible assumption
    | (with_reducible apply hostRow_kept; on_goal 2 => (intros; try beta_reduce))
    | with_reducible apply actProvingReport_kept

theorem actPing_kept (h : Kept F b o s) {a1 a2} (hF : Fits 4294967296 F) : Kept F b o (actPing a1 a2 s) := by
  unfold actPing
  repeat' first
    | exact hF.of rfl
    | with_reducible assumption
    | (with_reducible apply serve_kept; on_goal 2 => (intros; try beta_reduce))

theorem execPing_kept (h : Kept F b o s) {a1 a2} (hF : Fits 4362076160 F) : KeptO F b o (execPing a1 a2 s) := by
  unfold execPing
  repeat' first
    | exact hF.of rfl
    | with_reducible assumption
    | (with_reducible apply hostRow_kept; on_goal 2 => (intros; try beta_reduce))
    | with_reducible apply actPing_kept

theorem execBgSliceStart_kept (h : Kept F b o s) {a1} (hF : Fits 16777216 F) :
    KeptO F b o (execBgSliceStart a1 s) := by
  unfold execBgSliceStart
  repeat' first
    | exact hF.of rfl
    | with_reducible assumption
    | with_reducible apply kept_ite
    | with_reducible apply keptO_next
    | (apply Kept.gen; dsimp -zeta only; on_goal 2 => (intro y e hy; rw [e]; exact hy.upd hF rfl rfl))

theorem endCycle_kept (h : Kept F b o s) (hF : Fits 2231369728 F) : Kept F b o (endCycle s) := by
  unfold endCycle
  repeat' first
    | exact hF.of rfl
    | with_reducible assumption
    | with_reducible apply event_kept
    | with_reducible apply State.latch'_kept
    | lift_lets
    | (apply Kept.gen; dsimp -zeta only; on_goal 2 => (intro y e hy; rw [e]; exact hy.upd hF rfl rfl))

theorem bgFailed_kept (h : Kept F b o s) {a2 a3} (hF : Fits 2374163530 F) : Kept F b o (bgFailed s a2 a3) := by
  unfold bgFailed
  repeat' first
    | exact hF.of rfl
    | with_reducible assumption
    | with_reducible apply loseLane_kept
    | with_reducible apply raise_kept
    | with_reducible apply kept_ite
    | with_reducible apply kept_ite_fst
    | (with_reducible apply forEach_kept; on_goal 2 => intros)
    | (extract_lets x; refine cut (P := Kept F b o x) ?_ fun hx => ?_
       (on_goal 2 => clear_value x); (on_goal 1 => subst x))
    | (extract_lets x; refine cut (P := Kept F b o x.1) ?_ fun hx => ?_
       (on_goal 2 => clear_value x); (on_goal 1 => subst x))
    | (extract_lets x; clear_value x)
    | (with_reducible apply foldl_kept; on_goal 2 => intros)
    | (with_reducible apply foldl_fst_kept; on_goal 2 => intros)
    | split
    | (with_reducible refine kept_fst ‹_ = (_, _)› ?_)
    | (apply Kept.gen; dsimp -zeta only; on_goal 2 => (intro y e hy; rw [e]; exact hy.upd hF rfl rfl))

theorem execBgSliceComplete_kept (h : Kept F b o s) {a1 a2 a3 a4} (hF : Fits 2374163530 F) :
    KeptO F b o (execBgSliceComplete a1 a2 a3 a4 s) := by
  unfold execBgSliceComplete
  repeat' first
    | exact hF.of rfl
    | with_reducible assumption
    | with_reducible apply abandonSlice_kept
    | with_reducible apply record_kept
    | with_reducible apply bgFailed_kept
    | with_reducible apply endCycle_kept
    | with_reducible apply kept_ite
    | with_reducible apply keptO_next
    | (apply Kept.gen; dsimp -zeta only; on_goal 2 => (intro y e hy; rw [e]; exact hy.upd hF rfl rfl))

theorem execBgCycleOverdue_kept (h : Kept F b o s) (hF : Fits 83886080 F) : KeptO F b o (execBgCycleOverdue s) := by
  unfold execBgCycleOverdue
  repeat' first
    | exact hF.of rfl
    | with_reducible assumption
    | with_reducible apply record_kept
    | with_reducible apply kept_ite
    | with_reducible apply keptO_next
    | (apply Kept.gen; dsimp -zeta only; on_goal 2 => (intro y e hy; rw [e]; exact hy.upd hF rfl rfl))

theorem execHealthPublish_kept (h : Kept F b o s) {a1 a2} (hF : Fits 16777216 F) :
    KeptO F b o (execHealthPublish a1 a2 s) := by
  unfold execHealthPublish
  repeat' first
    | exact hF.of rfl
    | with_reducible assumption
    | with_reducible apply kept_ite
    | with_reducible apply keptO_next
    | (apply Kept.gen; dsimp -zeta only; on_goal 2 => (intro y e hy; rw [e]; exact hy.upd hF rfl rfl))

theorem releaseForces_kept (h : Kept F b o s) (hF : Fits 1048576 F) : Kept F b o (releaseForces s) := h.upd hF rfl rfl

theorem modeNow_kept (h : Kept F b o s) {a2} (hF : Fits 2777859394 F) : Kept F b o (modeNow s a2) := by
  unfold modeNow
  extract_lets s1 wasShadow s2 d s3 s4 p s5
  have h2 : Kept F b o s2 := enterMode_kept (kept_ite (releaseForces_kept h (hF.of rfl)) h) (hF.of rfl)
  clear_value s2
  have h3 : Kept F b o s3 := kept_ite (h2.upd hF rfl rfl) h2
  clear_value s3
  have h4 : Kept F b o s4 := abandonSlice_kept h3 (hF.of rfl)
  clear_value s4
  have h5 : Kept F b o s5 := kept_ite (h4.upd hF rfl rfl) h3
  clear_value s5
  exact kept_ite (settle_kept h5 (hF.of rfl)) h5

theorem requestMode_kept (h : Kept F b o s) {a2 a3} (hF : Fits 2912077130 F) :
    Kept F b o (requestMode s a2 a3).1 := by
  unfold requestMode
  repeat' first
    | exact hF.of rfl
    | with_reducible assumption
    | with_reducible apply modeNow_kept
    | with_reducible apply lockoutBy_kept
    | lift_lets
    | split
    | (apply Kept.gen; dsimp -zeta only; on_goal 2 => (intro y e hy; rw [e]; exact hy.upd hF rfl rfl))

theorem actModeRequest_kept (h : Kept F b o s) {a1 a2 a3 a4} (hF : Fits 41566782794 F) :
    Kept F b o (actModeRequest a1 a2 a3 a4 s) := by
  unfold actModeRequest
  repeat' first
    | exact hF.of rfl
    | with_reducible assumption
    | with_reducible apply answer_kept
    | with_reducible apply useToken_kept
    | with_reducible apply requestMode_kept
    | (intro x; subst x)
    | lift_lets
    | split
    | (with_reducible refine kept_fst ‹_ = (_, _)› ?_)

theorem execModeRequest_kept (h : Kept F b o s) {a1 a2 a3 a4} (hF : Fits 41566782794 F) :
    KeptO F b o (execModeRequest a1 a2 a3 a4 s) := by
  unfold execModeRequest
  repeat' first
    | exact hF.of rfl
    | with_reducible assumption
    | (with_reducible apply hostRow_kept; on_goal 2 => (intros; try beta_reduce))
    | with_reducible apply actModeRequest_kept
    | with_reducible apply keptO_ite
    | exact keptO_fault

theorem execDormantOrderReceived_kept (h : Kept F b o s) (hF : Fits 64772670534 F) :
    KeptO F b o (execDormantOrderReceived s) := by
  unfold execDormantOrderReceived
  repeat' first
    | exact hF.of rfl
    | with_reducible assumption
    | with_reducible apply enterDormant_kept
    | with_reducible apply kept_ite
    | with_reducible apply keptO_next

end Sys2Proof.Machine
end

