-- ==== Sys2Proof/Laws/KeptLinks.lean ====
section
/-! SUPPORT. What the operations of these units keep (`Kept`): ports and nodes, takeovers, parameters, health records, resets. -/

namespace Sys2Proof.Machine

variable {F N : Nat} {b : Bool} {o s t : State}

/-! ### Links -/

theorem endMessage_kept (h : Kept F b o s) {a2 a3 a4} (hF : Fits 4362862592 F) :
    Kept F b o (endMessage s a2 a3 a4) := by
  unfold endMessage
  repeat' first
    | exact hF.of rfl
    | with_reducible assumption
    | with_reducible apply record_kept
    | with_reducible apply State.modPort_kept
    | with_reducible apply State.modNode_kept
    | with_reducible apply notifyOn_kept
    | (intro x; subst x)
    | lift_lets
    | split

theorem abortMessages_kept (h : Kept F b o s) {a2} (hF : Fits 4362862592 F) : Kept F b o (abortMessages s a2) := by
  unfold abortMessages
  repeat' first
    | exact hF.of rfl
    | with_reducible assumption
    | with_reducible apply endMessage_kept
    | (with_reducible apply forEach_kept; on_goal 2 => intros)

theorem restartPort_kept (h : Kept F b o s) {a2} (hF : Fits 4362862592 F) : Kept F b o (restartPort s a2) := by
  unfold restartPort
  repeat' first
    | exact hF.of rfl
    | with_reducible assumption
    | with_reducible apply abortMessages_kept
    | with_reducible apply event_kept
    | with_reducible apply State.modPort_kept

theorem messageDue_kept (h : Kept F b o s) {a2 a3} (hF : Fits 4362862592 F) : Kept F b o (messageDue s a2 a3) := by
  unfold messageDue
  repeat' first
    | exact hF.of rfl
    | with_reducible assumption
    | with_reducible apply endMessage_kept
    | with_reducible apply kept_ite

theorem tableDue_kept (h : Kept F b o s) {a2 a3} (hF : Fits 524288 F) : Kept F b o (tableDue s a2 a3) := by
  unfold tableDue
  repeat' first
    | exact hF.of rfl
    | with_reducible assumption
    | with_reducible apply State.modNode_kept
    | with_reducible apply kept_ite
    | split

theorem closeCycle_kept (h : Kept F b o s) {a2} (hF : Fits 786432 F) : Kept F b o (closeCycle s a2) := by
  unfold closeCycle
  repeat' first
    | exact hF.of rfl
    | with_reducible assumption
    | with_reducible apply State.modNode_kept
    | with_reducible apply State.modPort_kept
    | with_reducible apply kept_ite
    | with_reducible apply kept_ite_fst
    | (with_reducible apply forEach_kept; on_goal 2 => intros)
    | (extract_lets x; refine cut (P := Kept F b o x) ?_ fun hx => ?_
       (on_goal 2 => clear_value x); (on_goal 1 => subst x))
    | (extract_lets x; refine cut (P := Kept F b o x.1) ?_ fun hx => ?_
       (on_goal 2 => clear_value x); (on_goal 1 => subst x))
    | (extract_lets x; clear_value x)
    | (with_reducible apply foldl_kept; on_goal 2 => intros)
    | (with_reducible apply foldl_fst_kept; on_goal 2 => intros)
    | split

theorem addSegments_kept (h : Kept F b o s) {p cls cap wins cyc as f out} (hF : Fits 524288 F) :
    Kept F b o (addSegments p cls cap wins cyc as s f out).1 := by
  induction as generalizing s f out with
  | nil => exact h
  | cons a as ih =>
    simp only [addSegments]
    generalize segmentFor _ _ = g
    cases g with
    | none => exact ih h
    | some x =>
      dsimp only
      split
      · exact ih h
      · exact ih (State.modNode_kept h (hF.of rfl))

theorem burst_kept (h : Kept F b o s) {a2 a3 a4} (hF : Fits 4362862592 F) : Kept F b o (burst s a2 a3 a4) := by
  unfold burst
  repeat' first
    | exact hF.of rfl
    | with_reducible assumption
    | with_reducible apply tableDue_kept
    | with_reducible apply messageDue_kept
    | with_reducible apply addSegments_kept
    | with_reducible apply State.modPort_kept
    | with_reducible apply kept_ite
    | with_reducible apply kept_ite_fst
    | (with_reducible apply forEach_kept; on_goal 2 => intros)

theorem resumeBurst_kept (h : Kept F b o s) {a2} (hF : Fits 4362862592 F) : Kept F b o (resumeBurst s a2) := by
  unfold resumeBurst
  repeat' first
    | exact hF.of rfl
    | with_reducible assumption
    | with_reducible apply burst_kept
    | with_reducible apply kept_ite

theorem tailDrop_kept (h : Kept F b o s) {a2 a3} (hF : Fits 8388608 F) :
    Kept F b o (tailDrop s a2 a3) :=
  h.upd hF rfl rfl

theorem nodeGone_kept (h : Kept F b o s) {a2 a3} (hF : Fits 226679882 F) : Kept F b o (nodeGone s a2 a3) := by
  unfold nodeGone
  repeat' first
    | exact hF.of rfl
    | with_reducible assumption
    | with_reducible apply State.requestStop_kept
    | with_reducible apply State.modDoor_kept
    | with_reducible apply losePosition_kept
    | with_reducible apply jogDemand_kept
    | with_reducible apply kept_ite
    | (with_reducible apply forEach_kept; on_goal 2 => intros)
    | split

theorem loseNode_kept (h : Kept F b o s) {a2 a3} (hF : Fits 4522433610 F) : Kept F b o (loseNode s a2 a3) := by
  unfold loseNode
  repeat' first
    | exact hF.of rfl
    | with_reducible assumption
    | with_reducible apply endMessage_kept
    | with_reducible apply State.modNode_kept
    | with_reducible apply nodeGone_kept
    | with_reducible apply raise_kept
    | with_reducible apply budgetWatch_kept
    | with_reducible apply kept_ite

theorem losePort_kept (h : Kept F b o s) {a2} (hF : Fits 4522433610 F) : Kept F b o (losePort s a2) := by
  unfold losePort
  repeat' first
    | exact hF.of rfl
    | with_reducible assumption
    | with_reducible apply State.modPort_kept
    | with_reducible apply raise_kept
    | with_reducible apply tailDrop_kept
    | with_reducible apply loseNode_kept
    | with_reducible apply kept_ite
    | (with_reducible apply forEach_kept; on_goal 2 => intros)
    | (apply Kept.gen; dsimp -zeta only; on_goal 2 => (intro y e hy; rw [e]; exact hy.upd hF rfl rfl))

theorem ownMismatch_kept (h : Kept F b o s) {a2 a3} (hF : Fits 4522433610 F) : Kept F b o (ownMismatch s a2 a3) := by
  unfold ownMismatch
  repeat' first
    | exact hF.of rfl
    | with_reducible assumption
    | with_reducible apply State.modPort_kept
    | with_reducible apply losePort_kept
    | with_reducible apply raise_kept
    | with_reducible apply kept_ite

theorem nodeCycle_kept (h : Kept F b o s) {a2 a3 a4 a5} (hF : Fits 4523482186 F) :
    Kept F b o (nodeCycle s a2 a3 a4 a5) := by
  unfold nodeCycle
  repeat' first
    | exact hF.of rfl
    | with_reducible assumption
    | with_reducible apply closeCycle_kept
    | with_reducible apply State.modPort_kept
    | with_reducible apply ownMismatch_kept
    | with_reducible apply burst_kept
    | with_reducible apply State.modPoint_kept
    | with_reducible apply kept_ite
    | (with_reducible apply forEach_kept; on_goal 2 => intros)

theorem hostCycle_kept (h : Kept F b o s) {a2} (hF : Fits 4362338304 F) : Kept F b o (hostCycle s a2) := by
  unfold hostCycle
  repeat' first
    | exact hF.of rfl
    | with_reducible assumption
    | with_reducible apply popOut_kept
    | with_reducible apply State.modPort_kept
    | (with_reducible apply forEach_kept; on_goal 2 => intros)

theorem pairCycle_kept (h : Kept F b o s) {a2} (hF : Fits 278528 F) :
    Kept F b o (pairCycle s a2) :=
  h.upd hF rfl rfl

theorem execPortCycleStart_kept (h : Kept F b o s) {a1 a2 a3} (hF : Fits 4523482186 F) :
    KeptO F b o (execPortCycleStart a1 a2 a3 s) := by
  unfold execPortCycleStart
  repeat' first
    | exact hF.of rfl
    | with_reducible assumption
    | with_reducible apply nodeCycle_kept
    | with_reducible apply ownMismatch_kept
    | with_reducible apply hostCycle_kept
    | with_reducible apply pairCycle_kept
    | with_reducible apply kept_ite
    | with_reducible apply keptO_next
    | split

theorem ringCheck_kept (h : Kept F b o s) {a2 a3} (hF : Fits 226942026 F) : Kept F b o (ringCheck s a2 a3) := by
  unfold ringCheck
  repeat' first
    | exact hF.of rfl
    | with_reducible assumption
    | with_reducible apply State.modPort_kept
    | with_reducible apply event_kept
    | with_reducible apply raise_kept
    | with_reducible apply kept_ite

theorem execRingHeaderCheck_kept (h : Kept F b o s) {a1 a2} (hF : Fits 226942026 F) :
    KeptO F b o (execRingHeaderCheck a1 a2 s) := by
  unfold execRingHeaderCheck
  repeat' first
    | exact hF.of rfl
    | with_reducible assumption
    | with_reducible apply ringCheck_kept
    | with_reducible apply kept_ite
    | with_reducible apply keptO_next

theorem execRingProbe_kept (h : Kept F b o s) {a1} (hF : Fits 262144 F) : KeptO F b o (execRingProbe a1 s) := by
  unfold execRingProbe
  repeat' first
    | exact hF.of rfl
    | with_reducible assumption
    | with_reducible apply State.modPort_kept
    | with_reducible apply kept_ite
    | with_reducible apply keptO_next

theorem execHostChannelDown_kept (h : Kept F b o s) {a1} (hF : Fits 4362076160 F) :
    KeptO F b o (execHostChannelDown a1 s) := by
  unfold execHostChannelDown
  repeat' first
    | exact hF.of rfl
    | with_reducible assumption
    | with_reducible apply record_kept
    | with_reducible apply kept_ite
    | with_reducible apply keptO_next
    | (apply Kept.gen; dsimp -zeta only; on_goal 2 => (intro y e hy; rw [e]; exact hy.upd hF rfl rfl))

theorem actPortConfig_kept (h : Kept F b o s) {a1 a2 a3 a4 a5 a6 a7 a8 a9 a10 a11 a12} (hF : Fits 6442450944 F) :
    Kept F b o (actPortConfig a1 a2 a3 a4 a5 a6 a7 a8 a9 a10 a11 a12 s) := by
  unfold actPortConfig
  repeat' first
    | exact hF.of rfl
    | with_reducible assumption
    | (with_reducible apply serve_kept; on_goal 2 => (intros; try beta_reduce))
    | with_reducible apply stageEntries_kept

theorem execPortConfig_kept (h : Kept F b o s) {a1 a2 a3 a4 a5 a6 a7 a8 a9 a10 a11 a12} (hF : Fits 6509559808 F) :
    KeptO F b o (execPortConfig a1 a2 a3 a4 a5 a6 a7 a8 a9 a10 a11 a12 s) := by
  unfold execPortConfig
  repeat' first
    | exact hF.of rfl
    | with_reducible assumption
    | (with_reducible apply hostRow_kept; on_goal 2 => (intros; try beta_reduce))
    | with_reducible apply actPortConfig_kept

theorem actPortStatus_kept (h : Kept F b o s) {a1 a2} (hF : Fits 4294967296 F) :
    Kept F b o (actPortStatus a1 a2 s) := by
  unfold actPortStatus
  repeat' first
    | exact hF.of rfl
    | with_reducible assumption
    | (with_reducible apply serve_kept; on_goal 2 => (intros; try beta_reduce))

theorem execPortStatus_kept (h : Kept F b o s) {a1 a2} (hF : Fits 4362076160 F) :
    KeptO F b o (execPortStatus a1 a2 s) := by
  unfold execPortStatus
  repeat' first
    | exact hF.of rfl
    | with_reducible assumption
    | (with_reducible apply hostRow_kept; on_goal 2 => (intros; try beta_reduce))
    | with_reducible apply actPortStatus_kept

/-! ### Nodes -/

theorem sampleInput_kept (h : Kept F b o s) {a2 a3 a4} (hF : Fits 68157440 F) :
    Kept F b o (sampleInput s a2 a3 a4) := by
  unfold sampleInput
  repeat' first
    | exact hF.of rfl
    | with_reducible assumption
    | with_reducible apply State.modPoint_kept
    | with_reducible apply record_kept
    | with_reducible apply event_kept
    | with_reducible apply kept_ite

theorem refuseLatch_kept (h : Kept F b o s) {a2 a3 a4 a5} (hF : Fits 67633152 F) :
    Kept F b o (refuseLatch s a2 a3 a4 a5) := by
  unfold refuseLatch
  repeat' first
    | exact hF.of rfl
    | with_reducible assumption
    | with_reducible apply record_kept
    | with_reducible apply State.modNode_kept
    | with_reducible apply kept_ite

theorem enterLatch_kept (h : Kept F b o s) {a2 a3 a4} (hF : Fits 67649536 F) :
    Kept F b o (enterLatch s a2 a3 a4) := by
  unfold enterLatch
  repeat' first
    | exact hF.of rfl
    | with_reducible assumption
    | with_reducible apply State.modNode_kept
    | with_reducible apply refuseLatch_kept
    | with_reducible apply enterCall_kept
    | (intro x; subst x)
    | lift_lets
    | split
    | (with_reducible refine kept_fst ‹_ = (_, _)› ?_)

theorem latchInput_kept (h : Kept F b o s) {a2 a3 a4} (hF : Fits 68698112 F) :
    Kept F b o (latchInput s a2 a3 a4) := by
  unfold latchInput
  repeat' first
    | exact hF.of rfl
    | with_reducible assumption
    | with_reducible apply State.modPoint_kept
    | with_reducible apply enterLatch_kept
    | with_reducible apply kept_ite

theorem driveReply_kept (h : Kept F b o s) {a2 a3} (hF : Fits 226679882 F) : Kept F b o (driveReply s a2 a3) := by
  unfold driveReply
  repeat' first
    | exact hF.of rfl
    | with_reducible assumption
    | with_reducible apply State.requestStop_kept
    | with_reducible apply raise_kept
    | with_reducible apply checkReady_kept
    | with_reducible apply kept_ite
    | split

theorem stationReply_kept (h : Kept F b o s) {a2 a3} (hF : Fits 67110912 F) : Kept F b o (stationReply s a2 a3) := by
  unfold stationReply
  repeat' first
    | exact hF.of rfl
    | with_reducible assumption
    | with_reducible apply checkReady_kept
    | with_reducible apply jogDemand_kept
    | with_reducible apply kept_ite
    | split

theorem replyMessages_kept (h : Kept F b o s) {a2 a3 a4} (hF : Fits 4362862592 F) :
    Kept F b o (replyMessages s a2 a3 a4) := by
  unfold replyMessages
  repeat' first
    | exact hF.of rfl
    | with_reducible assumption
    | with_reducible apply State.modNode_kept
    | with_reducible apply endMessage_kept
    | with_reducible apply kept_ite

theorem heardAt_kept (h : Kept F b o s) {a2 a3 a4} (hF : Fits 67895296 F) : Kept F b o (heardAt s a2 a3 a4) := by
  unfold heardAt
  repeat' first
    | exact hF.of rfl
    | with_reducible assumption
    | with_reducible apply State.modNode_kept
    | with_reducible apply record_kept
    | with_reducible apply State.modPort_kept
    | with_reducible apply kept_ite

theorem goodReply_kept (h : Kept F b o s) {a2 a3 a4} (hF : Fits 4523482186 F) :
    Kept F b o (goodReply s a2 a3 a4) := by
  unfold goodReply
  repeat' first
    | exact hF.of rfl
    | with_reducible assumption
    | with_reducible apply raise_kept
    | with_reducible apply State.modPort_kept
    | with_reducible apply State.modNode_kept
    | with_reducible apply replyMessages_kept
    | with_reducible apply heardAt_kept
    | with_reducible apply sampleInput_kept
    | with_reducible apply latchInput_kept
    | with_reducible apply driveReply_kept
    | with_reducible apply stationReply_kept
    | with_reducible apply budgetWatch_kept
    | with_reducible apply kept_ite
    | (with_reducible apply forEach_kept; on_goal 2 => intros)

theorem badReply_kept (h : Kept F b o s) {a2 a3} (hF : Fits 227466314 F) : Kept F b o (badReply s a2 a3) := by
  unfold badReply
  repeat' first
    | exact hF.of rfl
    | with_reducible assumption
    | with_reducible apply State.modNode_kept
    | with_reducible apply raise_kept
    | with_reducible apply State.modPort_kept
    | with_reducible apply kept_ite

theorem nodeReply_kept (h : Kept F b o s) {a2} (hF : Fits 4523482186 F) : Kept F b o (nodeReply s a2) := by
  unfold nodeReply
  repeat' first
    | exact hF.of rfl
    | with_reducible assumption
    | with_reducible apply State.modPort_kept
    | with_reducible apply goodReply_kept
    | with_reducible apply badReply_kept
    | with_reducible apply kept_ite

theorem execNodeReply_kept (h : Kept F b o s) {a1} (hF : Fits 4523482186 F) : KeptO F b o (execNodeReply a1 s) := by
  unfold execNodeReply
  repeat' first
    | exact hF.of rfl
    | with_reducible assumption
    | with_reducible apply nodeReply_kept
    | with_reducible apply keptO_next

theorem restartPoints_kept (h : Kept F b o s) {a2 a3} (hF : Fits 1048576 F) : Kept F b o (restartPoints s a2 a3) := by
  unfold restartPoints
  repeat' first
    | exact hF.of rfl
    | with_reducible assumption
    | with_reducible apply State.modPoint_kept
    | (with_reducible apply forEach_kept; on_goal 2 => intros)

theorem joinNode_kept (h : Kept F b o s) {a2 a3} (hF : Fits 68947968 F) : Kept F b o (joinNode s a2 a3) := by
  unfold joinNode
  repeat' first
    | exact hF.of rfl
    | with_reducible assumption
    | with_reducible apply State.modNode_kept
    | with_reducible apply restartPoints_kept
    | with_reducible apply State.modPort_kept
    | with_reducible apply event_kept
    | with_reducible apply downloadNow_kept
    | with_reducible apply kept_ite
    | with_reducible apply kept_ite_fst
    | (with_reducible apply forEach_kept; on_goal 2 => intros)

theorem badDiscovery_kept (h : Kept F b o s) {a2 a3} (hF : Fits 67633152 F) : Kept F b o (badDiscovery s a2 a3) := by
  unfold badDiscovery
  repeat' first
    | exact hF.of rfl
    | with_reducible assumption
    | with_reducible apply State.modNode_kept
    | with_reducible apply record_kept
    | with_reducible apply kept_ite

theorem goodDiscovery_kept (h : Kept F b o s) {a2 a3} (hF : Fits 68947968 F) :
    Kept F b o (goodDiscovery s a2 a3) := by
  unfold goodDiscovery
  repeat' first
    | exact hF.of rfl
    | with_reducible assumption
    | with_reducible apply State.modNode_kept
    | with_reducible apply record_kept
    | with_reducible apply joinNode_kept
    | with_reducible apply State.modPort_kept
    | with_reducible apply kept_ite
    | with_reducible apply kept_ite_fst
    | (with_reducible apply forEach_kept; on_goal 2 => intros)
    | (extract_lets x; refine cut (P := Kept F b o x) ?_ fun hx => ?_
       (on_goal 2 => clear_value x); (on_goal 1 => subst x))
    | (extract_lets x; refine cut (P := Kept F b o x.1) ?_ fun hx => ?_
       (on_goal 2 => clear_value x); (on_goal 1 => subst x))
    | (extract_lets x; clear_value x)
    | (with_reducible apply foldl_kept; on_goal 2 => intros)
    | (with_reducible apply foldl_fst_kept; on_goal 2 => intros)
    | split

theorem discoveryReply_kept (h : Kept F b o s) {a2} (hF : Fits 68947968 F) : Kept F b o (discoveryReply s a2) := by
  unfold discoveryReply
  repeat' first
    | exact hF.of rfl
    | with_reducible assumption
    | with_reducible apply State.modPort_kept
    | with_reducible apply goodDiscovery_kept
    | with_reducible apply badDiscovery_kept
    | with_reducible apply kept_ite

theorem execDiscoveryReply_kept (h : Kept F b o s) {a1} (hF : Fits 68947968 F) :
    KeptO F b o (execDiscoveryReply a1 s) := by
  unfold execDiscoveryReply
  repeat' first
    | exact hF.of rfl
    | with_reducible assumption
    | with_reducible apply discoveryReply_kept
    | with_reducible apply keptO_next

theorem execNodeLost_kept (h : Kept F b o s) {a1 a2} (hF : Fits 4522433610 F) :
    KeptO F b o (execNodeLost a1 a2 s) := by
  unfold execNodeLost
  repeat' first
    | exact hF.of rfl
    | with_reducible assumption
    | with_reducible apply loseNode_kept
    | with_reducible apply kept_ite
    | with_reducible apply keptO_next

theorem execPointStuck_kept (h : Kept F b o s) {a1} (hF : Fits 68157440 F) : KeptO F b o (execPointStuck a1 s) := by
  unfold execPointStuck
  repeat' first
    | exact hF.of rfl
    | with_reducible assumption
    | with_reducible apply record_kept
    | with_reducible apply State.modPoint_kept
    | with_reducible apply keptO_next
    | split

theorem actNodeList_kept (h : Kept F b o s) {a1 a2 a3 a4} (hF : Fits 4294967296 F) :
    Kept F b o (actNodeList a1 a2 a3 a4 s) := by
  unfold actNodeList
  repeat' first
    | exact hF.of rfl
    | with_reducible assumption
    | (with_reducible apply serve_kept; on_goal 2 => (intros; try beta_reduce))

theorem execNodeList_kept (h : Kept F b o s) {a1 a2 a3 a4} (hF : Fits 4362076160 F) :
    KeptO F b o (execNodeList a1 a2 a3 a4 s) := by
  unfold execNodeList
  repeat' first
    | exact hF.of rfl
    | with_reducible assumption
    | (with_reducible apply hostRow_kept; on_goal 2 => (intros; try beta_reduce))
    | with_reducible apply actNodeList_kept

theorem actPointRead_kept (h : Kept F b o s) {a1 a2 a3 a4} (hF : Fits 4294967296 F) :
    Kept F b o (actPointRead a1 a2 a3 a4 s) := by
  unfold actPointRead
  repeat' first
    | exact hF.of rfl
    | with_reducible assumption
    | (with_reducible apply serve_kept; on_goal 2 => (intros; try beta_reduce))

theorem execPointRead_kept (h : Kept F b o s) {a1 a2 a3 a4} (hF : Fits 4362076160 F) :
    KeptO F b o (execPointRead a1 a2 a3 a4 s) := by
  unfold execPointRead
  repeat' first
    | exact hF.of rfl
    | with_reducible assumption
    | (with_reducible apply hostRow_kept; on_goal 2 => (intros; try beta_reduce))
    | with_reducible apply actPointRead_kept

theorem actPointWriteOutput_kept (h : Kept F b o s) {a1 a2 a3 a4} (hF : Fits 4296015872 F) :
    Kept F b o (actPointWriteOutput a1 a2 a3 a4 s) := by
  unfold actPointWriteOutput
  repeat' first
    | exact hF.of rfl
    | with_reducible assumption
    | (with_reducible apply serve_kept; on_goal 2 => (intros; try beta_reduce))
    | with_reducible apply State.modPoint_kept
    | with_reducible apply kept_ite_fst

theorem execPointWriteOutput_kept (h : Kept F b o s) {a1 a2 a3 a4} (hF : Fits 4363124736 F) :
    KeptO F b o (execPointWriteOutput a1 a2 a3 a4 s) := by
  unfold execPointWriteOutput
  repeat' first
    | exact hF.of rfl
    | with_reducible assumption
    | (with_reducible apply hostRow_kept; on_goal 2 => (intros; try beta_reduce))
    | with_reducible apply actPointWriteOutput_kept

theorem actPointForce_kept (h : Kept F b o s) {a1 a2 a3 a4} (hF : Fits 4296015872 F) :
    Kept F b o (actPointForce a1 a2 a3 a4 s) := by
  unfold actPointForce
  repeat' first
    | exact hF.of rfl
    | with_reducible assumption
    | (with_reducible apply serve_kept; on_goal 2 => (intros; try beta_reduce))
    | with_reducible apply State.modPoint_kept
    | with_reducible apply kept_ite_fst

theorem execPointForce_kept (h : Kept F b o s) {a1 a2 a3 a4} (hF : Fits 4363124736 F) :
    KeptO F b o (execPointForce a1 a2 a3 a4 s) := by
  unfold execPointForce
  repeat' first
    | exact hF.of rfl
    | with_reducible assumption
    | (with_reducible apply hostRow_kept; on_goal 2 => (intros; try beta_reduce))
    | with_reducible apply actPointForce_kept

theorem actPointForceRelease_kept (h : Kept F b o s) {a1 a2 a3 a4} (hF : Fits 4296015872 F) :
    Kept F b o (actPointForceRelease a1 a2 a3 a4 s) := by
  unfold actPointForceRelease
  repeat' first
    | exact hF.of rfl
    | with_reducible assumption
    | (with_reducible apply serve_kept; on_goal 2 => (intros; try beta_reduce))
    | with_reducible apply State.modPoint_kept
    | with_reducible apply kept_ite_fst

theorem execPointForceRelease_kept (h : Kept F b o s) {a1 a2 a3 a4} (hF : Fits 4363124736 F) :
    KeptO F b o (execPointForceRelease a1 a2 a3 a4 s) := by
  unfold execPointForceRelease
  repeat' first
    | exact hF.of rfl
    | with_reducible assumption
    | (with_reducible apply hostRow_kept; on_goal 2 => (intros; try beta_reduce))
    | with_reducible apply actPointForceRelease_kept

theorem actPointMapWrite_kept (h : Kept F b o s) {a1 a2 a3 a4 a5 a6 a7 a8 a9} (hF : Fits 6442450944 F) :
    Kept F b o (actPointMapWrite a1 a2 a3 a4 a5 a6 a7 a8 a9 s) := by
  unfold actPointMapWrite
  repeat' first
    | exact hF.of rfl
    | with_reducible assumption
    | (with_reducible apply serve_kept; on_goal 2 => (intros; try beta_reduce))
    | with_reducible apply kept_ite_fst
    | lift_lets
    | (apply Kept.gen; dsimp -zeta only; on_goal 2 => (intro y e hy; rw [e]; exact hy.upd hF rfl rfl))

theorem execPointMapWrite_kept (h : Kept F b o s) {a1 a2 a3 a4 a5 a6 a7 a8 a9} (hF : Fits 6509559808 F) :
    KeptO F b o (execPointMapWrite a1 a2 a3 a4 a5 a6 a7 a8 a9 s) := by
  unfold execPointMapWrite
  repeat' first
    | exact hF.of rfl
    | with_reducible assumption
    | (with_reducible apply hostRow_kept; on_goal 2 => (intros; try beta_reduce))
    | with_reducible apply actPointMapWrite_kept
    | with_reducible apply keptO_ite
    | exact keptO_fault

theorem actNodeMessageSend_kept (h : Kept F b o s) {a1 a2 a3 a4 a5} (hF : Fits 4295491584 F) :
    Kept F b o (actNodeMessageSend a1 a2 a3 a4 a5 s) := by
  unfold actNodeMessageSend
  repeat' first
    | exact hF.of rfl
    | with_reducible assumption
    | (with_reducible apply serve_kept; on_goal 2 => (intros; try beta_reduce))
    | with_reducible apply State.modNode_kept
    | with_reducible apply kept_ite_fst

theorem execNodeMessageSend_kept (h : Kept F b o s) {a1 a2 a3 a4 a5} (hF : Fits 4362600448 F) :
    KeptO F b o (execNodeMessageSend a1 a2 a3 a4 a5 s) := by
  unfold execNodeMessageSend
  repeat' first
    | exact hF.of rfl
    | with_reducible assumption
    | (with_reducible apply hostRow_kept; on_goal 2 => (intros; try beta_reduce))
    | with_reducible apply actNodeMessageSend_kept
    | with_reducible apply keptO_ite
    | exact keptO_fault

theorem actNodeMessageRead_kept (h : Kept F b o s) {a1 a2 a3 a4} (hF : Fits 4294967296 F) :
    Kept F b o (actNodeMessageRead a1 a2 a3 a4 s) := by
  unfold actNodeMessageRead
  repeat' first
    | exact hF.of rfl
    | with_reducible assumption
    | (with_reducible apply serve_kept; on_goal 2 => (intros; try beta_reduce))

theorem execNodeMessageRead_kept (h : Kept F b o s) {a1 a2 a3 a4} (hF : Fits 4362076160 F) :
    KeptO F b o (execNodeMessageRead a1 a2 a3 a4 s) := by
  unfold execNodeMessageRead
  repeat' first
    | exact hF.of rfl
    | with_reducible assumption
    | (with_reducible apply hostRow_kept; on_goal 2 => (intros; try beta_reduce))
    | with_reducible apply actNodeMessageRead_kept

/-! ### Takeover -/

theorem relatch_kept (h : Kept F b o s) {a2 a3 a4} (hF : Fits 68698112 F) : Kept F b o (relatch s a2 a3 a4) := by
  unfold relatch
  repeat' first
    | exact hF.of rfl
    | with_reducible assumption
    | with_reducible apply State.modPoint_kept
    | with_reducible apply enterLatch_kept
    | (intro x; subst x)
    | lift_lets
    | split

theorem enterLatches_kept (h : Kept F b o s) (hF : Fits 68698112 F) : Kept F b o (enterLatches s) := by
  unfold enterLatches
  repeat' first
    | exact hF.of rfl
    | with_reducible assumption
    | with_reducible apply relatch_kept
    | (with_reducible apply forEach_kept; on_goal 2 => intros)

theorem dropFresh_kept (h : Kept F b o s) (hF : Fits 786432 F) : Kept F b o (dropFresh s) := by
  unfold dropFresh
  repeat' first
    | exact hF.of rfl
    | with_reducible assumption
    | with_reducible apply State.modNode_kept
    | with_reducible apply State.modPort_kept
    | (with_reducible apply forEach_kept; on_goal 2 => intros)

theorem dropMessages_kept (h : Kept F b o s) (hF : Fits 4362862592 F) : Kept F b o (dropMessages s) := by
  unfold dropMessages
  repeat' first
    | exact hF.of rfl
    | with_reducible assumption
    | with_reducible apply endMessage_kept
    | with_reducible apply State.modNode_kept
    | with_reducible apply notifyOn_kept
    | (with_reducible apply forEach_kept; on_goal 2 => intros)

theorem abortRuns_kept (h : Kept F b o s) (hF : Fits 4362083328 F) : Kept F b o (abortRuns s) := by
  unfold abortRuns
  repeat' first
    | exact hF.of rfl
    | with_reducible assumption
    | with_reducible apply State.requestStop_kept
    | with_reducible apply abortTest_kept
    | with_reducible apply abortLearn_kept
    | with_reducible apply kept_ite
    | (with_reducible apply forEach_kept; on_goal 2 => intros)

theorem extrapolateDoor_kept (h : Kept F b o s) {a2} (hF : Fits 4096 F) :
    Kept F b o (extrapolateDoor s a2) :=
  h.upd hF rfl rfl

theorem adoptDoors_kept (h : Kept F b o s) (hF : Fits 2214596608 F) : Kept F b o (adoptDoors s) := by
  unfold adoptDoors
  repeat' first
    | exact hF.of rfl
    | with_reducible assumption
    | with_reducible apply extrapolateDoor_kept
    | with_reducible apply State.modDoor_kept
    | with_reducible apply replanMove_kept
    | with_reducible apply decelerate_kept
    | with_reducible apply startReferencing_kept
    | with_reducible apply kept_ite
    | with_reducible apply kept_ite_fst
    | (with_reducible apply forEach_kept; on_goal 2 => intros)
    | (extract_lets x; refine cut (P := Kept F b o x) ?_ fun hx => ?_
       (on_goal 2 => clear_value x); (on_goal 1 => subst x))
    | (extract_lets x; refine cut (P := Kept F b o x.1) ?_ fun hx => ?_
       (on_goal 2 => clear_value x); (on_goal 1 => subst x))
    | (extract_lets x; clear_value x)
    | (with_reducible apply foldl_kept; on_goal 2 => intros)
    | (with_reducible apply foldl_fst_kept; on_goal 2 => intros)
    | split

theorem takeOutputs_kept (h : Kept F b o s) (hF : Fits 32768 F) : Kept F b o (takeOutputs s) := by
  unfold takeOutputs
  apply forEach_kept h
  intro s n h
  refine kept_ite ?_ h
  extract_lets k i s1
  have h1 : Kept F b o s1 := by
    unfold s1; split
    · rename_i hc
      simp only [Bool.and_eq_true] at hc
      exact driveOut_kept h (fun _ => live_of_driving hc.2) (hF.of rfl)
    · exact h
  exact modOut_kept h1 (fun x hx => hx) (hF.of rfl)

theorem takeCalls_kept (h : Kept F b o s) (hF : Fits 4294983680 F) : Kept F b o (takeCalls s) := by
  unfold takeCalls
  repeat' first
    | exact hF.of rfl
    | with_reducible assumption
    | with_reducible apply State.modCall_kept
    | with_reducible apply holdNote_kept
    | with_reducible apply kept_ite
    | with_reducible apply kept_ite_fst
    | (with_reducible apply forEach_kept; on_goal 2 => intros)

theorem discardStale_kept (h : Kept F b o s) {a1} (hF : Fits 16384 F) : Kept F b o (discardStale a1 s) := by
  unfold discardStale
  repeat' first
    | exact hF.of rfl
    | with_reducible assumption
    | with_reducible apply State.dropCall_kept
    | with_reducible apply unassign_kept
    | with_reducible apply State.modDcar_kept
    | (with_reducible apply forEach_kept; on_goal 2 => intros)
    | lift_lets
    | (apply Kept.gen; dsimp -zeta only; on_goal 2 => (intro y e hy; rw [e]; exact hy.upd hF rfl rfl))

theorem jumped_kept (h : Kept F b o s) {n : Nat} (hF : Fits 226679882 F) :
    Kept F b o { s with log := { s.log with nextSeq := n, jumpNext := true, gapNext := true } } := h.upd hF rfl rfl

theorem takeoverRecord_kept (h : Kept F b o s) {a2 a3} (hF : Fits 226679882 F) :
    Kept F b o (takeoverRecord s a2 a3) := by
  unfold takeoverRecord
  extract_lets next l s1 f
  have h1 : Kept F b o s1 := jumped_kept h hF
  clear_value s1
  exact kept_ite (raise_kept h1 (hF.of rfl)) (record_kept h1 (hF.of rfl))

theorem roleTaken_kept (h : Kept F b o s) {a2 a3 a4} (hF : Fits 8388608 F) :
    Kept F b o (roleTaken s a2 a3 a4) :=
  h.upd hF rfl rfl

theorem takeOver_kept (h : Kept F b o s) {a2 a3 a4 a5 a6} (hF : Fits 6670966602 F) :
    Kept F b o (takeOver s a2 a3 a4 a5 a6) := by
  unfold takeOver
  repeat' first
    | exact hF.of rfl
    | with_reducible assumption
    | with_reducible apply State.modSsi_kept
    | with_reducible apply roleTaken_kept
    | with_reducible apply abandonSlice_kept
    | with_reducible apply ownFindings_kept
    | with_reducible apply takeoverRecord_kept
    | with_reducible apply openMode_kept
    | with_reducible apply releaseForces_kept
    | with_reducible apply abortRuns_kept
    | with_reducible apply endInjOn_kept
    | with_reducible apply discardStale_kept
    | with_reducible apply takeCalls_kept
    | with_reducible apply takeOutputs_kept
    | with_reducible apply adoptDoors_kept
    | with_reducible apply enterLatches_kept
    | with_reducible apply resumeBurst_kept
    | with_reducible apply dropMessages_kept
    | with_reducible apply dropFresh_kept
    | with_reducible apply notifyAll_kept
    | with_reducible apply kept_ite
    | with_reducible apply kept_ite_fst
    | (with_reducible apply forEach_kept; on_goal 2 => intros)

/-! ### Params -/

theorem actParamRead_kept (h : Kept F b o s) {a1 a2 a3 a4 a5} (hF : Fits 4294967296 F) :
    Kept F b o (actParamRead a1 a2 a3 a4 a5 s) := by
  unfold actParamRead
  repeat' first
    | exact hF.of rfl
    | with_reducible assumption
    | (with_reducible apply serve_kept; on_goal 2 => (intros; try beta_reduce))
    | split

theorem execParamRead_kept (h : Kept F b o s) {a1 a2 a3 a4 a5} (hF : Fits 4362076160 F) :
    KeptO F b o (execParamRead a1 a2 a3 a4 a5 s) := by
  unfold execParamRead
  repeat' first
    | exact hF.of rfl
    | with_reducible assumption
    | (with_reducible apply hostRow_kept; on_goal 2 => (intros; try beta_reduce))
    | with_reducible apply actParamRead_kept

theorem writeParams_kept (h : Kept F b o s) {a2} (hF : Fits 2147483648 F) : Kept F b o (writeParams s a2).1 := by
  unfold writeParams
  repeat' first
    | exact hF.of rfl
    | with_reducible assumption
    | with_reducible apply stageEntries_kept
    | with_reducible apply kept_ite_fst
    | split

theorem actParamWrite_kept (h : Kept F b o s) {a1 a2 a3 a4} (hF : Fits 6442450944 F) :
    Kept F b o (actParamWrite a1 a2 a3 a4 s) := by
  unfold actParamWrite
  repeat' first
    | exact hF.of rfl
    | with_reducible assumption
    | (with_reducible apply serve_kept; on_goal 2 => (intros; try beta_reduce))
    | with_reducible apply writeParams_kept

theorem execParamWrite_kept (h : Kept F b o s) {a1 a2 a3 a4} (hF : Fits 6509559808 F) :
    KeptO F b o (execParamWrite a1 a2 a3 a4 s) := by
  unfold execParamWrite
  repeat' first
    | exact hF.of rfl
    | with_reducible assumption
    | (with_reducible apply hostRow_kept; on_goal 2 => (intros; try beta_reduce))
    | with_reducible apply actParamWrite_kept
    | with_reducible apply keptO_ite
    | exact keptO_fault

theorem refuseCommit_kept (h : Kept F b o s) {a2 a3 a4} (hF : Fits 67108864 F) :
    Kept F b o (refuseCommit s a2 a3 a4).1 := by
  unfold refuseCommit
  repeat' first
    | exact hF.of rfl
    | with_reducible assumption
    | with_reducible apply event_kept

theorem startCommit_kept (h : Kept F b o s) {a2} (hF : Fits 6509559808 F) : Kept F b o (startCommit s a2) := by
  unfold startCommit
  repeat' first
    | exact hF.of rfl
    | with_reducible assumption
    | with_reducible apply answer_kept
    | with_reducible apply refuseCommit_kept
    | split
    | (apply Kept.gen; dsimp -zeta only; on_goal 2 => (intro y e hy; rw [e]; exact hy.upd hF rfl rfl))

theorem actParamCommit_kept (h : Kept F b o s) {a1 a2} (hF : Fits 6509559808 F) :
    Kept F b o (actParamCommit a1 a2 s) := by
  unfold actParamCommit
  repeat' first
    | exact hF.of rfl
    | with_reducible assumption
    | with_reducible apply answer_kept
    | with_reducible apply startCommit_kept
    | split

theorem execParamCommit_kept (h : Kept F b o s) {a1 a2} (hF : Fits 6509559808 F) :
    KeptO F b o (execParamCommit a1 a2 s) := by
  unfold execParamCommit
  repeat' first
    | exact hF.of rfl
    | with_reducible assumption
    | (with_reducible apply hostRow_kept; on_goal 2 => (intros; try beta_reduce))
    | with_reducible apply actParamCommit_kept

theorem actParamCommitRead_kept (h : Kept F b o s) {a1 a2} (hF : Fits 4294967296 F) :
    Kept F b o (actParamCommitRead a1 a2 s) := by
  unfold actParamCommitRead
  repeat' first
    | exact hF.of rfl
    | with_reducible assumption
    | (with_reducible apply serve_kept; on_goal 2 => (intros; try beta_reduce))

theorem execParamCommitRead_kept (h : Kept F b o s) {a1 a2} (hF : Fits 4362076160 F) :
    KeptO F b o (execParamCommitRead a1 a2 s) := by
  unfold execParamCommitRead
  repeat' first
    | exact hF.of rfl
    | with_reducible assumption
    | (with_reducible apply hostRow_kept; on_goal 2 => (intros; try beta_reduce))
    | with_reducible apply actParamCommitRead_kept

theorem discardStaged_kept (h : Kept F b o s) (hF : Fits 2147483648 F) : Kept F b o (discardStaged s).1 := by
  unfold discardStaged
  repeat' first
    | exact hF.of rfl
    | with_reducible assumption
    | with_reducible apply kept_ite_fst
    | lift_lets
    | (apply Kept.gen; dsimp -zeta only; on_goal 2 => (intro y e hy; rw [e]; exact hy.upd hF rfl rfl))

theorem actParamDiscard_kept (h : Kept F b o s) {a1 a2} (hF : Fits 6442450944 F) :
    Kept F b o (actParamDiscard a1 a2 s) := by
  unfold actParamDiscard
  repeat' first
    | exact hF.of rfl
    | with_reducible assumption
    | (with_reducible apply serve_kept; on_goal 2 => (intros; try beta_reduce))
    | with_reducible apply discardStaged_kept

theorem execParamDiscard_kept (h : Kept F b o s) {a1 a2} (hF : Fits 6509559808 F) :
    KeptO F b o (execParamDiscard a1 a2 s) := by
  unfold execParamDiscard
  repeat' first
    | exact hF.of rfl
    | with_reducible assumption
    | (with_reducible apply hostRow_kept; on_goal 2 => (intros; try beta_reduce))
    | with_reducible apply actParamDiscard_kept

theorem commitEffects_kept (h : Kept F b o s) {a2 a3} (hF : Fits 4363916288 F) :
    Kept F b o (commitEffects s a2 a3) := by
  unfold commitEffects
  repeat' first
    | exact hF.of rfl
    | with_reducible assumption
    | with_reducible apply loopCommitted_kept
    | with_reducible apply State.modDoor_kept
    | with_reducible apply restartPort_kept
    | with_reducible apply restartPoints_kept
    | with_reducible apply kept_ite
    | (with_reducible apply forEach_kept; on_goal 2 => intros)

theorem adoptParams_kept (h : Kept F b o s) {a2} (hF : Fits 7048270848 F) : Kept F b o (adoptParams s a2) := by
  unfold adoptParams
  repeat' first
    | exact hF.of rfl
    | with_reducible assumption
    | with_reducible apply adoptTables_kept
    | with_reducible apply State.latch'_kept
    | with_reducible apply commitEffects_kept
    | with_reducible apply reallocate_kept
    | with_reducible apply kept_ite
    | with_reducible apply kept_ite_fst
    | (with_reducible apply forEach_kept; on_goal 2 => intros)
    | (extract_lets x; refine cut (P := Kept F b o x) ?_ fun hx => ?_
       (on_goal 2 => clear_value x); (on_goal 1 => subst x))
    | (extract_lets x; refine cut (P := Kept F b o x.1) ?_ fun hx => ?_
       (on_goal 2 => clear_value x); (on_goal 1 => subst x))
    | (extract_lets x; subst x)
    | (with_reducible apply foldl_kept; on_goal 2 => intros)
    | (with_reducible apply foldl_fst_kept; on_goal 2 => intros)
    | split
    | (with_reducible refine kept_fst ‹_ = (_, _)› ?_)
    | (apply Kept.gen; dsimp -zeta only; on_goal 2 => (intro y e hy; rw [e]; exact hy.upd hF rfl rfl))

theorem commitAtEpoch_kept (h : Kept F b o s) (hF : Fits 7048270848 F) : Kept F b o (commitAtEpoch s) := by
  unfold commitAtEpoch
  repeat' first
    | exact hF.of rfl
    | with_reducible assumption
    | with_reducible apply adoptParams_kept
    | with_reducible apply State.modHoist_kept
    | with_reducible apply event_kept
    | with_reducible apply answer_kept
    | (with_reducible apply forEach_kept; on_goal 2 => intros)
    | split
    | (apply Kept.gen; dsimp -zeta only; on_goal 2 => (intro y e hy; rw [e]; exact hy.upd hF rfl rfl))

/-! ### Health -/

theorem actHealthRead_kept (h : Kept F b o s) {a1 a2} (hF : Fits 4294967296 F) :
    Kept F b o (actHealthRead a1 a2 s) := by
  unfold actHealthRead
  repeat' first
    | exact hF.of rfl
    | with_reducible assumption
    | (with_reducible apply serve_kept; on_goal 2 => (intros; try beta_reduce))

theorem execHealthRead_kept (h : Kept F b o s) {a1 a2} (hF : Fits 4362076160 F) :
    KeptO F b o (execHealthRead a1 a2 s) := by
  unfold execHealthRead
  repeat' first
    | exact hF.of rfl
    | with_reducible assumption
    | (with_reducible apply hostRow_kept; on_goal 2 => (intros; try beta_reduce))
    | with_reducible apply actHealthRead_kept

/-! ### Resets -/

theorem stageSet_kept (h : Kept F b o s) {a2} (hF : Fits 4362207232 F) : Kept F b o (stageSet s a2).1 := by
  unfold stageSet
  repeat' first
    | exact hF.of rfl
    | with_reducible assumption
    | with_reducible apply closeEnrol_kept
    | with_reducible apply event_kept
    | with_reducible apply kept_ite_fst
    | split
    | (apply Kept.gen; dsimp -zeta only; on_goal 2 => (intro y e hy; rw [e]; exact hy.upd hF rfl rfl))

theorem actSafetySetStage_kept (h : Kept F b o s) {a1 a2 a3} (hF : Fits 4362207232 F) :
    Kept F b o (actSafetySetStage a1 a2 a3 s) := by
  unfold actSafetySetStage
  repeat' first
    | exact hF.of rfl
    | with_reducible assumption
    | (with_reducible apply serve_kept; on_goal 2 => (intros; try beta_reduce))
    | with_reducible apply stageSet_kept

theorem execSafetySetStage_kept (h : Kept F b o s) {a1 a2 a3} (hF : Fits 4362207232 F) :
    KeptO F b o (execSafetySetStage a1 a2 a3 s) := by
  unfold execSafetySetStage
  repeat' first
    | exact hF.of rfl
    | with_reducible assumption
    | (with_reducible apply hostRow_kept; on_goal 2 => (intros; try beta_reduce))
    | with_reducible apply actSafetySetStage_kept

theorem adopted_kept (h : Kept F b o s) {q : SafetySet} {c p : Params} {f : Tbl Int} (hF : Fits 2684551168 F) :
    Kept F b o { s with
      saf := { s.saf with set := some q, staged := none, confirmedAt := none, setExpired := false }
      params := { s.params with committed := c, force := f, staged := p } } := h.upd hF rfl rfl

theorem adoptSet_kept (h : Kept F b o s) {a2} (hF : Fits 2684551168 F) : Kept F b o (adoptSet s a2) :=
  adopted_kept h hF

theorem confirmSet_kept (h : Kept F b o s) {a2 a3} (hF : Fits 2751660032 F) : Kept F b o (confirmSet s a2 a3).1 := by
  unfold confirmSet
  repeat' first
    | exact hF.of rfl
    | with_reducible assumption
    | with_reducible apply event_kept
    | with_reducible apply adoptSet_kept
    | split

theorem actSafetySetConfirm_kept (h : Kept F b o s) {a1 a2 a3 a4} (hF : Fits 7046627328 F) :
    Kept F b o (actSafetySetConfirm a1 a2 a3 a4 s) := by
  unfold actSafetySetConfirm
  repeat' first
    | exact hF.of rfl
    | with_reducible assumption
    | (with_reducible apply serve_kept; on_goal 2 => (intros; try beta_reduce))
    | with_reducible apply confirmSet_kept

theorem execSafetySetConfirm_kept (h : Kept F b o s) {a1 a2 a3 a4} (hF : Fits 7046627328 F) :
    KeptO F b o (execSafetySetConfirm a1 a2 a3 a4 s) := by
  unfold execSafetySetConfirm
  repeat' first
    | exact hF.of rfl
    | with_reducible assumption
    | (with_reducible apply hostRow_kept; on_goal 2 => (intros; try beta_reduce))
    | with_reducible apply actSafetySetConfirm_kept
    | with_reducible apply keptO_ite
    | exact keptO_fault

theorem execConfirmWindowExpiry_kept (h : Kept F b o s) (hF : Fits 67239936 F) :
    KeptO F b o (execConfirmWindowExpiry s) := by
  unfold execConfirmWindowExpiry
  repeat' first
    | exact hF.of rfl
    | with_reducible assumption
    | with_reducible apply event_kept
    | with_reducible apply kept_ite
    | with_reducible apply keptO_next
    | (apply Kept.gen; dsimp -zeta only; on_goal 2 => (intro y e hy; rw [e]; exact hy.upd hF rfl rfl))

theorem actTripResetRead_kept (h : Kept F b o s) {a1 a2 a3} (hF : Fits 4294967296 F) :
    Kept F b o (actTripResetRead a1 a2 a3 s) := by
  unfold actTripResetRead
  repeat' first
    | exact hF.of rfl
    | with_reducible assumption
    | (with_reducible apply serve_kept; on_goal 2 => (intros; try beta_reduce))

theorem execTripResetRead_kept (h : Kept F b o s) {a1 a2 a3} (hF : Fits 4362076160 F) :
    KeptO F b o (execTripResetRead a1 a2 a3 s) := by
  unfold execTripResetRead
  repeat' first
    | exact hF.of rfl
    | with_reducible assumption
    | (with_reducible apply hostRow_kept; on_goal 2 => (intros; try beta_reduce))
    | with_reducible apply actTripResetRead_kept

theorem armTrip_kept (h : Kept F b o s) {a2} (hF : Fits 131072 F) : Kept F b o (armTrip s a2).1 := by
  unfold armTrip
  repeat' first
    | exact hF.of rfl
    | with_reducible assumption
    | with_reducible apply kept_ite_fst
    | lift_lets
    | (apply Kept.gen; dsimp -zeta only; on_goal 2 => (intro y e hy; rw [e]; exact hy.upd hF rfl rfl))

theorem actTripResetArm_kept (h : Kept F b o s) {a1 a2 a3} (hF : Fits 4295098368 F) :
    Kept F b o (actTripResetArm a1 a2 a3 s) := by
  unfold actTripResetArm
  repeat' first
    | exact hF.of rfl
    | with_reducible assumption
    | (with_reducible apply serve_kept; on_goal 2 => (intros; try beta_reduce))
    | with_reducible apply armTrip_kept

theorem execTripResetArm_kept (h : Kept F b o s) {a1 a2 a3} (hF : Fits 4362207232 F) :
    KeptO F b o (execTripResetArm a1 a2 a3 s) := by
  unfold execTripResetArm
  repeat' first
    | exact hF.of rfl
    | with_reducible assumption
    | (with_reducible apply hostRow_kept; on_goal 2 => (intros; try beta_reduce))
    | with_reducible apply actTripResetArm_kept

theorem disarmTrip_kept (h : Kept F b o s) (hF : Fits 131072 F) : Kept F b o (disarmTrip s).1 := by
  unfold disarmTrip
  repeat' first
    | exact hF.of rfl
    | with_reducible assumption
    | with_reducible apply kept_ite
    | (apply Kept.gen; dsimp -zeta only; on_goal 2 => (intro y e hy; rw [e]; exact hy.upd hF rfl rfl))

theorem actTripResetDisarm_kept (h : Kept F b o s) {a1 a2 a3} (hF : Fits 4295098368 F) :
    Kept F b o (actTripResetDisarm a1 a2 a3 s) := by
  unfold actTripResetDisarm
  repeat' first
    | exact hF.of rfl
    | with_reducible assumption
    | (with_reducible apply serve_kept; on_goal 2 => (intros; try beta_reduce))
    | with_reducible apply disarmTrip_kept

theorem execTripResetDisarm_kept (h : Kept F b o s) {a1 a2 a3} (hF : Fits 4362207232 F) :
    KeptO F b o (execTripResetDisarm a1 a2 a3 s) := by
  unfold execTripResetDisarm
  repeat' first
    | exact hF.of rfl
    | with_reducible assumption
    | (with_reducible apply hostRow_kept; on_goal 2 => (intros; try beta_reduce))
    | with_reducible apply actTripResetDisarm_kept

theorem execTripResetWindowExpiry_kept (h : Kept F b o s) (hF : Fits 131072 F) :
    KeptO F b o (execTripResetWindowExpiry s) := by
  unfold execTripResetWindowExpiry
  repeat' first
    | exact hF.of rfl
    | with_reducible assumption
    | with_reducible apply kept_ite
    | with_reducible apply keptO_next
    | (apply Kept.gen; dsimp -zeta only; on_goal 2 => (intro y e hy; rw [e]; exact hy.upd hF rfl rfl))

theorem actLockoutResetRead_kept (h : Kept F b o s) {a1 a2 a3} (hF : Fits 4294967296 F) :
    Kept F b o (actLockoutResetRead a1 a2 a3 s) := by
  unfold actLockoutResetRead
  repeat' first
    | exact hF.of rfl
    | with_reducible assumption
    | (with_reducible apply serve_kept; on_goal 2 => (intros; try beta_reduce))

theorem execLockoutResetRead_kept (h : Kept F b o s) {a1 a2 a3} (hF : Fits 4362076160 F) :
    KeptO F b o (execLockoutResetRead a1 a2 a3 s) := by
  unfold execLockoutResetRead
  repeat' first
    | exact hF.of rfl
    | with_reducible assumption
    | (with_reducible apply hostRow_kept; on_goal 2 => (intros; try beta_reduce))
    | with_reducible apply actLockoutResetRead_kept
    | with_reducible apply keptO_ite
    | exact keptO_fault

theorem armLock_kept (h : Kept F b o s) (hF : Fits 131072 F) : Kept F b o (armLock s).1 := by
  unfold armLock
  repeat' first
    | exact hF.of rfl
    | with_reducible assumption
    | with_reducible apply kept_ite_fst
    | lift_lets
    | (apply Kept.gen; dsimp -zeta only; on_goal 2 => (intro y e hy; rw [e]; exact hy.upd hF rfl rfl))

theorem actLockoutResetArm_kept (h : Kept F b o s) {a1 a2 a3} (hF : Fits 38721945600 F) :
    Kept F b o (actLockoutResetArm a1 a2 a3 s) := by
  unfold actLockoutResetArm
  repeat' first
    | exact hF.of rfl
    | with_reducible assumption
    | (with_reducible apply serve_kept; on_goal 2 => (intros; try beta_reduce))
    | (with_reducible apply withToken_kept; on_goal 2 => (intros; try beta_reduce))
    | with_reducible apply armLock_kept

theorem execLockoutResetArm_kept (h : Kept F b o s) {a1 a2 a3} (hF : Fits 38721945600 F) :
    KeptO F b o (execLockoutResetArm a1 a2 a3 s) := by
  unfold execLockoutResetArm
  repeat' first
    | exact hF.of rfl
    | with_reducible assumption
    | (with_reducible apply hostRow_kept; on_goal 2 => (intros; try beta_reduce))
    | with_reducible apply actLockoutResetArm_kept
    | with_reducible apply keptO_ite
    | exact keptO_fault

theorem execLockoutResetWindowExpiry_kept (h : Kept F b o s) (hF : Fits 131072 F) :
    KeptO F b o (execLockoutResetWindowExpiry s) := by
  unfold execLockoutResetWindowExpiry
  repeat' first
    | exact hF.of rfl
    | with_reducible assumption
    | with_reducible apply kept_ite
    | with_reducible apply keptO_next
    | (apply Kept.gen; dsimp -zeta only; on_goal 2 => (intro y e hy; rw [e]; exact hy.upd hF rfl rfl))

theorem releaseInputs_kept (h : Kept F b o s) {a2} (hF : Fits 131072 F) : Kept F b o (releaseInputs s a2) := by
  unfold releaseInputs
  repeat' first
    | exact hF.of rfl
    | with_reducible assumption
    | with_reducible apply State.modSafIn_kept
    | with_reducible apply kept_ite
    | (with_reducible apply forEach_kept; on_goal 2 => intros)

theorem clearTrip_kept (h : Kept F b o s) {a2} (hF : Fits 134348800 F) : Kept F b o (clearTrip s a2) := by
  unfold clearTrip
  repeat' first
    | exact hF.of rfl
    | with_reducible assumption
    | with_reducible apply State.modCarSaf_kept
    | with_reducible apply releaseInputs_kept
    | (apply Kept.gen; dsimp -zeta only; on_goal 2 => (intro y e hy; rw [e]; exact hy.upd hF rfl rfl))

theorem resetTrips_kept (h : Kept F b o s) (hF : Fits 4496424960 F) : Kept F b o (resetTrips s) := by
  unfold resetTrips
  repeat' first
    | exact hF.of rfl
    | with_reducible assumption
    | with_reducible apply clearTrip_kept
    | with_reducible apply releaseInputs_kept
    | with_reducible apply event_kept
    | with_reducible apply notifyAll_kept
    | with_reducible apply kept_ite
    | with_reducible apply kept_ite_fst
    | (with_reducible apply forEach_kept; on_goal 2 => intros)
    | (extract_lets x; refine cut (P := Kept F b o x) ?_ fun hx => ?_
       (on_goal 2 => clear_value x); (on_goal 1 => subst x))
    | (extract_lets x; refine cut (P := Kept F b o x.1) ?_ fun hx => ?_
       (on_goal 2 => clear_value x); (on_goal 1 => subst x))
    | (extract_lets x; subst x)
    | (with_reducible apply foldl_kept; on_goal 2 => intros)
    | (with_reducible apply foldl_fst_kept; on_goal 2 => intros)
    | split
    | (with_reducible refine kept_fst ‹_ = (_, _)› ?_)
    | (apply Kept.gen; dsimp -zeta only; on_goal 2 => (intro y e hy; rw [e]; exact hy.upd hF rfl rfl))

theorem resetMirrored_kept (h : Kept F b o s) (hF : Fits 142737408 F) : Kept F b o (resetMirrored s) := by
  unfold resetMirrored
  repeat' first
    | exact hF.of rfl
    | with_reducible assumption
    | with_reducible apply clearTrip_kept
    | with_reducible apply releaseInputs_kept
    | with_reducible apply kept_ite
    | with_reducible apply kept_ite_fst
    | (with_reducible apply forEach_kept; on_goal 2 => intros)
    | (intro x; subst x)
    | (with_reducible apply foldl_kept; on_goal 2 => intros)
    | (with_reducible apply foldl_fst_kept; on_goal 2 => intros)
    | lift_lets
    | split
    | (with_reducible refine kept_fst ‹_ = (_, _)› ?_)
    | (apply Kept.gen; dsimp -zeta only; on_goal 2 => (intro y e hy; rw [e]; exact hy.upd hF rfl rfl))

theorem resetLockout_kept (h : Kept F b o s) (hF : Fits 67104595935 F) : Kept F b o (resetLockout s) := by
  unfold resetLockout
  repeat' first
    | exact hF.of rfl
    | with_reducible assumption
    | with_reducible apply releaseInputs_kept
    | with_reducible apply startProving_kept
    | with_reducible apply event_kept
    | (apply Kept.gen; dsimp -zeta only; on_goal 2 => (intro y e hy; rw [e]; exact hy.upd hF rfl rfl))

theorem resetOperation_kept (h : Kept F b o s) (hF : Fits 67104595935 F) : Kept F b o (resetOperation s) := by
  unfold resetOperation
  repeat' first
    | exact hF.of rfl
    | with_reducible assumption
    | with_reducible apply resetMirrored_kept
    | with_reducible apply resetTrips_kept
    | with_reducible apply resetLockout_kept
    | with_reducible apply kept_ite

theorem confirmOperation_kept (h : Kept F b o s) (hF : Fits 30132011008 F) : Kept F b o (confirmOperation s) := by
  unfold confirmOperation
  repeat' first
    | exact hF.of rfl
    | with_reducible assumption
    | with_reducible apply enrolKey_kept
    | with_reducible apply kept_ite
    | (apply Kept.gen; dsimp -zeta only; on_goal 2 => (intro y e hy; rw [e]; exact hy.upd hF rfl rfl))

theorem voidOperation_kept (h : Kept F b o s) (hF : Fits 4362207232 F) : Kept F b o (voidOperation s) := by
  unfold voidOperation
  repeat' first
    | exact hF.of rfl
    | with_reducible assumption
    | with_reducible apply event_kept
    | with_reducible apply closeEnrol_kept
    | with_reducible apply kept_ite
    | (apply Kept.gen; dsimp -zeta only; on_goal 2 => (intro y e hy; rw [e]; exact hy.upd hF rfl rfl))

theorem execLrstOperationEnd_kept (h : Kept F b o s) {a1} (hF : Fits 67104595935 F) :
    KeptO F b o (execLrstOperationEnd a1 s) := by
  unfold execLrstOperationEnd
  repeat' first
    | exact hF.of rfl
    | with_reducible assumption
    | with_reducible apply resetOperation_kept
    | with_reducible apply confirmOperation_kept
    | with_reducible apply voidOperation_kept
    | with_reducible apply keptO_next
    | split

end Sys2Proof.Machine
end

