-- ==== Sys2Proof/Laws/KeptPair.lean ====
section
/-! SUPPORT. What the operations of these units keep (`Kept`): the pair, packets and the host port, croaks, the twin link, memory and the rest. -/

namespace Sys2Proof.Machine

variable {F N : Nat} {b : Bool} {o s t : State}

/-! ### Pair -/

theorem announced_kept (h : Kept F b o s) {a2} (hF : Fits 16384 F) : Kept F b o (announced s a2) := by
  unfold announced
  repeat' first
    | exact hF.of rfl
    | with_reducible assumption
    | with_reducible apply State.modCall_kept
    | with_reducible apply State.forget_kept
    | with_reducible apply kept_ite
    | with_reducible apply kept_ite_fst
    | (with_reducible apply forEach_kept; on_goal 2 => intros)
    | (extract_lets x; refine cut (P := Kept F b o x) ?_ fun hx => ?_
       (on_goal 2 => clear_value x); (on_goal 1 => subst x))
    | (extract_lets x; refine cut (P := Kept F b o x.1) ?_ fun hx => ?_
       (on_goal 2 => clear_value x); (on_goal 1 => subst x))
    | (extract_lets x; clear_value x)
    | (with_reducible apply foldl_kept; on_goal 2 => intros)
    | (with_reducible apply foldl_fst_kept; on_goal 2 => intros)
    | split

theorem releaseUpTo_kept (h : Kept F b o s) {a2} (hF : Fits 4362092544 F) : Kept F b o (releaseUpTo s a2) := by
  unfold releaseUpTo
  repeat' first
    | exact hF.of rfl
    | with_reducible assumption
    | with_reducible apply queueReply_kept
    | with_reducible apply announced_kept
    | with_reducible apply pushNotify_kept
    | with_reducible apply kept_ite
    | (with_reducible apply forEach_kept; on_goal 2 => intros)
    | (apply Kept.gen; dsimp -zeta only; on_goal 2 => (intro y e hy; rw [e]; exact hy.upd hF rfl rfl))

theorem releaseAll_kept (h : Kept F b o s) (hF : Fits 4362092544 F) : Kept F b o (releaseAll s) := by
  unfold releaseAll
  repeat' first
    | exact hF.of rfl
    | with_reducible assumption
    | with_reducible apply releaseUpTo_kept

theorem failHeld_kept (h : Kept F b o s) (hF : Fits 6442451968 F) : Kept F b o (failHeld s) := by
  have hq : ∀ {s hd op p}, Kept F b o s → Kept F b o (queueReply s hd op p) := fun h => queueReply_kept h (hF.of rfl)
  unfold failHeld
  extract_lets no w held k s1 s2 p s3 q s4
  have h1 : Kept F b o s1 := h.upd hF rfl rfl
  clear_value s1
  have h2 : Kept F b o s2 := forEach_kept h1 fun _ _ h => hq h
  clear_value s2
  have h3 : Kept F b o s3 := by
    unfold s3; split
    · exact hq (h2.upd hF rfl rfl)
    · exact h2
  clear_value s3
  have h4 : Kept F b o s4 := by
    unfold s4; split
    · exact hq (h3.upd hF rfl rfl)
    · exact h3
  clear_value s4
  refine forEach_kept h4 fun _ _ h => ?_
  split
  · exact hq h
  · exact hq h
  · exact sendReply_kept h (hF.of rfl)

theorem leaveStep_kept (h : Kept F b o s) (hF : Fits 4370481152 F) : Kept F b o (leaveStep s) := by
  unfold leaveStep
  repeat' first
    | exact hF.of rfl
    | with_reducible assumption
    | with_reducible apply ownFindings_kept
    | with_reducible apply releaseAll_kept
    | with_reducible apply record_kept
    | with_reducible apply kept_ite
    | with_reducible apply kept_ite_fst
    | (with_reducible apply forEach_kept; on_goal 2 => intros)
    | (extract_lets x; refine cut (P := Kept F b o x) ?_ fun hx => ?_
       (on_goal 2 => clear_value x); (on_goal 1 => subst x))
    | (extract_lets x; refine cut (P := Kept F b o x.1) ?_ fun hx => ?_
       (on_goal 2 => clear_value x); (on_goal 1 => subst x))
    | (extract_lets x; subst x)
    | (with_reducible apply foldl_kept; on_goal 2 => intros)
    | (with_reducible apply foldl_fst_kept; on_goal 2 => intros)
    | split
    | (with_reducible refine kept_fst ‹_ = (_, _)› ?_)
    | (apply Kept.gen; dsimp -zeta only; on_goal 2 => (intro y e hy; rw [e]; exact hy.upd hF rfl rfl))

theorem handNotify_kept (h : Kept F b o s) (hF : Fits 4370464768 F) : Kept F b o (handNotify s) := by
  unfold handNotify
  repeat' first
    | exact hF.of rfl
    | with_reducible assumption
    | with_reducible apply notifyOn_kept
    | split
    | (apply Kept.gen; dsimp -zeta only; on_goal 2 => (intro y e hy; rw [e]; exact hy.upd hF rfl rfl))

theorem startHand_kept (h : Kept F b o s) {a2 a3} (hF : Fits 75498496 F) : Kept F b o (startHand s a2 a3).1 := by
  unfold startHand
  repeat' first
    | exact hF.of rfl
    | with_reducible assumption
    | with_reducible apply endInjOn_kept
    | with_reducible apply record_kept
    | lift_lets
    | split
    | (apply Kept.gen; dsimp -zeta only; on_goal 2 => (intro y e hy; rw [e]; exact hy.upd hF rfl rfl))

theorem actHandoverRead_kept (h : Kept F b o s) {a1 a2} (hF : Fits 4294967296 F) :
    Kept F b o (actHandoverRead a1 a2 s) := by
  unfold actHandoverRead
  repeat' first
    | exact hF.of rfl
    | with_reducible assumption
    | (with_reducible apply serve_kept; on_goal 2 => (intros; try beta_reduce))

theorem execHandoverRead_kept (h : Kept F b o s) {a1 a2} (hF : Fits 4362076160 F) :
    KeptO F b o (execHandoverRead a1 a2 s) := by
  unfold execHandoverRead
  repeat' first
    | exact hF.of rfl
    | with_reducible assumption
    | (with_reducible apply hostRow_kept; on_goal 2 => (intros; try beta_reduce))
    | with_reducible apply actHandoverRead_kept

theorem actHandoverRequest_kept (h : Kept F b o s) {a1 a2} (hF : Fits 4370465792 F) :
    Kept F b o (actHandoverRequest a1 a2 s) := by
  unfold actHandoverRequest
  repeat' first
    | exact hF.of rfl
    | with_reducible assumption
    | (with_reducible apply serve_kept; on_goal 2 => (intros; try beta_reduce))
    | with_reducible apply startHand_kept

theorem execHandoverRequest_kept (h : Kept F b o s) {a1 a2} (hF : Fits 4370465792 F) :
    KeptO F b o (execHandoverRequest a1 a2 s) := by
  unfold execHandoverRequest
  repeat' first
    | exact hF.of rfl
    | with_reducible assumption
    | (with_reducible apply hostRow_kept; on_goal 2 => (intros; try beta_reduce))
    | with_reducible apply actHandoverRequest_kept

theorem actHandoverActivateTadpoles_kept (h : Kept F b o s) {a1 a2} (hF : Fits 4370465792 F) :
    Kept F b o (actHandoverActivateTadpoles a1 a2 s) := by
  unfold actHandoverActivateTadpoles
  repeat' first
    | exact hF.of rfl
    | with_reducible assumption
    | (with_reducible apply serve_kept; on_goal 2 => (intros; try beta_reduce))
    | with_reducible apply startHand_kept

theorem execHandoverActivateTadpoles_kept (h : Kept F b o s) {a1 a2} (hF : Fits 4370465792 F) :
    KeptO F b o (execHandoverActivateTadpoles a1 a2 s) := by
  unfold execHandoverActivateTadpoles
  repeat' first
    | exact hF.of rfl
    | with_reducible assumption
    | (with_reducible apply hostRow_kept; on_goal 2 => (intros; try beta_reduce))
    | with_reducible apply actHandoverActivateTadpoles_kept

theorem abortHand_kept (h : Kept F b o s) {a2} (hF : Fits 4370464768 F) : Kept F b o (abortHand s a2) := by
  unfold abortHand
  repeat' first
    | exact hF.of rfl
    | with_reducible assumption
    | with_reducible apply handNotify_kept
    | with_reducible apply record_kept
    | (apply Kept.gen; dsimp -zeta only; on_goal 2 => (intro y e hy; rw [e]; exact hy.upd hF rfl rfl))

theorem resumeHand_kept (h : Kept F b o s) {a2} (hF : Fits 4370497536 F) : Kept F b o (resumeHand s a2) := by
  unfold resumeHand
  repeat' first
    | exact hF.of rfl
    | with_reducible assumption
    | with_reducible apply handNotify_kept
    | with_reducible apply record_kept
    | (with_reducible refine modOut_kept ?_ (fun x hx => ?_) ?_; on_goal 2 => (simp_all [outStill]; done))
    | (with_reducible apply forEach_kept; on_goal 2 => intros)
    | (apply Kept.gen; dsimp -zeta only; on_goal 2 => (intro y e hy; rw [e]; exact hy.upd hF rfl rfl))

theorem partnerLostInHand_kept (h : Kept F b o s) (hF : Fits 4370497536 F) : Kept F b o (partnerLostInHand s) := by
  unfold partnerLostInHand
  repeat' first
    | exact hF.of rfl
    | with_reducible assumption
    | with_reducible apply abortHand_kept
    | with_reducible apply resumeHand_kept
    | with_reducible apply kept_ite

theorem execHealthRecordReceived_kept (h : Kept F b o s) {a1 a2} (hF : Fits 4370497536 F) :
    KeptO F b o (execHealthRecordReceived a1 a2 s) := by
  unfold execHealthRecordReceived
  repeat' first
    | exact hF.of rfl
    | with_reducible assumption
    | with_reducible apply record_kept
    | with_reducible apply partnerLostInHand_kept
    | with_reducible apply kept_ite
    | with_reducible apply kept_ite_fst
    | with_reducible apply keptO_ite
    | exact keptO_fault
    | with_reducible apply keptO_next
    | (with_reducible apply forEach_kept; on_goal 2 => intros)
    | (extract_lets x; refine cut (P := Kept F b o x) ?_ fun hx => ?_
       (on_goal 2 => clear_value x); (on_goal 1 => subst x))
    | (extract_lets x; refine cut (P := Kept F b o x.1) ?_ fun hx => ?_
       (on_goal 2 => clear_value x); (on_goal 1 => subst x))
    | (extract_lets x; subst x)
    | (with_reducible apply foldl_kept; on_goal 2 => intros)
    | (with_reducible apply foldl_fst_kept; on_goal 2 => intros)
    | split
    | (with_reducible refine kept_fst ‹_ = (_, _)› ?_)
    | (apply Kept.gen; dsimp -zeta only; on_goal 2 => (intro y e hy; rw [e]; exact hy.upd hF rfl rfl))

theorem activateTadpoles_kept (h : Kept F b o s) (hF : Fits 17246978048 F) : Kept F b o (activateTadpoles s) := by
  unfold activateTadpoles
  repeat' first
    | exact hF.of rfl
    | with_reducible assumption
    | with_reducible apply activateSlot_kept
    | (with_reducible apply forEach_kept; on_goal 2 => intros)
    | split

theorem becomeStandby_kept (h : Kept F b o s) (hF : Fits 24251630914 F) : Kept F b o (becomeStandby s) := by
  unfold becomeStandby
  repeat' first
    | exact hF.of rfl
    | with_reducible assumption
    | with_reducible apply enterMode_kept
    | with_reducible apply failHeld_kept
    | with_reducible apply event_kept
    | with_reducible apply handNotify_kept
    | with_reducible apply activateTadpoles_kept
    | with_reducible apply kept_ite
    | with_reducible apply kept_ite_fst
    | (with_reducible apply forEach_kept; on_goal 2 => intros)
    | (extract_lets x; refine cut (P := Kept F b o x) ?_ fun hx => ?_
       (on_goal 2 => clear_value x); (on_goal 1 => subst x))
    | (extract_lets x; refine cut (P := Kept F b o x.1) ?_ fun hx => ?_
       (on_goal 2 => clear_value x); (on_goal 1 => subst x))
    | (extract_lets x; subst x)
    | (with_reducible apply foldl_kept; on_goal 2 => intros)
    | (with_reducible apply foldl_fst_kept; on_goal 2 => intros)
    | split
    | (with_reducible refine kept_fst ‹_ = (_, _)› ?_)
    | (apply Kept.gen; dsimp -zeta only; on_goal 2 => (intro y e hy; rw [e]; exact hy.upd hF rfl rfl))

theorem giveBack_kept (h : Kept F b o s) (hF : Fits 7071761730 F) : Kept F b o (giveBack s) := by
  unfold giveBack
  repeat' first
    | exact hF.of rfl
    | with_reducible assumption
    | with_reducible apply enterMode_kept
    | with_reducible apply openMode_kept
    | with_reducible apply changeMode_kept
    | with_reducible apply failHeld_kept
    | (apply Kept.gen; dsimp -zeta only; on_goal 2 => (intro y e hy; rw [e]; exact hy.upd hF rfl rfl))

theorem modeNotice_kept (h : Kept F b o s) (hF : Fits 4370464768 F) : Kept F b o (modeNotice s) := by
  unfold modeNotice
  repeat' first
    | exact hF.of rfl
    | with_reducible assumption
    | with_reducible apply notifyOn_kept
    | with_reducible apply kept_ite
    | with_reducible apply kept_ite_fst
    | (with_reducible apply forEach_kept; on_goal 2 => intros)
    | (extract_lets x; refine cut (P := Kept F b o x) ?_ fun hx => ?_
       (on_goal 2 => clear_value x); (on_goal 1 => subst x))
    | (extract_lets x; refine cut (P := Kept F b o x.1) ?_ fun hx => ?_
       (on_goal 2 => clear_value x); (on_goal 1 => subst x))
    | (extract_lets x; subst x)
    | (with_reducible apply foldl_kept; on_goal 2 => intros)
    | (with_reducible apply foldl_fst_kept; on_goal 2 => intros)
    | split
    | (with_reducible refine kept_fst ‹_ = (_, _)› ?_)
    | (apply Kept.gen; dsimp -zeta only; on_goal 2 => (intro y e hy; rw [e]; exact hy.upd hF rfl rfl))

theorem endYieldedHand_kept (h : Kept F b o s) (hF : Fits 4370464768 F) : Kept F b o (endYieldedHand s) := by
  unfold endYieldedHand
  repeat' first
    | exact hF.of rfl
    | with_reducible assumption
    | with_reducible apply handNotify_kept
    | with_reducible apply kept_ite
    | with_reducible apply kept_ite_fst
    | (with_reducible apply forEach_kept; on_goal 2 => intros)
    | (extract_lets x; refine cut (P := Kept F b o x) ?_ fun hx => ?_
       (on_goal 2 => clear_value x); (on_goal 1 => subst x))
    | (extract_lets x; refine cut (P := Kept F b o x.1) ?_ fun hx => ?_
       (on_goal 2 => clear_value x); (on_goal 1 => subst x))
    | (extract_lets x; subst x)
    | (with_reducible apply foldl_kept; on_goal 2 => intros)
    | (with_reducible apply foldl_fst_kept; on_goal 2 => intros)
    | split
    | (with_reducible refine kept_fst ‹_ = (_, _)› ?_)
    | (apply Kept.gen; dsimp -zeta only; on_goal 2 => (intro y e hy; rw [e]; exact hy.upd hF rfl rfl))

theorem finishYield_kept (h : Kept F b o s) (hF : Fits 7071761730 F) : Kept F b o (finishYield s) := by
  unfold finishYield
  repeat' first
    | exact hF.of rfl
    | with_reducible assumption
    | with_reducible apply endYieldedHand_kept
    | with_reducible apply record_kept
    | with_reducible apply State.allOff_kept
    | with_reducible apply failHeld_kept
    | with_reducible apply enterMode_kept
    | with_reducible apply modeNotice_kept
    | with_reducible apply kept_ite
    | with_reducible apply kept_ite_fst
    | (with_reducible apply forEach_kept; on_goal 2 => intros)
    | (extract_lets x; refine cut (P := Kept F b o x) ?_ fun hx => ?_
       (on_goal 2 => clear_value x); (on_goal 1 => subst x))
    | (extract_lets x; refine cut (P := Kept F b o x.1) ?_ fun hx => ?_
       (on_goal 2 => clear_value x); (on_goal 1 => subst x))
    | (extract_lets x; subst x)
    | (with_reducible apply foldl_kept; on_goal 2 => intros)
    | (with_reducible apply foldl_fst_kept; on_goal 2 => intros)
    | split
    | (with_reducible refine kept_fst ‹_ = (_, _)› ?_)
    | (apply Kept.gen; dsimp -zeta only; on_goal 2 => (intro y e hy; rw [e]; exact hy.upd hF rfl rfl))

theorem completeHand_kept (h : Kept F b o s) (hF : Fits 24251630914 F) : Kept F b o (completeHand s) := by
  unfold completeHand
  repeat' first
    | exact hF.of rfl
    | with_reducible assumption
    | with_reducible apply handNotify_kept
    | with_reducible apply finishYield_kept
    | with_reducible apply becomeStandby_kept
    | with_reducible apply kept_ite
    | with_reducible apply kept_ite_fst
    | (with_reducible apply forEach_kept; on_goal 2 => intros)
    | (extract_lets x; refine cut (P := Kept F b o x) ?_ fun hx => ?_
       (on_goal 2 => clear_value x); (on_goal 1 => subst x))
    | (extract_lets x; refine cut (P := Kept F b o x.1) ?_ fun hx => ?_
       (on_goal 2 => clear_value x); (on_goal 1 => subst x))
    | (extract_lets x; subst x)
    | (with_reducible apply foldl_kept; on_goal 2 => intros)
    | (with_reducible apply foldl_fst_kept; on_goal 2 => intros)
    | split
    | (with_reducible refine kept_fst ‹_ = (_, _)› ?_)
    | (apply Kept.gen; dsimp -zeta only; on_goal 2 => (intro y e hy; rw [e]; exact hy.upd hF rfl rfl))

theorem yieldBoundary_kept (h : Kept F b o s) (hF : Fits 7071761730 F) : Kept F b o (yieldBoundary s) := by
  unfold yieldBoundary
  repeat' first
    | exact hF.of rfl
    | with_reducible assumption
    | with_reducible apply finishYield_kept
    | with_reducible apply kept_ite
    | (apply Kept.gen; dsimp -zeta only; on_goal 2 => (intro y e hy; rw [e]; exact hy.upd hF rfl rfl))

theorem releaseCheckStart_kept (h : Kept F b o s) (hF : Fits 8421376 F) : Kept F b o (releaseCheckStart s) := by
  unfold releaseCheckStart
  repeat' first
    | exact hF.of rfl
    | with_reducible assumption
    | with_reducible apply kept_ite
    | (with_reducible refine modOut_kept ?_ (fun x hx => ?_) ?_; on_goal 2 => (simp_all [outStill]; done))
    | (with_reducible apply forEach_kept; on_goal 2 => intros)
    | lift_lets
    | (apply Kept.gen; dsimp -zeta only; on_goal 2 => (intro y e hy; rw [e]; exact hy.upd hF rfl rfl))

theorem execReleaseCheckStart_kept (h : Kept F b o s) (hF : Fits 8421376 F) :
    KeptO F b o (execReleaseCheckStart s) := by
  unfold execReleaseCheckStart
  repeat' first
    | exact hF.of rfl
    | with_reducible assumption
    | with_reducible apply releaseCheckStart_kept
    | with_reducible apply keptO_next

theorem releaseCheckEnd_kept (h : Kept F b o s) {a2} (hF : Fits 24251630914 F) :
    Kept F b o (releaseCheckEnd s a2) := by
  unfold releaseCheckEnd
  repeat' first
    | exact hF.of rfl
    | with_reducible assumption
    | with_reducible apply record_kept
    | with_reducible apply finishYield_kept
    | with_reducible apply completeHand_kept
    | with_reducible apply resumeHand_kept
    | with_reducible apply kept_ite

theorem requestArb_kept (h : Kept F b o s) {a2} (hF : Fits 92274688 F) : Kept F b o (requestArb s a2) := by
  unfold requestArb
  repeat' first
    | exact hF.of rfl
    | with_reducible assumption
    | with_reducible apply abandonSlice_kept
    | with_reducible apply event_kept
    | with_reducible apply kept_ite
    | with_reducible apply kept_ite_fst
    | (with_reducible apply forEach_kept; on_goal 2 => intros)
    | (extract_lets x; refine cut (P := Kept F b o x) ?_ fun hx => ?_
       (on_goal 2 => clear_value x); (on_goal 1 => subst x))
    | (extract_lets x; refine cut (P := Kept F b o x.1) ?_ fun hx => ?_
       (on_goal 2 => clear_value x); (on_goal 1 => subst x))
    | (extract_lets x; subst x)
    | (with_reducible apply foldl_kept; on_goal 2 => intros)
    | (with_reducible apply foldl_fst_kept; on_goal 2 => intros)
    | split
    | (with_reducible refine kept_fst ‹_ = (_, _)› ?_)
    | (apply Kept.gen; dsimp -zeta only; on_goal 2 => (intro y e hy; rw [e]; exact hy.upd hF rfl rfl))

theorem endArb_kept (h : Kept F b o s) (hF : Fits 8388608 F) : Kept F b o (endArb s) := h.upd hF rfl rfl

theorem serviceStart_kept (h : Kept F b o s) (hF : Fits 92439874 F) : Kept F b o (serviceStart s) := by
  unfold serviceStart
  repeat' first
    | exact hF.of rfl
    | with_reducible assumption
    | with_reducible apply enterMode_kept
    | with_reducible apply openMode_kept
    | with_reducible apply changeMode_kept
    | with_reducible apply event_kept
    | with_reducible apply abandonSlice_kept
    | (apply Kept.gen; dsimp -zeta only; on_goal 2 => (intro y e hy; rw [e]; exact hy.upd hF rfl rfl))

theorem execClaimPeriodsElapsed_kept (h : Kept F b o s) (hF : Fits 92439874 F) :
    KeptO F b o (execClaimPeriodsElapsed s) := by
  unfold execClaimPeriodsElapsed
  repeat' first
    | exact hF.of rfl
    | with_reducible assumption
    | with_reducible apply serviceStart_kept
    | with_reducible apply settle_kept
    | with_reducible apply kept_ite
    | with_reducible apply keptO_next
    | (apply Kept.gen; dsimp -zeta only; on_goal 2 => (intro y e hy; rw [e]; exact hy.upd hF rfl rfl))

theorem execSoloWaitExpiry_kept (h : Kept F b o s) (hF : Fits 92439874 F) : KeptO F b o (execSoloWaitExpiry s) := by
  unfold execSoloWaitExpiry
  repeat' first
    | exact hF.of rfl
    | with_reducible assumption
    | with_reducible apply requestArb_kept
    | with_reducible apply serviceStart_kept
    | with_reducible apply kept_ite
    | with_reducible apply keptO_next
    | (apply Kept.gen; dsimp -zeta only; on_goal 2 => (intro y e hy; rw [e]; exact hy.upd hF rfl rfl))

theorem splitClaim_kept (h : Kept F b o s) (hF : Fits 92274688 F) : Kept F b o (splitClaim s) := by
  unfold splitClaim
  repeat' first
    | exact hF.of rfl
    | with_reducible assumption
    | with_reducible apply record_kept
    | with_reducible apply tailDrop_kept
    | with_reducible apply requestArb_kept
    | with_reducible apply kept_ite
    | (apply Kept.gen; dsimp -zeta only; on_goal 2 => (intro y e hy; rw [e]; exact hy.upd hF rfl rfl))

theorem arbWon_kept (h : Kept F b o s) (hF : Fits 92439874 F) : Kept F b o (arbWon s) := by
  unfold arbWon
  repeat' first
    | exact hF.of rfl
    | with_reducible assumption
    | with_reducible apply endArb_kept
    | with_reducible apply serviceStart_kept
    | (intro x; subst x)
    | lift_lets
    | split
    | (apply Kept.gen; dsimp -zeta only; on_goal 2 => (intro y e hy; rw [e]; exact hy.upd hF rfl rfl))

theorem arbLost_kept (h : Kept F b o s) (hF : Fits 75497472 F) : Kept F b o (arbLost s) := by
  unfold arbLost
  repeat' first
    | exact hF.of rfl
    | with_reducible assumption
    | with_reducible apply record_kept
    | with_reducible apply endArb_kept
    | with_reducible apply tailDrop_kept
    | with_reducible apply kept_ite
    | (apply Kept.gen; dsimp -zeta only; on_goal 2 => (intro y e hy; rw [e]; exact hy.upd hF rfl rfl))

theorem arbOpen_kept (h : Kept F b o s) (hF : Fits 92439874 F) : Kept F b o (arbOpen s) := by
  unfold arbOpen
  repeat' first
    | exact hF.of rfl
    | with_reducible assumption
    | with_reducible apply endArb_kept
    | with_reducible apply serviceStart_kept
    | with_reducible apply record_kept
    | (intro x; subst x)
    | lift_lets
    | split
    | (apply Kept.gen; dsimp -zeta only; on_goal 2 => (intro y e hy; rw [e]; exact hy.upd hF rfl rfl))

theorem execArbitrationDeadline_kept (h : Kept F b o s) (hF : Fits 92439874 F) :
    KeptO F b o (execArbitrationDeadline s) := by
  unfold execArbitrationDeadline
  repeat' first
    | exact hF.of rfl
    | with_reducible assumption
    | with_reducible apply arbWon_kept
    | with_reducible apply arbLost_kept
    | with_reducible apply arbOpen_kept
    | with_reducible apply keptO_next
    | split
    | (apply Kept.gen; dsimp -zeta only; on_goal 2 => (intro y e hy; rw [e]; exact hy.upd hF rfl rfl))

theorem execYieldTakeover_kept (h : Kept F b o s) (hF : Fits 6670966602 F) : KeptO F b o (execYieldTakeover s) := by
  unfold execYieldTakeover
  repeat' first
    | exact hF.of rfl
    | with_reducible assumption
    | with_reducible apply takeOver_kept
    | with_reducible apply keptO_next
    | split

theorem execSilentPartnerTakeover_kept (h : Kept F b o s) (hF : Fits 6670966602 F) :
    KeptO F b o (execSilentPartnerTakeover s) := by
  unfold execSilentPartnerTakeover
  repeat' first
    | exact hF.of rfl
    | with_reducible assumption
    | with_reducible apply takeOver_kept
    | with_reducible apply kept_ite
    | with_reducible apply keptO_next

theorem execYieldReceived_kept (h : Kept F b o s) {a1} (hF : Fits 8388608 F) :
    KeptO F b o (execYieldReceived a1 s) := by
  unfold execYieldReceived
  repeat' first
    | exact hF.of rfl
    | with_reducible assumption
    | with_reducible apply kept_ite
    | with_reducible apply keptO_next
    | (apply Kept.gen; dsimp -zeta only; on_goal 2 => (intro y e hy; rw [e]; exact hy.upd hF rfl rfl))

theorem actPairStatus_kept (h : Kept F b o s) {a1 a2} (hF : Fits 4294967296 F) :
    Kept F b o (actPairStatus a1 a2 s) := by
  unfold actPairStatus
  repeat' first
    | exact hF.of rfl
    | with_reducible assumption
    | (with_reducible apply serve_kept; on_goal 2 => (intros; try beta_reduce))

theorem execPairStatus_kept (h : Kept F b o s) {a1 a2} (hF : Fits 4362076160 F) :
    KeptO F b o (execPairStatus a1 a2 s) := by
  unfold execPairStatus
  repeat' first
    | exact hF.of rfl
    | with_reducible assumption
    | (with_reducible apply hostRow_kept; on_goal 2 => (intros; try beta_reduce))
    | with_reducible apply actPairStatus_kept

theorem mirrorReply_kept (h : Kept F b o s) (hF : Fits 68719476736 F) :
    Kept F b o (mirrorReply s).1 :=
  h.upd hF rfl rfl

theorem actMirrorStatus_kept (h : Kept F b o s) {a1 a2} (hF : Fits 73014444032 F) :
    Kept F b o (actMirrorStatus a1 a2 s) := by
  unfold actMirrorStatus
  repeat' first
    | exact hF.of rfl
    | with_reducible assumption
    | (with_reducible apply serve_kept; on_goal 2 => (intros; try beta_reduce))
    | with_reducible apply mirrorReply_kept

theorem execMirrorStatus_kept (h : Kept F b o s) {a1 a2} (hF : Fits 73081552896 F) :
    KeptO F b o (execMirrorStatus a1 a2 s) := by
  unfold execMirrorStatus
  repeat' first
    | exact hF.of rfl
    | with_reducible assumption
    | (with_reducible apply hostRow_kept; on_goal 2 => (intros; try beta_reduce))
    | with_reducible apply actMirrorStatus_kept

theorem actPartnerReleaseRead_kept (h : Kept F b o s) {a1 a2 a3} (hF : Fits 4294967296 F) :
    Kept F b o (actPartnerReleaseRead a1 a2 a3 s) := by
  unfold actPartnerReleaseRead
  repeat' first
    | exact hF.of rfl
    | with_reducible assumption
    | (with_reducible apply serve_kept; on_goal 2 => (intros; try beta_reduce))

theorem execPartnerReleaseRead_kept (h : Kept F b o s) {a1 a2 a3} (hF : Fits 4362076160 F) :
    KeptO F b o (execPartnerReleaseRead a1 a2 a3 s) := by
  unfold execPartnerReleaseRead
  repeat' first
    | exact hF.of rfl
    | with_reducible assumption
    | (with_reducible apply hostRow_kept; on_goal 2 => (intros; try beta_reduce))
    | with_reducible apply actPartnerReleaseRead_kept
    | with_reducible apply keptO_ite
    | exact keptO_fault

theorem releasePartner_kept (h : Kept F b o s) (hF : Fits 4374675456 F) : Kept F b o (releasePartner s).1 := by
  unfold releasePartner
  repeat' first
    | exact hF.of rfl
    | with_reducible assumption
    | with_reducible apply releaseAll_kept
    | with_reducible apply event_kept
    | with_reducible apply kept_ite_fst
    | lift_lets
    | (apply Kept.gen; dsimp -zeta only; on_goal 2 => (intro y e hy; rw [e]; exact hy.upd hF rfl rfl))

theorem actPartnerRelease_kept (h : Kept F b o s) {a1 a2 a3} (hF : Fits 38734413824 F) :
    Kept F b o (actPartnerRelease a1 a2 a3 s) := by
  unfold actPartnerRelease
  repeat' first
    | exact hF.of rfl
    | with_reducible assumption
    | (with_reducible apply serve_kept; on_goal 2 => (intros; try beta_reduce))
    | (with_reducible apply withToken_kept; on_goal 2 => (intros; try beta_reduce))
    | with_reducible apply releasePartner_kept

theorem execPartnerRelease_kept (h : Kept F b o s) {a1 a2 a3} (hF : Fits 38734413824 F) :
    KeptO F b o (execPartnerRelease a1 a2 a3 s) := by
  unfold execPartnerRelease
  repeat' first
    | exact hF.of rfl
    | with_reducible assumption
    | (with_reducible apply hostRow_kept; on_goal 2 => (intros; try beta_reduce))
    | with_reducible apply actPartnerRelease_kept
    | with_reducible apply keptO_ite
    | exact keptO_fault

theorem admitReply_kept (h : Kept F b o s) {a2 a3} (hF : Fits 68719476736 F) :
    Kept F b o (admitReply s a2 a3).1 :=
  h.upd hF rfl rfl

theorem actPartnerAdmitRead_kept (h : Kept F b o s) {a1 a2 a3 a4} (hF : Fits 73014444032 F) :
    Kept F b o (actPartnerAdmitRead a1 a2 a3 a4 s) := by
  unfold actPartnerAdmitRead
  repeat' first
    | exact hF.of rfl
    | with_reducible assumption
    | (with_reducible apply serve_kept; on_goal 2 => (intros; try beta_reduce))
    | with_reducible apply admitReply_kept

theorem execPartnerAdmitRead_kept (h : Kept F b o s) {a1 a2 a3 a4} (hF : Fits 73081552896 F) :
    KeptO F b o (execPartnerAdmitRead a1 a2 a3 a4 s) := by
  unfold execPartnerAdmitRead
  repeat' first
    | exact hF.of rfl
    | with_reducible assumption
    | (with_reducible apply hostRow_kept; on_goal 2 => (intros; try beta_reduce))
    | with_reducible apply actPartnerAdmitRead_kept
    | with_reducible apply keptO_ite
    | exact keptO_fault

theorem admitPartner_kept (h : Kept F b o s) {a2} (hF : Fits 68799299584 F) : Kept F b o (admitPartner s a2).1 := by
  unfold admitPartner
  repeat' first
    | exact hF.of rfl
    | with_reducible assumption
    | with_reducible apply admitReply_kept
    | with_reducible apply event_kept
    | split
    | (apply Kept.gen; dsimp -zeta only; on_goal 2 => (intro y e hy; rw [e]; exact hy.upd hF rfl rfl))

theorem actPartnerAdmit_kept (h : Kept F b o s) {a1 a2 a3 a4} (hF : Fits 107454005248 F) :
    Kept F b o (actPartnerAdmit a1 a2 a3 a4 s) := by
  unfold actPartnerAdmit
  repeat' first
    | exact hF.of rfl
    | with_reducible assumption
    | (with_reducible apply serve_kept; on_goal 2 => (intros; try beta_reduce))
    | (with_reducible apply withToken_kept; on_goal 2 => (intros; try beta_reduce))
    | with_reducible apply admitPartner_kept

theorem execPartnerAdmit_kept (h : Kept F b o s) {a1 a2 a3 a4} (hF : Fits 107454005248 F) :
    KeptO F b o (execPartnerAdmit a1 a2 a3 a4 s) := by
  unfold execPartnerAdmit
  repeat' first
    | exact hF.of rfl
    | with_reducible assumption
    | (with_reducible apply hostRow_kept; on_goal 2 => (intros; try beta_reduce))
    | with_reducible apply actPartnerAdmit_kept
    | with_reducible apply keptO_ite
    | exact keptO_fault

theorem pairBoundary_kept (h : Kept F b o s) (hF : Fits 24387706698 F) : Kept F b o (pairBoundary s) := by
  unfold pairBoundary
  repeat' first
    | exact hF.of rfl
    | with_reducible assumption
    | with_reducible apply activateTadpoles_kept
    | with_reducible apply takeOver_kept
    | with_reducible apply yieldBoundary_kept
    | with_reducible apply kept_ite
    | (apply Kept.gen; dsimp -zeta only; on_goal 2 => (intro y e hy; rw [e]; exact hy.upd hF rfl rfl))

/-! ### HostRun -/

theorem unknownOpcode_kept (h : Kept F b o s) {a1 a2} (hF : Fits 4294967296 F) :
    Kept F b o (unknownOpcode a1 a2 s) := by
  unfold unknownOpcode
  repeat' first
    | exact hF.of rfl
    | with_reducible assumption
    | with_reducible apply answer_kept

theorem undefinedAction_kept (h : Kept F b o s) {a2 a3 a4 a5 a6} (hF : Fits 4294967296 F) :
    Kept F b o (undefinedAction s a2 a3 a4 a5 a6) := by
  unfold undefinedAction
  repeat' first
    | exact hF.of rfl
    | with_reducible assumption
    | (with_reducible apply serve_kept; on_goal 2 => (intros; try beta_reduce))

/-- What any request does when its turn comes. -/
theorem hostOf_kept {i : Instr} {r : HostReq} (e : hostOf i = some r) (h : Kept F b o s)
    (hF : Fits 127504481642 F) : Kept F b o (r.act s) := by
  cases i with
  | ping => cases e; dsimp only; exact actPing_kept h (hF.of rfl)
  | identityRead => cases e; dsimp only; exact actIdentityRead_kept h (hF.of rfl)
  | modeRequest => cases e; dsimp only; exact actModeRequest_kept h (hF.of rfl)
  | healthRead => cases e; dsimp only; exact actHealthRead_kept h (hF.of rfl)
  | slackRead => cases e; dsimp only; exact actSlackRead_kept h (hF.of rfl)
  | timeMark => cases e; dsimp only; exact actTimeMark_kept h (hF.of rfl)
  | paramRead => cases e; dsimp only; exact actParamRead_kept h (hF.of rfl)
  | paramWrite => cases e; dsimp only; exact actParamWrite_kept h (hF.of rfl)
  | paramCommit => cases e; dsimp only; exact actParamCommit_kept h (hF.of rfl)
  | paramCommitRead => cases e; dsimp only; exact actParamCommitRead_kept h (hF.of rfl)
  | paramDiscard => cases e; dsimp only; exact actParamDiscard_kept h (hF.of rfl)
  | provingReport => cases e; dsimp only; exact actProvingReport_kept h (hF.of rfl)
  | callEnter => cases e; dsimp only; exact actCallEnter_kept h (hF.of rfl)
  | callCancel => cases e; dsimp only; exact actCallCancel_kept h (hF.of rfl)
  | callQuery => cases e; dsimp only; exact actCallQuery_kept h (hF.of rfl)
  | itineraryRead => cases e; dsimp only; exact actItineraryRead_kept h (hF.of rfl)
  | carRegimeSet => cases e; dsimp only; exact actCarRegimeSet_kept h (hF.of rfl)
  | carServiceRemove => cases e; dsimp only; exact actCarServiceRemove_kept h (hF.of rfl)
  | carServiceAdd => cases e; dsimp only; exact actCarServiceAdd_kept h (hF.of rfl)
  | powerBudgetOverrideSet => cases e; dsimp only; exact actPowerBudgetOverrideSet_kept h (hF.of rfl)
  | powerBudgetOverrideRelease => cases e; dsimp only; exact actPowerBudgetOverrideRelease_kept h (hF.of rfl)
  | groupStatus => cases e; dsimp only; exact actGroupStatus_kept h (hF.of rfl)
  | tripTarget => cases e; dsimp only; exact actTripTarget_kept h (hF.of rfl)
  | jog => cases e; dsimp only; exact actJog_kept h (hF.of rfl)
  | stop => cases e; dsimp only; exact actStop_kept h (hF.of rfl)
  | motionStatus => cases e; dsimp only; exact actMotionStatus_kept h (hF.of rfl)
  | learnRunRead => cases e; dsimp only; exact actLearnRunRead_kept h (hF.of rfl)
  | learnRunStart => cases e; dsimp only; exact actLearnRunStart_kept h (hF.of rfl)
  | learnRunAbort => cases e; dsimp only; exact actLearnRunAbort_kept h (hF.of rfl)
  | brakeTestRead => cases e; dsimp only; exact actBrakeTestRead_kept h (hF.of rfl)
  | brakeTestStart => cases e; dsimp only; exact actBrakeTestStart_kept h (hF.of rfl)
  | positionRead => cases e; dsimp only; exact actPositionRead_kept h (hF.of rfl)
  | doorStop => cases e; dsimp only; exact actDoorStop_kept h (hF.of rfl)
  | doorOpen => cases e; dsimp only; exact actDoorOpen_kept h (hF.of rfl)
  | doorClose => cases e; dsimp only; exact actDoorClose_kept h (hF.of rfl)
  | doorNudgeClose => cases e; dsimp only; exact actDoorNudgeClose_kept h (hF.of rfl)
  | doorHoldOpen => cases e; dsimp only; exact actDoorHoldOpen_kept h (hF.of rfl)
  | doorReleaseHold => cases e; dsimp only; exact actDoorReleaseHold_kept h (hF.of rfl)
  | doorReference => cases e; dsimp only; exact actDoorReference_kept h (hF.of rfl)
  | doorStatus => cases e; dsimp only; exact actDoorStatus_kept h (hF.of rfl)
  | doorTableWrite => cases e; dsimp only; exact actDoorTableWrite_kept h (hF.of rfl)
  | doorTableRead => cases e; dsimp only; exact actDoorTableRead_kept h (hF.of rfl)
  | loopConfigWrite => cases e; dsimp only; exact actLoopConfigWrite_kept h (hF.of rfl)
  | loopCoeffStage => cases e; dsimp only; exact actLoopCoeffStage_kept h (hF.of rfl)
  | loopCoeffSwap => cases e; dsimp only; exact actLoopCoeffSwap_kept h (hF.of rfl)
  | loopCoeffSwapReset => cases e; dsimp only; exact actLoopCoeffSwapReset_kept h (hF.of rfl)
  | injectStart => cases e; dsimp only; exact actInjectStart_kept h (hF.of rfl)
  | injectStop => cases e; dsimp only; exact actInjectStop_kept h (hF.of rfl)
  | captureArm => cases e; dsimp only; exact actCaptureArm_kept h (hF.of rfl)
  | captureRead => cases e; dsimp only; exact actCaptureRead_kept h (hF.of rfl)
  | loopStatus => cases e; dsimp only; exact actLoopStatus_kept h (hF.of rfl)
  | safetyStatus => cases e; dsimp only; exact actSafetyStatus_kept h (hF.of rfl)
  | safetySetStage => cases e; dsimp only; exact actSafetySetStage_kept h (hF.of rfl)
  | safetySetConfirm => cases e; dsimp only; exact actSafetySetConfirm_kept h (hF.of rfl)
  | tripResetRead => cases e; dsimp only; exact actTripResetRead_kept h (hF.of rfl)
  | tripResetArm => cases e; dsimp only; exact actTripResetArm_kept h (hF.of rfl)
  | tripResetDisarm => cases e; dsimp only; exact actTripResetDisarm_kept h (hF.of rfl)
  | lockoutResetRead => cases e; dsimp only; exact actLockoutResetRead_kept h (hF.of rfl)
  | lockoutResetArm => cases e; dsimp only; exact actLockoutResetArm_kept h (hF.of rfl)
  | outputTestReport => cases e; dsimp only; exact actOutputTestReport_kept h (hF.of rfl)
  | pairStatus => cases e; dsimp only; exact actPairStatus_kept h (hF.of rfl)
  | handoverRead => cases e; dsimp only; exact actHandoverRead_kept h (hF.of rfl)
  | handoverRequest => cases e; dsimp only; exact actHandoverRequest_kept h (hF.of rfl)
  | handoverActivateTadpoles => cases e; dsimp only; exact actHandoverActivateTadpoles_kept h (hF.of rfl)
  | partnerReleaseRead => cases e; dsimp only; exact actPartnerReleaseRead_kept h (hF.of rfl)
  | partnerRelease => cases e; dsimp only; exact actPartnerRelease_kept h (hF.of rfl)
  | partnerAdmitRead => cases e; dsimp only; exact actPartnerAdmitRead_kept h (hF.of rfl)
  | partnerAdmit => cases e; dsimp only; exact actPartnerAdmit_kept h (hF.of rfl)
  | mirrorStatus => cases e; dsimp only; exact actMirrorStatus_kept h (hF.of rfl)
  | portConfig => cases e; dsimp only; exact actPortConfig_kept h (hF.of rfl)
  | portStatus => cases e; dsimp only; exact actPortStatus_kept h (hF.of rfl)
  | nodeList => cases e; dsimp only; exact actNodeList_kept h (hF.of rfl)
  | pointRead => cases e; dsimp only; exact actPointRead_kept h (hF.of rfl)
  | pointWriteOutput => cases e; dsimp only; exact actPointWriteOutput_kept h (hF.of rfl)
  | pointForce => cases e; dsimp only; exact actPointForce_kept h (hF.of rfl)
  | pointForceRelease => cases e; dsimp only; exact actPointForceRelease_kept h (hF.of rfl)
  | pointMapWrite => cases e; dsimp only; exact actPointMapWrite_kept h (hF.of rfl)
  | nodeMessageSend => cases e; dsimp only; exact actNodeMessageSend_kept h (hF.of rfl)
  | nodeMessageRead => cases e; dsimp only; exact actNodeMessageRead_kept h (hF.of rfl)
  | logCursorOpen => cases e; dsimp only; exact actLogCursorOpen_kept h (hF.of rfl)
  | logRead => cases e; dsimp only; exact actLogRead_kept h (hF.of rfl)
  | logCursorClose => cases e; dsimp only; exact actLogCursorClose_kept h (hF.of rfl)
  | logStatus => cases e; dsimp only; exact actLogStatus_kept h (hF.of rfl)
  | logClearChallenge => cases e; dsimp only; exact actLogClearChallenge_kept h (hF.of rfl)
  | logClear => cases e; dsimp only; exact actLogClear_kept h (hF.of rfl)
  | rateLimitRead => cases e; dsimp only; exact actRateLimitRead_kept h (hF.of rfl)
  | rateLimitSet => cases e; dsimp only; exact actRateLimitSet_kept h (hF.of rfl)
  | rateLimitRemove => cases e; dsimp only; exact actRateLimitRemove_kept h (hF.of rfl)
  | imageBegin => cases e; dsimp only; exact actImageBegin_kept h (hF.of rfl)
  | imageChunk => cases e; dsimp only; exact actImageChunk_kept h (hF.of rfl)
  | imageEnd => cases e; dsimp only; exact actImageEnd_kept h (hF.of rfl)
  | imageActivate => cases e; dsimp only; exact actImageActivate_kept h (hF.of rfl)
  | imageStatus => cases e; dsimp only; exact actImageStatus_kept h (hF.of rfl)
  | authChallenge => cases e; dsimp only; exact actAuthChallenge_kept h (hF.of rfl)
  | keyEnrolRead => cases e; dsimp only; exact actKeyEnrolRead_kept h (hF.of rfl)
  | keyEnrol => cases e; dsimp only; exact actKeyEnrol_kept h (hF.of rfl)
  | unknownOpcodePacket => cases e; exact unknownOpcode_kept h (hF.of rfl)
  | _ => cases e

theorem takeTurn_kept (h : Kept F b o s) {w : Waiting} (hF : Fits 127504481642 F) : Kept F b o (takeTurn s w) := by
  unfold takeTurn
  split
  · split
    · rename_i e; exact startReq_kept h (fun _ h => hostOf_kept e h (hF.of rfl)) (hF.of rfl)
    · exact h
  · exact startReq_kept h (fun _ h => undefinedAction_kept h (hF.of rfl)) (hF.of rfl)
  · exact sendReply_kept h (hF.of rfl)

theorem drainN_kept (h : Kept F b o s) {n} (hF : Fits 127504481642 F) : Kept F b o (drainN n s) := by
  induction n generalizing s with
  | zero => exact h
  | succ n ih =>
    unfold drainN
    split
    · exact h
    · refine kept_ite h (ih (takeTurn_kept ?_ (hF.of rfl)))
      exact h.upd hF rfl rfl

theorem drain_kept (h : Kept F b o s) (hF : Fits 127504481642 F) : Kept F b o (drain s) := drainN_kept h (hF.of rfl)

/-! ### Packets -/

theorem refuseAtOnce_kept (h : Kept F b o s) {hd : Hdr} {op st : Nat} (hF : Fits 4362076160 F) :
    Kept F b o (refuseAtOnce s hd op st) := by
  unfold refuseAtOnce
  split; · exact h
  split
  · refine event_kept ?_ (hF.of rfl)
    split
    · exact State.hqError_kept h (hF.of rfl)
    · exact h
  · rename_i hl
    extract_lets s1 r
    have h1 : Kept F b o s1 := State.modChan_wait h (by omega) (hF.of rfl)
    clear_value s1
    exact kept_ite (h1.upd hF rfl rfl) (sendReply_kept h1 (hF.of rfl))

theorem completePacket_kept (h : Kept F b o s) {c : Chan} {m : Bytes} (hF : Fits 127504481642 F) :
    Kept F b o (completePacket s c m) := by
  unfold completePacket
  extract_lets hd op p
  split
  · exact complete_kept h (fun _ h => unknownOpcode_kept h (hF.of rfl)) (hF.of rfl)
  · split
    · split
      · rename_i e; exact complete_kept h (fun _ h => hostOf_kept e h (hF.of rfl)) (hF.of rfl)
      · exact h
    · exact complete_kept h (fun _ h => undefinedAction_kept h (hF.of rfl)) (hF.of rfl)

theorem takePacket_kept (h : Kept F b o s) {a2 a3} (hF : Fits 127504481642 F) : Kept F b o (takePacket s a2 a3) := by
  unfold takePacket
  repeat' first
    | exact hF.of rfl
    | with_reducible assumption
    | with_reducible apply completePacket_kept
    | with_reducible apply refuseAtOnce_kept
    | with_reducible apply kept_ite

/-! ### HostPort -/

theorem execUnknownOpcodePacket_kept (h : Kept F b o s) {a1 a2} (hF : Fits 4362076160 F) :
    KeptO F b o (execUnknownOpcodePacket a1 a2 s) := by
  unfold execUnknownOpcodePacket
  repeat' first
    | exact hF.of rfl
    | with_reducible assumption
    | (with_reducible apply hostRow_kept; on_goal 2 => (intros; try beta_reduce))
    | with_reducible apply unknownOpcode_kept
    | with_reducible apply keptO_ite
    | exact keptO_fault

theorem execBadCrcPacket_kept (h : Kept F b o s) {a1 a2} (hF : Fits 4362076160 F) :
    KeptO F b o (execBadCrcPacket a1 a2 s) := by
  unfold execBadCrcPacket
  repeat' first
    | exact hF.of rfl
    | with_reducible assumption
    | with_reducible apply refuseAtOnce_kept
    | with_reducible apply keptO_next

theorem State.setAsm_kept (h : Kept F b o s) {a2} (hF : Fits 4294967296 F) :
    Kept F b o (State.setAsm s a2) :=
  h.upd hF rfl rfl

theorem setAsm_kept (h : Kept F b o s) {m : Bytes} (hF : Fits 127504481642 F) :
    Kept F b o (s.setAsm m) := h.upd hF rfl rfl

theorem assemble_kept (h : Kept F b o s) {n : Nat} {m : Bytes} (hF : Fits 127504481642 F) :
    Kept F b o (assemble n s m) := by
  induction n generalizing s m with
  | zero => exact setAsm_kept h (hF.of rfl)
  | succ n ih =>
    have ha : ∀ m, Kept F b o (s.setAsm m) := fun m => setAsm_kept h (hF.of rfl)
    have he : ∀ i, Kept F b o (s.hqError i) := fun i => State.hqError_kept h (hF.of rfl)
    unfold assemble
    split
    · exact ha _
    · refine kept_ite (ih (he _)) (kept_ite (ha _) ?_)
      extract_lets len
      exact kept_ite (ih (he _)) (kept_ite (ha _) (ih (takePacket_kept h (hF.of rfl))))

theorem discardPartial_kept (h : Kept F b o s) (hF : Fits 4362076160 F) : Kept F b o (discardPartial s) := by
  unfold discardPartial
  repeat' first
    | exact hF.of rfl
    | with_reducible assumption
    | with_reducible apply event_kept
    | with_reducible apply State.hqError_kept
    | with_reducible apply State.setAsm_kept
    | with_reducible apply kept_ite

theorem State.drove_kept (h : Kept F b o s) {a2} (hF : Fits 4294967296 F) :
    Kept F b o (State.drove s a2) :=
  h.upd hF rfl rfl

theorem execHqStatus_kept (h : Kept F b o s) (hF : Fits 4294967296 F) : KeptO F b o (execHqStatus s) := by
  unfold execHqStatus
  repeat' first
    | exact hF.of rfl
    | with_reducible assumption
    | with_reducible apply State.drove_kept
    | with_reducible apply kept_ite
    | with_reducible apply keptO_next
    | lift_lets
    | (apply Kept.gen; dsimp -zeta only; on_goal 2 => (intro y e hy; rw [e]; exact hy.upd hF rfl rfl))

theorem execHqWrite_kept (h : Kept F b o s) {a1} (hF : Fits 127504481642 F) : KeptO F b o (execHqWrite a1 s) := by
  unfold execHqWrite
  repeat' first
    | exact hF.of rfl
    | with_reducible assumption
    | with_reducible apply assemble_kept
    | with_reducible apply State.drove_kept
    | with_reducible apply kept_ite
    | with_reducible apply keptO_ite
    | exact keptO_fault
    | with_reducible apply keptO_next

theorem execHqRead_kept (h : Kept F b o s) {a1} (hF : Fits 4362076160 F) : KeptO F b o (execHqRead a1 s) := by
  unfold execHqRead
  repeat' first
    | exact hF.of rfl
    | with_reducible assumption
    | with_reducible apply State.drove_kept
    | with_reducible apply State.hqError_kept
    | with_reducible apply popOut_kept
    | with_reducible apply keptO_next
    | split

theorem execHqFlush_kept (h : Kept F b o s) (hF : Fits 4362076160 F) : KeptO F b o (execHqFlush s) := by
  unfold execHqFlush
  repeat' first
    | exact hF.of rfl
    | with_reducible assumption
    | with_reducible apply discardPartial_kept
    | with_reducible apply State.drove_kept
    | with_reducible apply kept_ite
    | with_reducible apply keptO_next

theorem execHqUnknownCommand_kept (h : Kept F b o s) {a1} (hF : Fits 4294967296 F) :
    KeptO F b o (execHqUnknownCommand a1 s) := by
  unfold execHqUnknownCommand
  repeat' first
    | exact hF.of rfl
    | with_reducible assumption
    | with_reducible apply State.hqError_kept
    | with_reducible apply State.drove_kept
    | with_reducible apply kept_ite
    | with_reducible apply keptO_ite
    | exact keptO_fault
    | with_reducible apply keptO_next

theorem execPartialPacketTimeout_kept (h : Kept F b o s) (hF : Fits 4362076160 F) :
    KeptO F b o (execPartialPacketTimeout s) := by
  unfold execPartialPacketTimeout
  repeat' first
    | exact hF.of rfl
    | with_reducible assumption
    | with_reducible apply discardPartial_kept
    | with_reducible apply kept_ite
    | with_reducible apply keptO_next

theorem execHostChannelFrame_kept (h : Kept F b o s) {a1 a2} (hF : Fits 127504481642 F) :
    KeptO F b o (execHostChannelFrame a1 a2 s) := by
  unfold execHostChannelFrame
  repeat' first
    | exact hF.of rfl
    | with_reducible assumption
    | with_reducible apply refuseAtOnce_kept
    | with_reducible apply takePacket_kept
    | with_reducible apply kept_ite
    | with_reducible apply keptO_next
    | (apply Kept.gen; dsimp -zeta only; on_goal 2 => (intro y e hy; rw [e]; exact hy.upd hF rfl rfl))

/-! ### Croaks -/

theorem collide_kept (h : Kept F b o s) (hF : Fits 226679882 F) : Kept F b o (collide s) := by
  unfold collide
  repeat' first
    | exact hF.of rfl
    | with_reducible assumption
    | with_reducible apply raise_kept
    | (apply Kept.gen; dsimp -zeta only; on_goal 2 => (intro y e hy; rw [e]; exact hy.upd hF rfl rfl))

theorem startRule_kept (h : Kept F b o s) (hF : Fits 226679882 F) : Kept F b o (startRule s) := by
  unfold startRule
  repeat' first
    | exact hF.of rfl
    | with_reducible assumption
    | with_reducible apply collide_kept
    | with_reducible apply kept_ite
    | (apply Kept.gen; dsimp -zeta only; on_goal 2 => (intro y e hy; rw [e]; exact hy.upd hF rfl rfl))

theorem sendCroak_kept (h : Kept F b o s) (hF : Fits 8388608 F) : Kept F b o (sendCroak s) := by
  unfold sendCroak
  repeat' first
    | exact hF.of rfl
    | with_reducible assumption
    | with_reducible apply kept_ite
    | with_reducible apply kept_ite_fst
    | (with_reducible apply forEach_kept; on_goal 2 => intros)
    | (extract_lets x; refine cut (P := Kept F b o x) ?_ fun hx => ?_
       (on_goal 2 => clear_value x); (on_goal 1 => subst x))
    | (extract_lets x; refine cut (P := Kept F b o x.1) ?_ fun hx => ?_
       (on_goal 2 => clear_value x); (on_goal 1 => subst x))
    | (extract_lets x; subst x)
    | (with_reducible apply foldl_kept; on_goal 2 => intros)
    | (with_reducible apply foldl_fst_kept; on_goal 2 => intros)
    | split
    | (with_reducible refine kept_fst ‹_ = (_, _)› ?_)
    | (apply Kept.gen; dsimp -zeta only; on_goal 2 => (intro y e hy; rw [e]; exact hy.upd hF rfl rfl))

theorem execCroakSlot_kept (h : Kept F b o s) (hF : Fits 226679882 F) : KeptO F b o (execCroakSlot s) := by
  unfold execCroakSlot
  repeat' first
    | exact hF.of rfl
    | with_reducible assumption
    | with_reducible apply startRule_kept
    | with_reducible apply sendCroak_kept
    | with_reducible apply State.modCroak_kept
    | with_reducible apply kept_ite
    | with_reducible apply keptO_next
    | (with_reducible apply forEach_kept; on_goal 2 => intros)

theorem hearRequest_kept (h : Kept F b o s) {a2} (hF : Fits 8388608 F) : Kept F b o (hearRequest s a2) := by
  unfold hearRequest
  repeat' first
    | exact hF.of rfl
    | with_reducible assumption
    | with_reducible apply kept_ite
    | (apply Kept.gen; dsimp -zeta only; on_goal 2 => (intro y e hy; rw [e]; exact hy.upd hF rfl rfl))

theorem hearVerdict_kept (h : Kept F b o s) {a2 a3} (hF : Fits 8388608 F) : Kept F b o (hearVerdict s a2 a3) := by
  unfold hearVerdict
  repeat' first
    | exact hF.of rfl
    | with_reducible assumption
    | with_reducible apply kept_ite
    | (apply Kept.gen; dsimp -zeta only; on_goal 2 => (intro y e hy; rw [e]; exact hy.upd hF rfl rfl))

theorem standbyHears_kept (h : Kept F b o s) {a2} (hF : Fits 75497472 F) : Kept F b o (standbyHears s a2) := by
  unfold standbyHears
  repeat' first
    | exact hF.of rfl
    | with_reducible assumption
    | with_reducible apply settle_kept
    | with_reducible apply event_kept
    | with_reducible apply kept_ite
    | (apply Kept.gen; dsimp -zeta only; on_goal 2 => (intro y e hy; rw [e]; exact hy.upd hF rfl rfl))

theorem activeHears_kept (h : Kept F b o s) {a2} (hF : Fits 7071778114 F) : Kept F b o (activeHears s a2) := by
  unfold activeHears
  repeat' first
    | exact hF.of rfl
    | with_reducible assumption
    | with_reducible apply partnerLostInHand_kept
    | with_reducible apply giveBack_kept
    | with_reducible apply leaveStep_kept
    | with_reducible apply kept_ite
    | (with_reducible refine kept_fst ‹_ = (_, _)› ?_)
    | (apply Kept.gen; dsimp -zeta only; on_goal 2 => (intro y e hy; rw [e]; exact hy.upd hF rfl rfl))

theorem splitWatch_kept (h : Kept F b o s) {a2} (hF : Fits 92274688 F) : Kept F b o (splitWatch s a2) := by
  unfold splitWatch
  repeat' first
    | exact hF.of rfl
    | with_reducible assumption
    | with_reducible apply splitClaim_kept
    | with_reducible apply kept_ite
    | (apply Kept.gen; dsimp -zeta only; on_goal 2 => (intro y e hy; rw [e]; exact hy.upd hF rfl rfl))

theorem hearPartner_kept (h : Kept F b o s) {a2} (hF : Fits 7071778114 F) : Kept F b o (hearPartner s a2) := by
  unfold hearPartner
  repeat' first
    | exact hF.of rfl
    | with_reducible assumption
    | with_reducible apply standbyHears_kept
    | with_reducible apply activeHears_kept
    | with_reducible apply State.allOff_kept
    | with_reducible apply splitWatch_kept
    | split
    | (with_reducible refine kept_fst ‹_ = (_, _)› ?_)
    | (apply Kept.gen; dsimp -zeta only; on_goal 2 => (intro y e hy; rw [e]; exact hy.upd hF rfl rfl))

theorem hearSlot_kept (h : Kept F b o s) {a2 a3} (hF : Fits 7071778114 F) : Kept F b o (hearSlot s a2 a3) := by
  unfold hearSlot
  repeat' first
    | exact hF.of rfl
    | with_reducible assumption
    | with_reducible apply State.modCroak_kept
    | with_reducible apply hearVerdict_kept
    | with_reducible apply hearRequest_kept
    | with_reducible apply hearPartner_kept
    | with_reducible apply kept_ite

theorem hearOwn_kept (h : Kept F b o s) {a2 a3} (hF : Fits 226679882 F) : Kept F b o (hearOwn s a2 a3) := by
  unfold hearOwn
  repeat' first
    | exact hF.of rfl
    | with_reducible assumption
    | with_reducible apply State.modCroak_kept
    | with_reducible apply collide_kept
    | with_reducible apply kept_ite
    | (apply Kept.gen; dsimp -zeta only; on_goal 2 => (intro y e hy; rw [e]; exact hy.upd hF rfl rfl))

theorem execCroakReceived_kept (h : Kept F b o s) {a1 a2 a3} (hF : Fits 127504481642 F) :
    KeptO F b o (execCroakReceived a1 a2 a3 s) := by
  unfold execCroakReceived
  repeat' first
    | exact hF.of rfl
    | with_reducible assumption
    | with_reducible apply hearOwn_kept
    | with_reducible apply drain_kept
    | with_reducible apply hearSlot_kept
    | with_reducible apply kept_ite
    | with_reducible apply keptO_next
    | (apply Kept.gen; dsimp -zeta only; on_goal 2 => (intro y e hy; rw [e]; exact hy.upd hF rfl rfl))

theorem execCroakLineFault_kept (h : Kept F b o s) {a1} (hF : Fits 75497472 F) :
    KeptO F b o (execCroakLineFault a1 s) := by
  unfold execCroakLineFault
  repeat' first
    | exact hF.of rfl
    | with_reducible assumption
    | with_reducible apply record_kept
    | with_reducible apply kept_ite
    | with_reducible apply keptO_next
    | (apply Kept.gen; dsimp -zeta only; on_goal 2 => (intro y e hy; rw [e]; exact hy.upd hF rfl rfl))

theorem execOwnCroakNotReadBack_kept (h : Kept F b o s) (hF : Fits 226657354 F) :
    KeptO F b o (execOwnCroakNotReadBack s) := by
  unfold execOwnCroakNotReadBack
  repeat' first
    | exact hF.of rfl
    | with_reducible assumption
    | with_reducible apply record_kept
    | with_reducible apply lockoutBy_kept
    | with_reducible apply kept_ite
    | with_reducible apply keptO_next

theorem silentPartner_kept (h : Kept F b o s) (hF : Fits 7071761730 F) : Kept F b o (silentPartner s) := by
  unfold silentPartner
  repeat' first
    | exact hF.of rfl
    | with_reducible assumption
    | with_reducible apply requestArb_kept
    | with_reducible apply partnerLostInHand_kept
    | with_reducible apply record_kept
    | with_reducible apply finishYield_kept
    | with_reducible apply kept_ite
    | (apply Kept.gen; dsimp -zeta only; on_goal 2 => (intro y e hy; rw [e]; exact hy.upd hF rfl rfl))

theorem execPartnerSilent_kept (h : Kept F b o s) (hF : Fits 127504481642 F) : KeptO F b o (execPartnerSilent s) := by
  unfold execPartnerSilent
  repeat' first
    | exact hF.of rfl
    | with_reducible assumption
    | with_reducible apply State.modCroak_kept
    | with_reducible apply drain_kept
    | with_reducible apply silentPartner_kept
    | with_reducible apply record_kept
    | with_reducible apply kept_ite
    | with_reducible apply keptO_next

/-! ### Twin -/

theorem loseTwin_kept (h : Kept F b o s) (hF : Fits 7071778114 F) : Kept F b o (loseTwin s) := by
  unfold loseTwin
  repeat' first
    | exact hF.of rfl
    | with_reducible assumption
    | with_reducible apply leaveStep_kept
    | with_reducible apply record_kept
    | with_reducible apply releaseAll_kept
    | with_reducible apply abortHand_kept
    | with_reducible apply silentPartner_kept
    | with_reducible apply requestArb_kept
    | with_reducible apply kept_ite
    | (apply Kept.gen; dsimp -zeta only; on_goal 2 => (intro y e hy; rw [e]; exact hy.upd hF rfl rfl))

theorem execTwinLaneLost_kept (h : Kept F b o s) {a1} (hF : Fits 127504481642 F) :
    KeptO F b o (execTwinLaneLost a1 s) := by
  unfold execTwinLaneLost
  repeat' first
    | exact hF.of rfl
    | with_reducible assumption
    | with_reducible apply drain_kept
    | with_reducible apply loseTwin_kept
    | with_reducible apply record_kept
    | with_reducible apply kept_ite
    | with_reducible apply keptO_next
    | (apply Kept.gen; dsimp -zeta only; on_goal 2 => (intro y e hy; rw [e]; exact hy.upd hF rfl rfl))

theorem execTwinLaneRestored_kept (h : Kept F b o s) {a1} (hF : Fits 8388608 F) :
    KeptO F b o (execTwinLaneRestored a1 s) := by
  unfold execTwinLaneRestored
  repeat' first
    | exact hF.of rfl
    | with_reducible assumption
    | with_reducible apply kept_ite
    | with_reducible apply keptO_next
    | lift_lets
    | (apply Kept.gen; dsimp -zeta only; on_goal 2 => (intro y e hy; rw [e]; exact hy.upd hF rfl rfl))

theorem diverge_kept (h : Kept F b o s) (hF : Fits 16777216 F) : Kept F b o (diverge s) := h.upd hF rfl rfl

theorem loadChannel_kept (h : Kept F b o s) {a1 a3} (hF : Fits 83886592 F) : Kept F b o (loadChannel a1 s a3) := by
  unfold loadChannel
  repeat' first
    | exact hF.of rfl
    | with_reducible assumption
    | with_reducible apply State.modEnc_kept
    | with_reducible apply diverge_kept
    | with_reducible apply record_kept
    | (intro x; subst x)
    | lift_lets
    | split

theorem loadCarFb_kept (h : Kept F b o s) {a1 a3} (hF : Fits 512 F) :
    Kept F b o (loadCarFb a1 s a3) :=
  h.upd hF rfl rfl

theorem loadLoop_kept (h : Kept F b o s) {a1 a3} (hF : Fits 83887104 F) : Kept F b o (loadLoop a1 s a3) := by
  unfold loadLoop
  repeat' first
    | exact hF.of rfl
    | with_reducible assumption
    | with_reducible apply State.modLoop_kept
    | with_reducible apply diverge_kept
    | with_reducible apply record_kept
    | with_reducible apply kept_ite

theorem loadSafety_kept (h : Kept F b o s) {a1} (hF : Fits 163840 F) : Kept F b o (loadSafety a1 s) := by
  unfold loadSafety
  repeat' first
    | exact hF.of rfl
    | with_reducible assumption
    | with_reducible apply State.modCarSaf_kept
    | (with_reducible refine modOut_kept ?_ (fun x hx => ?_) ?_; on_goal 2 => (simp_all [outStill]; done))
    | (with_reducible apply forEach_kept; on_goal 2 => intros)
    | (apply Kept.gen; dsimp -zeta only; on_goal 2 => (intro y e hy; rw [e]; exact hy.upd hF rfl rfl))

theorem loadParams_kept (h : Kept F b o s) {a1} (hF : Fits 8122012672 F) : Kept F b o (loadParams a1 s) := by
  unfold loadParams
  repeat' first
    | exact hF.of rfl
    | with_reducible assumption
    | with_reducible apply adoptParams_kept
    | with_reducible apply kept_ite
    | lift_lets
    | (apply Kept.gen; dsimp -zeta only; on_goal 2 => (intro y e hy; rw [e]; exact hy.upd hF rfl rfl))

theorem loadRecord_kept (h : Kept F b o s) {r : Record} (hF : Fits 67108864 F) : Kept F b o (loadRecord s r) := by
  unfold loadRecord
  extract_lets l
  split
  · exact h.upd hF rfl rfl
  · rename_i hl
    have hl : s.log.buffer.length < 1024 := by simpa [l] using hl
    refine ⟨h.1.upd hF rfl, fun hb => ?_⟩
    obtain ⟨h1, ⟨h2, h3, -⟩, h5⟩ := h.2 hb
    refine ⟨h1, ⟨h2, h3, ?_⟩, h5⟩
    show (s.log.buffer ++ [r]).length ≤ 1024
    simp only [List.length_append, List.length_singleton]; omega

theorem loadClear_kept (h : Kept F b o s) {c} (hF : Fits 100663296 F) : Kept F b o (loadClear s c) := by
  unfold loadClear
  refine kept_ite h (passCursors_kept ?_ (hF.of rfl))
  exact shorter_kept h hF rfl rfl rfl rfl rfl rfl (Nat.zero_le _)

theorem loadRec_kept (h : Kept F b o s) {a1} (hF : Fits 100663328 F) : Kept F b o (loadRec a1 s) := by
  unfold loadRec
  repeat' first
    | exact hF.of rfl
    | with_reducible assumption
    | with_reducible apply loadClear_kept
    | with_reducible apply loadRecord_kept
    | (with_reducible apply forEach_kept; on_goal 2 => intros)
    | lift_lets
    | (apply Kept.gen; dsimp -zeta only; on_goal 2 => (intro y e hy; rw [e]; exact hy.upd hF rfl rfl))

theorem loadMessages_kept (h : Kept F b o s) {a1} (hF : Fits 524288 F) : Kept F b o (loadMessages a1 s) := by
  unfold loadMessages
  repeat' first
    | exact hF.of rfl
    | with_reducible assumption
    | with_reducible apply State.modNode_kept
    | (with_reducible apply forEach_kept; on_goal 2 => intros)

theorem loadHand_kept (h : Kept F b o s) {a1} (hF : Fits 25165824 F) : Kept F b o (loadHand a1 s) := by
  unfold loadHand
  repeat' first
    | exact hF.of rfl
    | with_reducible assumption
    | with_reducible apply abandonSlice_kept
    | split
    | (apply Kept.gen; dsimp -zeta only; on_goal 2 => (intro y e hy; rw [e]; exact hy.upd hF rfl rfl))

theorem mirrored_kept (h : Kept F b o s) {w : Option Swap} {mo : Motion} {d : Disp} {r : List (U16 × U32 × Bytes)}
    {g : List (Nat × Bytes)} {e : Tbl DoorBase} (hF : Fits 8180923936 F) :
    Kept F b o { s with
      loops := { s.loops with swap := w }, motion := mo, disp := d, host := { s.host with replay := r }
      proving := { s.proving with bgReload := none }, pair := { s.pair with activeDigests := g, doorBase := e } } := h.upd hF rfl rfl

theorem loadMirror_kept (h : Kept F b o s) {a2} (hF : Fits 8180923936 F) : Kept F b o (loadMirror s a2) := by
  unfold loadMirror
  extract_lets s1 s2 s3 lp hp pv pr s4
  have h1 : Kept F b o s1 := forEach_kept h fun _ _ h => loadChannel_kept h (hF.of rfl)
  clear_value s1
  have h2 : Kept F b o s2 := forEach_kept h1 fun _ _ h => loadCarFb_kept h (hF.of rfl)
  clear_value s2
  have h3 : Kept F b o s3 := forEach_kept h2 fun _ _ h => loadLoop_kept h (hF.of rfl)
  clear_value s3
  have h4 : Kept F b o s4 := mirrored_kept h3 hF
  clear_value s4
  exact loadHand_kept (loadMessages_kept (loadRec_kept (loadParams_kept (loadSafety_kept h4 (hF.of rfl)) (hF.of rfl))
    (hF.of rfl)) (hF.of rfl)) (hF.of rfl)

theorem commitVerified_kept (h : Kept F b o s) {a2} (hF : Fits 8180923936 F) :
    Kept F b o (commitVerified s a2) := by
  have h1 : Kept F b o (loadMirror s a2) := loadMirror_kept h (hF.of rfl)
  unfold commitVerified
  generalize loadMirror s a2 = s1 at h1 ⊢
  exact h1.upd hF rfl rfl

theorem commitBad_kept (h : Kept F b o s) (hF : Fits 4370481152 F) : Kept F b o (commitBad s) := by
  unfold commitBad
  repeat' first
    | exact hF.of rfl
    | with_reducible assumption
    | with_reducible apply leaveStep_kept
    | with_reducible apply kept_ite
    | (apply Kept.gen; dsimp -zeta only; on_goal 2 => (intro y e hy; rw [e]; exact hy.upd hF rfl rfl))

theorem execCommitReceived_kept (h : Kept F b o s) {a1 a2} (hF : Fits 8180923936 F) :
    KeptO F b o (execCommitReceived a1 a2 s) := by
  unfold execCommitReceived
  repeat' first
    | exact hF.of rfl
    | with_reducible assumption
    | with_reducible apply commitVerified_kept
    | with_reducible apply commitBad_kept
    | with_reducible apply kept_ite
    | with_reducible apply keptO_next

theorem execCommitMissing_kept (h : Kept F b o s) (hF : Fits 127504481642 F) : KeptO F b o (execCommitMissing s) := by
  unfold execCommitMissing
  repeat' first
    | exact hF.of rfl
    | with_reducible assumption
    | with_reducible apply drain_kept
    | with_reducible apply leaveStep_kept
    | with_reducible apply kept_ite
    | with_reducible apply keptO_next

theorem repaired_kept (h : Kept F b o s) {p : PairSt} {n : Nat} (hF : Fits 79691776 F) :
    Kept F b o { s with pair := p, log := { s.log with nextSeq := n, jumpNext := true } } := h.upd hF rfl rfl

theorem resynced_kept (h : Kept F b o s) {a2} (hF : Fits 79691776 F) : Kept F b o (resynced s a2) := by
  unfold resynced
  exact kept_ite (event_kept (repaired_kept h hF) (hF.of rfl)) (repaired_kept h hF)

theorem execResyncComplete_kept (h : Kept F b o s) {a1} (hF : Fits 79691776 F) :
    KeptO F b o (execResyncComplete a1 s) := by
  unfold execResyncComplete
  repeat' first
    | exact hF.of rfl
    | with_reducible assumption
    | with_reducible apply resynced_kept
    | with_reducible apply kept_ite
    | with_reducible apply keptO_next

/-! ### Memory -/

theorem State.modMem_kept (h : Kept F b o s) {a2} (hF : Fits 268435456 F) :
    Kept F b o (State.modMem s a2) :=
  h.upd hF rfl rfl

theorem stuckWord_kept (h : Kept F b o s) {a2} (hF : Fits 335544320 F) : Kept F b o (stuckWord s a2) := by
  unfold stuckWord
  repeat' first
    | exact hF.of rfl
    | with_reducible assumption
    | with_reducible apply State.modMem_kept
    | with_reducible apply record_kept
    | with_reducible apply kept_ite

theorem execBankCopyComplete_kept (h : Kept F b o s) {a1} (hF : Fits 268435456 F) :
    KeptO F b o (execBankCopyComplete a1 s) := by
  unfold execBankCopyComplete
  repeat' first
    | exact hF.of rfl
    | with_reducible assumption
    | with_reducible apply State.modMem_kept
    | with_reducible apply kept_ite
    | with_reducible apply keptO_next

theorem sparesAtEpoch_kept (h : Kept F b o s) (hF : Fits 335544320 F) : Kept F b o (sparesAtEpoch s) := by
  unfold sparesAtEpoch
  repeat' first
    | exact hF.of rfl
    | with_reducible assumption
    | with_reducible apply State.modMem_kept
    | with_reducible apply record_kept
    | (with_reducible apply forEach_kept; on_goal 2 => intros)

theorem reinsert_kept (h : Kept F b o s) {a2 a3} (hF : Fits 16384 F) : Kept F b o (reinsert s a2 a3) := by
  unfold reinsert
  repeat' first
    | exact hF.of rfl
    | with_reducible assumption
    | with_reducible apply State.modDcar_kept
    | (intro x; subst x)
    | lift_lets
    | split

theorem rebuildItin_kept (h : Kept F b o s) {a2} (hF : Fits 16384 F) : Kept F b o (rebuildItin s a2) := by
  unfold rebuildItin
  repeat' first
    | exact hF.of rfl
    | with_reducible assumption
    | with_reducible apply reinsert_kept
    | with_reducible apply State.modDcar_kept
    | (with_reducible apply forEach_kept; on_goal 2 => intros)

theorem loseData_kept (h : Kept F b o s) {r : Region} (hF : Fits 337134600 F) : Kept F b o (loseData s r) := by
  cases r with
  | itinerary c => exact rebuildItin_kept h (hF.of rfl)
  | calls ids =>
    have h1 : Kept F b o (forEach ids (fun s i => (unassign s i).dropCall i) s) :=
      forEach_kept h fun s i h => State.dropCall_kept (unassign_kept h (hF.of rfl)) (hF.of rfl)
    unfold loseData
    dsimp only
    exact kept_ite (enterLatches_kept (h1.upd hF rfl rfl) (hF.of rfl)) (h1.upd hF rfl rfl)
  | points word => exact forEach_kept h fun s n h => State.modPoint_kept h (hF.of rfl)
  | records seqs => exact shorter_kept h hF rfl rfl rfl rfl rfl rfl (List.length_filter_le _ _)
  | capture cells => exact h.upd hF rfl rfl
  | log seq => exact h.upd hF rfl rfl
  | copy k l =>
    cases k <;> cases l <;> first
      | exact h
      | exact h.upd hF rfl rfl
      | exact kept_ite h (h.upd hF rfl rfl)
  | _ => exact h

theorem standbyLoss_kept (h : Kept F b o s) {a2 a3} (hF : Fits 4640490504 F) : Kept F b o (standbyLoss s a2 a3) := by
  unfold standbyLoss
  repeat' first
    | exact hF.of rfl
    | with_reducible assumption
    | with_reducible apply leaveStep_kept
    | with_reducible apply loseData_kept
    | with_reducible apply record_kept
    | lift_lets
    | (apply Kept.gen; dsimp -zeta only; on_goal 2 => (intro y e hy; rw [e]; exact hy.upd hF rfl rfl))

theorem loseWord_kept (h : Kept F b o s) {a2 a3 a4} (hF : Fits 4791655498 F) : Kept F b o (loseWord s a2 a3 a4) := by
  unfold loseWord
  repeat' first
    | exact hF.of rfl
    | with_reducible assumption
    | with_reducible apply standbyLoss_kept
    | with_reducible apply tailDrop_kept
    | with_reducible apply record_kept
    | with_reducible apply raise_kept
    | with_reducible apply loseData_kept
    | with_reducible apply kept_ite

theorem memRead_kept (h : Kept F b o s) {a2 a3 a4 a5} (hF : Fits 4791655498 F) :
    Kept F b o (memRead s a2 a3 a4 a5) := by
  unfold memRead
  repeat' first
    | exact hF.of rfl
    | with_reducible assumption
    | with_reducible apply State.modMem_kept
    | with_reducible apply raise_kept
    | with_reducible apply stuckWord_kept
    | with_reducible apply loseWord_kept
    | split

theorem execScrubRead_kept (h : Kept F b o s) {a1 a2 a3 a4} (hF : Fits 127772917098 F) :
    KeptO F b o (execScrubRead a1 a2 a3 a4 s) := by
  unfold execScrubRead
  repeat' first
    | exact hF.of rfl
    | with_reducible assumption
    | with_reducible apply drain_kept
    | with_reducible apply memRead_kept
    | with_reducible apply kept_ite
    | with_reducible apply keptO_next

theorem execScrubPassComplete_kept (h : Kept F b o s) {a1} (hF : Fits 2483027968 F) :
    KeptO F b o (execScrubPassComplete a1 s) := by
  unfold execScrubPassComplete
  repeat' first
    | exact hF.of rfl
    | with_reducible assumption
    | with_reducible apply State.modMem_kept
    | with_reducible apply State.latch'_kept
    | with_reducible apply record_kept
    | with_reducible apply kept_ite
    | with_reducible apply keptO_next

/-! ### Events -/

theorem settleUp_kept (h : Kept F b o s) (hF : Fits 127504481642 F) : Kept F b o (settleUp s) := by
  unfold settleUp
  repeat' first
    | exact hF.of rfl
    | with_reducible assumption
    | with_reducible apply drain_kept
    | with_reducible apply swapDone_kept
    | with_reducible apply kept_ite

theorem execLoopSample_kept (h : Kept F b o s) {a1} (hF : Fits 127504481642 F) :
    KeptO F b o (execLoopSample a1 s) := by
  unfold execLoopSample
  repeat' first
    | exact hF.of rfl
    | with_reducible assumption
    | with_reducible apply settleUp_kept
    | with_reducible apply loopSample_kept
    | with_reducible apply kept_ite
    | with_reducible apply keptO_next

theorem afterHoist_kept (h : Kept F b o s) {a2 a3} (hF : Fits 2214612992 F) : Kept F b o (afterHoist s a2 a3) := by
  unfold afterHoist
  repeat' first
    | exact hF.of rfl
    | with_reducible assumption
    | with_reducible apply serveHere_kept
    | with_reducible apply doorsOpened_kept
    | with_reducible apply rescueArrived_kept
    | with_reducible apply kept_ite

theorem execHoistSample_kept (h : Kept F b o s) {a1} (hF : Fits 128578223978 F) :
    KeptO F b o (execHoistSample a1 s) := by
  unfold execHoistSample
  repeat' first
    | exact hF.of rfl
    | with_reducible assumption
    | with_reducible apply hoistSample_kept
    | with_reducible apply settleUp_kept
    | with_reducible apply afterHoist_kept
    | with_reducible apply kept_ite
    | with_reducible apply keptO_next

theorem execDoorSample_kept (h : Kept F b o s) {a1} (hF : Fits 127504481642 F) :
    KeptO F b o (execDoorSample a1 s) := by
  unfold execDoorSample
  repeat' first
    | exact hF.of rfl
    | with_reducible assumption
    | with_reducible apply doorSample_kept
    | with_reducible apply doorsOpened_kept
    | with_reducible apply settleUp_kept
    | with_reducible apply stopServed_kept
    | with_reducible apply kept_ite
    | with_reducible apply keptO_next

theorem execFlushComplete_kept (h : Kept F b o s) {a1} (hF : Fits 136365211647 F) :
    KeptO F b o (execFlushComplete a1 s) := by
  unfold execFlushComplete
  repeat' first
    | exact hF.of rfl
    | with_reducible assumption
    | with_reducible apply tryRelease_kept
    | with_reducible apply endFlush_kept
    | with_reducible apply clearLog_kept
    | with_reducible apply drain_kept
    | with_reducible apply answer_kept
    | with_reducible apply keptO_next
    | (intro x; subst x)
    | lift_lets
    | split

theorem execReleaseCheckEnd_kept (h : Kept F b o s) {a1} (hF : Fits 127504481642 F) :
    KeptO F b o (execReleaseCheckEnd a1 s) := by
  unfold execReleaseCheckEnd
  repeat' first
    | exact hF.of rfl
    | with_reducible assumption
    | with_reducible apply drain_kept
    | with_reducible apply releaseCheckEnd_kept
    | with_reducible apply keptO_next

theorem execCommitAckReceived_kept (h : Kept F b o s) {a1 a2} (hF : Fits 127504481642 F) :
    KeptO F b o (execCommitAckReceived a1 a2 s) := by
  unfold execCommitAckReceived
  repeat' first
    | exact hF.of rfl
    | with_reducible assumption
    | with_reducible apply drain_kept
    | with_reducible apply releaseUpTo_kept
    | with_reducible apply kept_ite
    | with_reducible apply keptO_next
    | (apply Kept.gen; dsimp -zeta only; on_goal 2 => (intro y e hy; rw [e]; exact hy.upd hF rfl rfl))

theorem boundaryDemands_kept (h : Kept F b o s) (hF : Fits 2048 F) : Kept F b o (boundaryDemands s) := by
  unfold boundaryDemands
  repeat' first
    | exact hF.of rfl
    | with_reducible assumption
    | with_reducible apply State.modHoist_kept
    | with_reducible apply checkReady_kept
    | (with_reducible apply forEach_kept; on_goal 2 => intros)
    | split

theorem staleReturn_kept (h : Kept F b o s) (hF : Fits 16384 F) : Kept F b o (staleReturn s) := by
  unfold staleReturn
  repeat' first
    | exact hF.of rfl
    | with_reducible assumption
    | with_reducible apply State.modDcar_kept
    | with_reducible apply kept_ite
    | (with_reducible apply forEach_kept; on_goal 2 => intros)

theorem sendCommit_kept (h : Kept F b o s) (hF : Fits 4370481152 F) : Kept F b o (sendCommit s) := by
  unfold sendCommit
  repeat' first
    | exact hF.of rfl
    | with_reducible assumption
    | with_reducible apply releaseUpTo_kept
    | with_reducible apply kept_ite
    | (apply Kept.gen; dsimp -zeta only; on_goal 2 => (intro y e hy; rw [e]; exact hy.upd hF rfl rfl))

theorem activeBoundary_kept (h : Kept F b o s) (hF : Fits 24387706698 F) : Kept F b o (activeBoundary s) := by
  unfold activeBoundary
  repeat' first
    | exact hF.of rfl
    | with_reducible assumption
    | with_reducible apply ratesAtEpoch_kept
    | with_reducible apply commitAtEpoch_kept
    | with_reducible apply swapBoundary_kept
    | with_reducible apply boundaryDemands_kept
    | with_reducible apply staleReturn_kept
    | with_reducible apply dispatchEpoch_kept
    | with_reducible apply pairBoundary_kept
    | with_reducible apply sendCommit_kept
    | with_reducible apply kept_ite

theorem shadowBoundary_kept (h : Kept F b o s) (hF : Fits 24387706698 F) : Kept F b o (shadowBoundary s) := by
  unfold shadowBoundary
  repeat' first
    | exact hF.of rfl
    | with_reducible assumption
    | with_reducible apply State.modLoop_kept
    | with_reducible apply pairBoundary_kept
    | (with_reducible apply forEach_kept; on_goal 2 => intros)
    | (apply Kept.gen; dsimp -zeta only; on_goal 2 => (intro y e hy; rw [e]; exact hy.upd hF rfl rfl))

theorem dropHeld_kept (h : Kept F b o s) (hF : Fits 6442451968 F) : Kept F b o (dropHeld s) := by
  unfold dropHeld
  repeat' first
    | exact hF.of rfl
    | with_reducible assumption
    | with_reducible apply failHeld_kept
    | with_reducible apply kept_ite

theorem imagesBoundary_kept (h : Kept F b o s) (hF : Fits 21550350336 F) : Kept F b o (imagesBoundary s) := by
  unfold imagesBoundary
  repeat' first
    | exact hF.of rfl
    | with_reducible assumption
    | with_reducible apply imagesAtEpoch_kept
    | with_reducible apply leaveStep_kept
    | with_reducible apply kept_ite
    | lift_lets
    | (apply Kept.gen; dsimp -zeta only; on_goal 2 => (intro y e hy; rw [e]; exact hy.upd hF rfl rfl))

theorem epochBoundary_kept (h : Kept F b o s) (hF : Fits 24656142154 F) : Kept F b o (epochBoundary s) := by
  unfold epochBoundary
  repeat' first
    | exact hF.of rfl
    | with_reducible assumption
    | with_reducible apply modeNotice_kept
    | with_reducible apply endReactions_kept
    | with_reducible apply sparesAtEpoch_kept
    | with_reducible apply imagesBoundary_kept
    | with_reducible apply activeBoundary_kept
    | with_reducible apply dropHeld_kept
    | with_reducible apply shadowBoundary_kept
    | with_reducible apply kept_ite

theorem execEpochBoundary_kept (h : Kept F b o s) (hF : Fits 127773179754 F) : KeptO F b o (execEpochBoundary s) := by
  unfold execEpochBoundary
  repeat' first
    | exact hF.of rfl
    | with_reducible assumption
    | with_reducible apply settleUp_kept
    | with_reducible apply epochBoundary_kept
    | with_reducible apply kept_ite
    | with_reducible apply keptO_next

end Sys2Proof.Machine
end

