-- ==== Sys2Proof/Laws/Requests.lean ====
section
/-! SUPPORT. Host requests: one that has its turn at once is executed, one that passes the checks is answered by its
own effect, and what an answer leaves unchanged. -/

namespace Sys2Proof.Machine

variable {s : State} {h : Hdr}

theorem modChan_host {c : Chan} {f : HostChan → HostChan} : s.modChan c f = { s with host := (s.modChan c f).host } := by
  cases c <;> rfl

theorem takenOn_host : takenOn s h = { s with host := (takenOn s h).host } := modChan_host

@[simp] theorem takenOn_mode : (takenOn s h).mode = s.mode := by rw [takenOn_host]
@[simp] theorem takenOn_passive : (takenOn s h).passive = s.passive := by rw [takenOn_host]; rfl
@[simp] theorem modeCheck_takenOn {op : Nat} {r : Bool} : modeCheck (takenOn s h) op r = modeCheck s op r := by
  simp only [modeCheck, takenOn_passive, takenOn_mode]

/-- R374: a request that has its turn at once is executed. -/
theorem hostRow_taken {i : Instr} {op len : Nat} {run : State → State} (ht : turnAtOnce s h) :
    hostRow s i h op len run = .next (run (takenOn s h)) := by
  obtain ⟨h1, h2, h3, h4, h5, h6⟩ := ht
  have hc : (s.chan h.chan).waiting.contains (h.seq, h.crc) = false := by
    rw [List.any_eq_false] at h3
    rw [← Bool.not_eq_true, List.contains_iff_mem]
    exact fun hm => h3 _ hm (by simp)
  have hs : (if replayMode s.mode then s.host.replay.find? (fun e => e.1 == h.seq && e.2.1 == h.crc) else none) = none := by
    split
    · rename_i hr
      have := h6 hr
      rw [List.any_eq_false] at this
      exact List.find?_eq_none.2 this
    · rfl
  have hs : startReq (takenOn s h) h op run = run (takenOn s h) := by
    have e : (takenOn s h).host.replay = s.host.replay := by unfold takenOn; cases h.chan <;> rfl
    simp only [startReq, takenOn_mode, e, hs]
  rw [takenOn] at hs
  simp only [hostRow, complete, h1, hc, h3, h4, h5, hs, Bool.not_true, Bool.false_eq_true, if_false, List.isEmpty_nil,
    Bool.or_self, takenOn]
  rw [if_neg (by omega)]

/-- Checks 2 to 9 of R376 pass. -/
theorem gate_none {r : Req} {len : Nat} (hp : passes s h r.op r.insts len r.isRead) (hl : h.len = len → r.lenOk = true)
    (hc : firstFail r.checks = none) : gate s h r = none := by
  obtain ⟨h1, h2, h3, h4, h5⟩ := hp
  have hi : (r.insts == 1 && h.inst != 0) = false := by
    by_cases hx : r.insts = 1
    · simp [h4 hx]
    · simp [hx]
  have hd : decide (r.insts ≤ h.inst.toNat) = false := by simpa using h5
  simp only [gate, h1, h2, hl h3, hi, hd, firstFail, hc, bne_self_eq_false, Bool.false_eq_true, if_false, Bool.not_true,
    List.cons_append, List.nil_append, Option.map_none]

/-- A request that passes its checks is answered by its own effect. -/
theorem serve_none {r : Req} {act : State → State × Bytes} (hg : gate s h r = none) :
    serve s h r act = answer (act s).1 h r.op r.mirrored (act s).2 := by
  simp only [serve, hg]

/-- An answer changes the host unit alone. -/
theorem sendReply_host {r : HeldReply} : sendReply s r = { s with host := (sendReply s r).host } := by
  unfold sendReply; exact modChan_host

theorem queueReply_host {op : Nat} {p : Bytes} :
    queueReply s h op p = { s with host := (queueReply s h op p).host } := by
  unfold queueReply
  extract_lets s1 r
  have h1 : s1 = { s with host := s1.host } := sendReply_host
  clear_value s1
  split
  · rw [h1]
  · exact h1

theorem answer_host {op : Nat} {m : Bool} {p : Bytes} :
    answer s h op m p = { s with host := (answer s h op m p).host } := by
  unfold answer
  split
  · rfl
  · exact queueReply_host

theorem modChan_out {c : Chan} {f : HostChan → HostChan} : (s.modChan c f).chan c = f (s.chan c) := by cases c <;> rfl

/-- An answer that is not held stands last in its channel. -/
theorem queueReply_replied {op : Nat} {p : Bytes} : replied (queueReply s h op p) h op p := by
  have h1 : ∀ r : HeldReply, r.hdr = h → r.opcode = op → r.payload = p →
      ((sendReply s r).chan h.chan).out.getLast? = some (replyPkt h op p) := by
    intro r e1 e2 e3
    subst e1 e2 e3
    simp only [sendReply, modChan_out, List.getLast?_append, List.getLast?_singleton, Option.some_or]
    rfl
  unfold queueReply replied
  extract_lets s1 r
  have h2 : (s1.chan h.chan).out.getLast? = some (replyPkt h op p) := h1 _ rfl rfl rfl
  clear_value s1
  split
  · cases hc : h.chan <;> rw [hc] at h2 <;> exact h2
  · exact h2

theorem answer_replied {op : Nat} {p : Bytes} : replied (answer s h op false p) h op p := queueReply_replied

/-- A read request: it changes the host unit alone and its reply stands last. -/
theorem read_done {i : Instr} {r : Req} {op insts len len' : Nat} {isRead : Bool} {p : State → Bytes}
    (he : exec i s = hostRow s i h op len' (fun s => serve s h r (fun s => (s, p s)))) (ho : r.op = op)
    (hi : r.insts = insts) (hr : r.isRead = isRead) (hm : r.mirrored = false)
    (hl : h.len = len → r.lenOk = true) (hc : firstFail r.checks = none) (ht : hasTurn s h op insts len isRead) :
    readsBack i h op p s := by
  subst ho hi hr
  obtain ⟨ht, h1, h2, h3⟩ := ht
  have hg : gate (takenOn s h) h r = none := gate_none (len := len) ⟨h1, by simpa using h2, h3⟩ hl hc
  refine ⟨_, he.trans (hostRow_taken ht), ?_, ?_⟩
  · rw [serve_none hg, answer_host, takenOn_host]
    rfl
  · rw [serve_none hg, hm]
    exact answer_replied

/-- A request with an effect that passes its checks is answered by that effect. -/
theorem served_done {i : Instr} {r : Req} {op insts len len' : Nat} {isRead m : Bool} {e : State → State × Bytes}
    (he : exec i s = hostRow s i h op len' (fun s => serve s h r e)) (ho : r.op = op)
    (hi : r.insts = insts) (hr : r.isRead = isRead) (hm : r.mirrored = m)
    (hl : h.len = len → r.lenOk = true) (hc : firstFail r.checks = none) (ht : hasTurn s h op insts len isRead) :
    servedBy i h op m e s := by
  subst ho hi hr hm
  obtain ⟨ht, h1, h2, h3⟩ := ht
  have hg : gate (takenOn s h) h r = none := gate_none (len := len) ⟨h1, by simpa using h2, h3⟩ hl hc
  exact (he.trans (hostRow_taken ht)).trans (by rw [serve_none hg])

/-- The same, where the effect of the accepted request is given as `e`. -/
theorem served_as {i : Instr} {r : Req} {op insts len len' : Nat} {isRead m : Bool} {a e : State → State × Bytes}
    (he : exec i s = hostRow s i h op len' (fun s => serve s h r a)) (ho : r.op = op)
    (hi : r.insts = insts) (hr : r.isRead = isRead) (hm : r.mirrored = m)
    (hl : h.len = len → r.lenOk = true) (hc : firstFail r.checks = none)
    (hx : a (takenOn s h) = e (takenOn s h)) (ht : hasTurn s h op insts len isRead) : servedBy i h op m e s := by
  have := served_done he ho hi hr hm hl hc ht
  unfold servedBy at *
  rw [this, hx]

/-- A request in a state in which its checks pass. -/
theorem gate_hasTurn {op insts len : Nat} {isRead : Bool} (ht : hasTurn s h op insts len isRead) {r : Req} (ho : r.op = op)
    (hi : r.insts = insts) (hr : r.isRead = isRead) (hl : h.len = len → r.lenOk = true)
    (hc : firstFail r.checks = none) : gate (takenOn s h) h r = none := by
  subst ho hi hr
  obtain ⟨-, h1, h2, h3⟩ := ht
  exact gate_none (len := len) ⟨h1, by simpa using h2, h3⟩ hl hc

/-- A request row's meaning: its packet is complete. -/
theorem exec_host {i : Instr} {r : HostReq} (e : hostOf i = some r) (hw : Instr.wellFormed i = true)
    (hu : ∀ k o, i ≠ .unknownOpcodePacket k o) : exec i s = hostRow s i r.hdr r.op r.len r.act := by
  cases i
  all_goals try cases e
  case unknownOpcodePacket h op => exact absurd rfl (hu h op)
  all_goals first
    | rfl
    | exact if_pos hw

end Sys2Proof.Machine
end

