-- ==== Sys2Proof/Laws/State.lean ====
section
/-! SUPPORT. What an update of one entry of a table of the state leaves as it is, field by field, and what the entry
reads afterwards. -/

namespace Sys2Proof.Machine
variable {s : State}

/-! ### EncChan -/

section
variable {n : Nat} {f : EncChan → EncChan}
theorem modEnc_self (h : tblWf (dft {}) s.fb.chans = true) : (s.modEnc n f).enc n = f (s.enc n) := tget_tmod_self h
theorem modEnc_ne {j : Nat} (h : j ≠ n) : (s.modEnc n f).enc j = s.enc j := tget_tmod_ne h
theorem modEnc_wf (h : tblWf (dft {}) s.fb.chans = true) : tblWf (dft {}) (s.modEnc n f).fb.chans = true := tmod_wf h
@[simp] theorem modEnc_power : (s.modEnc n f).power = s.power := rfl
@[simp] theorem modEnc_mode : (s.modEnc n f).mode = s.mode := rfl
@[simp] theorem modEnc_pins : (s.modEnc n f).pins = s.pins := rfl
@[simp] theorem modEnc_latch : (s.modEnc n f).latch = s.latch := rfl
@[simp] theorem modEnc_frame : (s.modEnc n f).frame = s.frame := rfl
@[simp] theorem modEnc_opTime : (s.modEnc n f).opTime = s.opTime := rfl
@[simp] theorem modEnc_transition : (s.modEnc n f).transition = s.transition := rfl
@[simp] theorem modEnc_slack : (s.modEnc n f).slack = s.slack := rfl
@[simp] theorem modEnc_loops : (s.modEnc n f).loops = s.loops := rfl
@[simp] theorem modEnc_motion : (s.modEnc n f).motion = s.motion := rfl
@[simp] theorem modEnc_disp : (s.modEnc n f).disp = s.disp := rfl
@[simp] theorem modEnc_saf : (s.modEnc n f).saf = s.saf := rfl
@[simp] theorem modEnc_links : (s.modEnc n f).links = s.links := rfl
@[simp] theorem modEnc_pair : (s.modEnc n f).pair = s.pair := rfl
@[simp] theorem modEnc_proving : (s.modEnc n f).proving = s.proving := rfl
@[simp] theorem modEnc_log : (s.modEnc n f).log = s.log := rfl
@[simp] theorem modEnc_fm : (s.modEnc n f).fm = s.fm := rfl
@[simp] theorem modEnc_mem : (s.modEnc n f).mem = s.mem := rfl
@[simp] theorem modEnc_params : (s.modEnc n f).params = s.params := rfl
@[simp] theorem modEnc_host : (s.modEnc n f).host = s.host := rfl
@[simp] theorem modEnc_img : (s.modEnc n f).img = s.img := rfl
@[simp] theorem modEnc_free : (s.modEnc n f).free = s.free := rfl
@[simp] theorem modEnc_pending : (s.modEnc n f).pending = s.pending := rfl
@[simp] theorem modEnc_fb_ssi : (s.modEnc n f).fb.ssi = s.fb.ssi := rfl
@[simp] theorem modEnc_fb_cars : (s.modEnc n f).fb.cars = s.fb.cars := rfl
end

/-! ### SsiPort -/

section
variable {n : Nat} {f : SsiPort → SsiPort}
theorem modSsi_self (h : tblWf (dft {}) s.fb.ssi = true) : (s.modSsi n f).ssi n = f (s.ssi n) := tget_tmod_self h
theorem modSsi_ne {j : Nat} (h : j ≠ n) : (s.modSsi n f).ssi j = s.ssi j := tget_tmod_ne h
theorem modSsi_wf (h : tblWf (dft {}) s.fb.ssi = true) : tblWf (dft {}) (s.modSsi n f).fb.ssi = true := tmod_wf h
@[simp] theorem modSsi_power : (s.modSsi n f).power = s.power := rfl
@[simp] theorem modSsi_mode : (s.modSsi n f).mode = s.mode := rfl
@[simp] theorem modSsi_pins : (s.modSsi n f).pins = s.pins := rfl
@[simp] theorem modSsi_latch : (s.modSsi n f).latch = s.latch := rfl
@[simp] theorem modSsi_frame : (s.modSsi n f).frame = s.frame := rfl
@[simp] theorem modSsi_opTime : (s.modSsi n f).opTime = s.opTime := rfl
@[simp] theorem modSsi_transition : (s.modSsi n f).transition = s.transition := rfl
@[simp] theorem modSsi_slack : (s.modSsi n f).slack = s.slack := rfl
@[simp] theorem modSsi_loops : (s.modSsi n f).loops = s.loops := rfl
@[simp] theorem modSsi_motion : (s.modSsi n f).motion = s.motion := rfl
@[simp] theorem modSsi_disp : (s.modSsi n f).disp = s.disp := rfl
@[simp] theorem modSsi_saf : (s.modSsi n f).saf = s.saf := rfl
@[simp] theorem modSsi_links : (s.modSsi n f).links = s.links := rfl
@[simp] theorem modSsi_pair : (s.modSsi n f).pair = s.pair := rfl
@[simp] theorem modSsi_proving : (s.modSsi n f).proving = s.proving := rfl
@[simp] theorem modSsi_log : (s.modSsi n f).log = s.log := rfl
@[simp] theorem modSsi_fm : (s.modSsi n f).fm = s.fm := rfl
@[simp] theorem modSsi_mem : (s.modSsi n f).mem = s.mem := rfl
@[simp] theorem modSsi_params : (s.modSsi n f).params = s.params := rfl
@[simp] theorem modSsi_host : (s.modSsi n f).host = s.host := rfl
@[simp] theorem modSsi_img : (s.modSsi n f).img = s.img := rfl
@[simp] theorem modSsi_free : (s.modSsi n f).free = s.free := rfl
@[simp] theorem modSsi_pending : (s.modSsi n f).pending = s.pending := rfl
@[simp] theorem modSsi_fb_chans : (s.modSsi n f).fb.chans = s.fb.chans := rfl
@[simp] theorem modSsi_fb_cars : (s.modSsi n f).fb.cars = s.fb.cars := rfl
end

/-! ### CarFb -/

section
variable {c : Nat} {f : CarFb → CarFb}
theorem modCarFb_self (h : tblWf (dft {}) s.fb.cars = true) : (s.modCarFb c f).carFb c = f (s.carFb c) := tget_tmod_self h
theorem modCarFb_ne {j : Nat} (h : j ≠ c) : (s.modCarFb c f).carFb j = s.carFb j := tget_tmod_ne h
theorem modCarFb_wf (h : tblWf (dft {}) s.fb.cars = true) : tblWf (dft {}) (s.modCarFb c f).fb.cars = true := tmod_wf h
@[simp] theorem modCarFb_power : (s.modCarFb c f).power = s.power := rfl
@[simp] theorem modCarFb_mode : (s.modCarFb c f).mode = s.mode := rfl
@[simp] theorem modCarFb_pins : (s.modCarFb c f).pins = s.pins := rfl
@[simp] theorem modCarFb_latch : (s.modCarFb c f).latch = s.latch := rfl
@[simp] theorem modCarFb_frame : (s.modCarFb c f).frame = s.frame := rfl
@[simp] theorem modCarFb_opTime : (s.modCarFb c f).opTime = s.opTime := rfl
@[simp] theorem modCarFb_transition : (s.modCarFb c f).transition = s.transition := rfl
@[simp] theorem modCarFb_slack : (s.modCarFb c f).slack = s.slack := rfl
@[simp] theorem modCarFb_loops : (s.modCarFb c f).loops = s.loops := rfl
@[simp] theorem modCarFb_motion : (s.modCarFb c f).motion = s.motion := rfl
@[simp] theorem modCarFb_disp : (s.modCarFb c f).disp = s.disp := rfl
@[simp] theorem modCarFb_saf : (s.modCarFb c f).saf = s.saf := rfl
@[simp] theorem modCarFb_links : (s.modCarFb c f).links = s.links := rfl
@[simp] theorem modCarFb_pair : (s.modCarFb c f).pair = s.pair := rfl
@[simp] theorem modCarFb_proving : (s.modCarFb c f).proving = s.proving := rfl
@[simp] theorem modCarFb_log : (s.modCarFb c f).log = s.log := rfl
@[simp] theorem modCarFb_fm : (s.modCarFb c f).fm = s.fm := rfl
@[simp] theorem modCarFb_mem : (s.modCarFb c f).mem = s.mem := rfl
@[simp] theorem modCarFb_params : (s.modCarFb c f).params = s.params := rfl
@[simp] theorem modCarFb_host : (s.modCarFb c f).host = s.host := rfl
@[simp] theorem modCarFb_img : (s.modCarFb c f).img = s.img := rfl
@[simp] theorem modCarFb_free : (s.modCarFb c f).free = s.free := rfl
@[simp] theorem modCarFb_pending : (s.modCarFb c f).pending = s.pending := rfl
@[simp] theorem modCarFb_fb_chans : (s.modCarFb c f).fb.chans = s.fb.chans := rfl
@[simp] theorem modCarFb_fb_ssi : (s.modCarFb c f).fb.ssi = s.fb.ssi := rfl
end

/-! ### Loop -/

section
variable {l : Nat} {f : Loop → Loop}
theorem modLoop_self (h : tblWf (dft {}) s.loops.loops = true) : (s.modLoop l f).loop l = f (s.loop l) := tget_tmod_self h
theorem modLoop_ne {j : Nat} (h : j ≠ l) : (s.modLoop l f).loop j = s.loop j := tget_tmod_ne h
theorem modLoop_wf (h : tblWf (dft {}) s.loops.loops = true) : tblWf (dft {}) (s.modLoop l f).loops.loops = true := tmod_wf h
@[simp] theorem modLoop_power : (s.modLoop l f).power = s.power := rfl
@[simp] theorem modLoop_mode : (s.modLoop l f).mode = s.mode := rfl
@[simp] theorem modLoop_pins : (s.modLoop l f).pins = s.pins := rfl
@[simp] theorem modLoop_latch : (s.modLoop l f).latch = s.latch := rfl
@[simp] theorem modLoop_frame : (s.modLoop l f).frame = s.frame := rfl
@[simp] theorem modLoop_opTime : (s.modLoop l f).opTime = s.opTime := rfl
@[simp] theorem modLoop_transition : (s.modLoop l f).transition = s.transition := rfl
@[simp] theorem modLoop_slack : (s.modLoop l f).slack = s.slack := rfl
@[simp] theorem modLoop_fb : (s.modLoop l f).fb = s.fb := rfl
@[simp] theorem modLoop_motion : (s.modLoop l f).motion = s.motion := rfl
@[simp] theorem modLoop_disp : (s.modLoop l f).disp = s.disp := rfl
@[simp] theorem modLoop_saf : (s.modLoop l f).saf = s.saf := rfl
@[simp] theorem modLoop_links : (s.modLoop l f).links = s.links := rfl
@[simp] theorem modLoop_pair : (s.modLoop l f).pair = s.pair := rfl
@[simp] theorem modLoop_proving : (s.modLoop l f).proving = s.proving := rfl
@[simp] theorem modLoop_log : (s.modLoop l f).log = s.log := rfl
@[simp] theorem modLoop_fm : (s.modLoop l f).fm = s.fm := rfl
@[simp] theorem modLoop_mem : (s.modLoop l f).mem = s.mem := rfl
@[simp] theorem modLoop_params : (s.modLoop l f).params = s.params := rfl
@[simp] theorem modLoop_host : (s.modLoop l f).host = s.host := rfl
@[simp] theorem modLoop_img : (s.modLoop l f).img = s.img := rfl
@[simp] theorem modLoop_free : (s.modLoop l f).free = s.free := rfl
@[simp] theorem modLoop_pending : (s.modLoop l f).pending = s.pending := rfl
@[simp] theorem modLoop_loops_inj : (s.modLoop l f).loops.inj = s.loops.inj := rfl
@[simp] theorem modLoop_loops_cap : (s.modLoop l f).loops.cap = s.loops.cap := rfl
@[simp] theorem modLoop_loops_plaus : (s.modLoop l f).loops.plaus = s.loops.plaus := rfl
@[simp] theorem modLoop_loops_swap : (s.modLoop l f).loops.swap = s.loops.swap := rfl
end

/-! ### InjSlot -/

section
variable {n : Nat} {f : InjSlot → InjSlot}
theorem modInj_self (h : tblWf (dft {}) s.loops.inj = true) : (s.modInj n f).inj n = f (s.inj n) := tget_tmod_self h
theorem modInj_ne {j : Nat} (h : j ≠ n) : (s.modInj n f).inj j = s.inj j := tget_tmod_ne h
theorem modInj_wf (h : tblWf (dft {}) s.loops.inj = true) : tblWf (dft {}) (s.modInj n f).loops.inj = true := tmod_wf h
@[simp] theorem modInj_power : (s.modInj n f).power = s.power := rfl
@[simp] theorem modInj_mode : (s.modInj n f).mode = s.mode := rfl
@[simp] theorem modInj_pins : (s.modInj n f).pins = s.pins := rfl
@[simp] theorem modInj_latch : (s.modInj n f).latch = s.latch := rfl
@[simp] theorem modInj_frame : (s.modInj n f).frame = s.frame := rfl
@[simp] theorem modInj_opTime : (s.modInj n f).opTime = s.opTime := rfl
@[simp] theorem modInj_transition : (s.modInj n f).transition = s.transition := rfl
@[simp] theorem modInj_slack : (s.modInj n f).slack = s.slack := rfl
@[simp] theorem modInj_fb : (s.modInj n f).fb = s.fb := rfl
@[simp] theorem modInj_motion : (s.modInj n f).motion = s.motion := rfl
@[simp] theorem modInj_disp : (s.modInj n f).disp = s.disp := rfl
@[simp] theorem modInj_saf : (s.modInj n f).saf = s.saf := rfl
@[simp] theorem modInj_links : (s.modInj n f).links = s.links := rfl
@[simp] theorem modInj_pair : (s.modInj n f).pair = s.pair := rfl
@[simp] theorem modInj_proving : (s.modInj n f).proving = s.proving := rfl
@[simp] theorem modInj_log : (s.modInj n f).log = s.log := rfl
@[simp] theorem modInj_fm : (s.modInj n f).fm = s.fm := rfl
@[simp] theorem modInj_mem : (s.modInj n f).mem = s.mem := rfl
@[simp] theorem modInj_params : (s.modInj n f).params = s.params := rfl
@[simp] theorem modInj_host : (s.modInj n f).host = s.host := rfl
@[simp] theorem modInj_img : (s.modInj n f).img = s.img := rfl
@[simp] theorem modInj_free : (s.modInj n f).free = s.free := rfl
@[simp] theorem modInj_pending : (s.modInj n f).pending = s.pending := rfl
@[simp] theorem modInj_loops_loops : (s.modInj n f).loops.loops = s.loops.loops := rfl
@[simp] theorem modInj_loops_cap : (s.modInj n f).loops.cap = s.loops.cap := rfl
@[simp] theorem modInj_loops_plaus : (s.modInj n f).loops.plaus = s.loops.plaus := rfl
@[simp] theorem modInj_loops_swap : (s.modInj n f).loops.swap = s.loops.swap := rfl
end

/-! ### Plaus -/

section
variable {c : Nat} {f : Plaus → Plaus}
theorem modPlaus_self (h : tblWf (dft {}) s.loops.plaus = true) : (s.modPlaus c f).plaus c = f (s.plaus c) := tget_tmod_self h
theorem modPlaus_ne {j : Nat} (h : j ≠ c) : (s.modPlaus c f).plaus j = s.plaus j := tget_tmod_ne h
theorem modPlaus_wf (h : tblWf (dft {}) s.loops.plaus = true) : tblWf (dft {}) (s.modPlaus c f).loops.plaus = true := tmod_wf h
@[simp] theorem modPlaus_power : (s.modPlaus c f).power = s.power := rfl
@[simp] theorem modPlaus_mode : (s.modPlaus c f).mode = s.mode := rfl
@[simp] theorem modPlaus_pins : (s.modPlaus c f).pins = s.pins := rfl
@[simp] theorem modPlaus_latch : (s.modPlaus c f).latch = s.latch := rfl
@[simp] theorem modPlaus_frame : (s.modPlaus c f).frame = s.frame := rfl
@[simp] theorem modPlaus_opTime : (s.modPlaus c f).opTime = s.opTime := rfl
@[simp] theorem modPlaus_transition : (s.modPlaus c f).transition = s.transition := rfl
@[simp] theorem modPlaus_slack : (s.modPlaus c f).slack = s.slack := rfl
@[simp] theorem modPlaus_fb : (s.modPlaus c f).fb = s.fb := rfl
@[simp] theorem modPlaus_motion : (s.modPlaus c f).motion = s.motion := rfl
@[simp] theorem modPlaus_disp : (s.modPlaus c f).disp = s.disp := rfl
@[simp] theorem modPlaus_saf : (s.modPlaus c f).saf = s.saf := rfl
@[simp] theorem modPlaus_links : (s.modPlaus c f).links = s.links := rfl
@[simp] theorem modPlaus_pair : (s.modPlaus c f).pair = s.pair := rfl
@[simp] theorem modPlaus_proving : (s.modPlaus c f).proving = s.proving := rfl
@[simp] theorem modPlaus_log : (s.modPlaus c f).log = s.log := rfl
@[simp] theorem modPlaus_fm : (s.modPlaus c f).fm = s.fm := rfl
@[simp] theorem modPlaus_mem : (s.modPlaus c f).mem = s.mem := rfl
@[simp] theorem modPlaus_params : (s.modPlaus c f).params = s.params := rfl
@[simp] theorem modPlaus_host : (s.modPlaus c f).host = s.host := rfl
@[simp] theorem modPlaus_img : (s.modPlaus c f).img = s.img := rfl
@[simp] theorem modPlaus_free : (s.modPlaus c f).free = s.free := rfl
@[simp] theorem modPlaus_pending : (s.modPlaus c f).pending = s.pending := rfl
@[simp] theorem modPlaus_loops_loops : (s.modPlaus c f).loops.loops = s.loops.loops := rfl
@[simp] theorem modPlaus_loops_inj : (s.modPlaus c f).loops.inj = s.loops.inj := rfl
@[simp] theorem modPlaus_loops_cap : (s.modPlaus c f).loops.cap = s.loops.cap := rfl
@[simp] theorem modPlaus_loops_swap : (s.modPlaus c f).loops.swap = s.loops.swap := rfl
end

/-! ### Hoist -/

section
variable {c : Nat} {f : Hoist → Hoist}
theorem modHoist_self (h : tblWf (dft {}) s.motion.hoist = true) : (s.modHoist c f).hoist c = f (s.hoist c) := tget_tmod_self h
theorem modHoist_ne {j : Nat} (h : j ≠ c) : (s.modHoist c f).hoist j = s.hoist j := tget_tmod_ne h
theorem modHoist_wf (h : tblWf (dft {}) s.motion.hoist = true) : tblWf (dft {}) (s.modHoist c f).motion.hoist = true := tmod_wf h
@[simp] theorem modHoist_power : (s.modHoist c f).power = s.power := rfl
@[simp] theorem modHoist_mode : (s.modHoist c f).mode = s.mode := rfl
@[simp] theorem modHoist_pins : (s.modHoist c f).pins = s.pins := rfl
@[simp] theorem modHoist_latch : (s.modHoist c f).latch = s.latch := rfl
@[simp] theorem modHoist_frame : (s.modHoist c f).frame = s.frame := rfl
@[simp] theorem modHoist_opTime : (s.modHoist c f).opTime = s.opTime := rfl
@[simp] theorem modHoist_transition : (s.modHoist c f).transition = s.transition := rfl
@[simp] theorem modHoist_slack : (s.modHoist c f).slack = s.slack := rfl
@[simp] theorem modHoist_fb : (s.modHoist c f).fb = s.fb := rfl
@[simp] theorem modHoist_loops : (s.modHoist c f).loops = s.loops := rfl
@[simp] theorem modHoist_disp : (s.modHoist c f).disp = s.disp := rfl
@[simp] theorem modHoist_saf : (s.modHoist c f).saf = s.saf := rfl
@[simp] theorem modHoist_links : (s.modHoist c f).links = s.links := rfl
@[simp] theorem modHoist_pair : (s.modHoist c f).pair = s.pair := rfl
@[simp] theorem modHoist_proving : (s.modHoist c f).proving = s.proving := rfl
@[simp] theorem modHoist_log : (s.modHoist c f).log = s.log := rfl
@[simp] theorem modHoist_fm : (s.modHoist c f).fm = s.fm := rfl
@[simp] theorem modHoist_mem : (s.modHoist c f).mem = s.mem := rfl
@[simp] theorem modHoist_params : (s.modHoist c f).params = s.params := rfl
@[simp] theorem modHoist_host : (s.modHoist c f).host = s.host := rfl
@[simp] theorem modHoist_img : (s.modHoist c f).img = s.img := rfl
@[simp] theorem modHoist_free : (s.modHoist c f).free = s.free := rfl
@[simp] theorem modHoist_pending : (s.modHoist c f).pending = s.pending := rfl
@[simp] theorem modHoist_motion_doors : (s.modHoist c f).motion.doors = s.motion.doors := rfl
@[simp] theorem modHoist_motion_slots : (s.modHoist c f).motion.slots = s.motion.slots := rfl
end

/-! ### Door -/

section
variable {d : Nat} {f : Door → Door}
theorem modDoor_self (h : tblWf (dft {}) s.motion.doors = true) : (s.modDoor d f).door d = f (s.door d) := tget_tmod_self h
theorem modDoor_ne {j : Nat} (h : j ≠ d) : (s.modDoor d f).door j = s.door j := tget_tmod_ne h
theorem modDoor_wf (h : tblWf (dft {}) s.motion.doors = true) : tblWf (dft {}) (s.modDoor d f).motion.doors = true := tmod_wf h
@[simp] theorem modDoor_power : (s.modDoor d f).power = s.power := rfl
@[simp] theorem modDoor_mode : (s.modDoor d f).mode = s.mode := rfl
@[simp] theorem modDoor_pins : (s.modDoor d f).pins = s.pins := rfl
@[simp] theorem modDoor_latch : (s.modDoor d f).latch = s.latch := rfl
@[simp] theorem modDoor_frame : (s.modDoor d f).frame = s.frame := rfl
@[simp] theorem modDoor_opTime : (s.modDoor d f).opTime = s.opTime := rfl
@[simp] theorem modDoor_transition : (s.modDoor d f).transition = s.transition := rfl
@[simp] theorem modDoor_slack : (s.modDoor d f).slack = s.slack := rfl
@[simp] theorem modDoor_fb : (s.modDoor d f).fb = s.fb := rfl
@[simp] theorem modDoor_loops : (s.modDoor d f).loops = s.loops := rfl
@[simp] theorem modDoor_disp : (s.modDoor d f).disp = s.disp := rfl
@[simp] theorem modDoor_saf : (s.modDoor d f).saf = s.saf := rfl
@[simp] theorem modDoor_links : (s.modDoor d f).links = s.links := rfl
@[simp] theorem modDoor_pair : (s.modDoor d f).pair = s.pair := rfl
@[simp] theorem modDoor_proving : (s.modDoor d f).proving = s.proving := rfl
@[simp] theorem modDoor_log : (s.modDoor d f).log = s.log := rfl
@[simp] theorem modDoor_fm : (s.modDoor d f).fm = s.fm := rfl
@[simp] theorem modDoor_mem : (s.modDoor d f).mem = s.mem := rfl
@[simp] theorem modDoor_params : (s.modDoor d f).params = s.params := rfl
@[simp] theorem modDoor_host : (s.modDoor d f).host = s.host := rfl
@[simp] theorem modDoor_img : (s.modDoor d f).img = s.img := rfl
@[simp] theorem modDoor_free : (s.modDoor d f).free = s.free := rfl
@[simp] theorem modDoor_pending : (s.modDoor d f).pending = s.pending := rfl
@[simp] theorem modDoor_motion_hoist : (s.modDoor d f).motion.hoist = s.motion.hoist := rfl
@[simp] theorem modDoor_motion_slots : (s.modDoor d f).motion.slots = s.motion.slots := rfl
end

/-! ### DoorSlot -/

section
variable {n : Nat} {f : DoorSlot → DoorSlot}
theorem modDoorSlot_self (h : tblWf (dft {}) s.motion.slots = true) : (s.modDoorSlot n f).doorSlot n = f (s.doorSlot n) := tget_tmod_self h
theorem modDoorSlot_ne {j : Nat} (h : j ≠ n) : (s.modDoorSlot n f).doorSlot j = s.doorSlot j := tget_tmod_ne h
theorem modDoorSlot_wf (h : tblWf (dft {}) s.motion.slots = true) : tblWf (dft {}) (s.modDoorSlot n f).motion.slots = true := tmod_wf h
@[simp] theorem modDoorSlot_power : (s.modDoorSlot n f).power = s.power := rfl
@[simp] theorem modDoorSlot_mode : (s.modDoorSlot n f).mode = s.mode := rfl
@[simp] theorem modDoorSlot_pins : (s.modDoorSlot n f).pins = s.pins := rfl
@[simp] theorem modDoorSlot_latch : (s.modDoorSlot n f).latch = s.latch := rfl
@[simp] theorem modDoorSlot_frame : (s.modDoorSlot n f).frame = s.frame := rfl
@[simp] theorem modDoorSlot_opTime : (s.modDoorSlot n f).opTime = s.opTime := rfl
@[simp] theorem modDoorSlot_transition : (s.modDoorSlot n f).transition = s.transition := rfl
@[simp] theorem modDoorSlot_slack : (s.modDoorSlot n f).slack = s.slack := rfl
@[simp] theorem modDoorSlot_fb : (s.modDoorSlot n f).fb = s.fb := rfl
@[simp] theorem modDoorSlot_loops : (s.modDoorSlot n f).loops = s.loops := rfl
@[simp] theorem modDoorSlot_disp : (s.modDoorSlot n f).disp = s.disp := rfl
@[simp] theorem modDoorSlot_saf : (s.modDoorSlot n f).saf = s.saf := rfl
@[simp] theorem modDoorSlot_links : (s.modDoorSlot n f).links = s.links := rfl
@[simp] theorem modDoorSlot_pair : (s.modDoorSlot n f).pair = s.pair := rfl
@[simp] theorem modDoorSlot_proving : (s.modDoorSlot n f).proving = s.proving := rfl
@[simp] theorem modDoorSlot_log : (s.modDoorSlot n f).log = s.log := rfl
@[simp] theorem modDoorSlot_fm : (s.modDoorSlot n f).fm = s.fm := rfl
@[simp] theorem modDoorSlot_mem : (s.modDoorSlot n f).mem = s.mem := rfl
@[simp] theorem modDoorSlot_params : (s.modDoorSlot n f).params = s.params := rfl
@[simp] theorem modDoorSlot_host : (s.modDoorSlot n f).host = s.host := rfl
@[simp] theorem modDoorSlot_img : (s.modDoorSlot n f).img = s.img := rfl
@[simp] theorem modDoorSlot_free : (s.modDoorSlot n f).free = s.free := rfl
@[simp] theorem modDoorSlot_pending : (s.modDoorSlot n f).pending = s.pending := rfl
@[simp] theorem modDoorSlot_motion_hoist : (s.modDoorSlot n f).motion.hoist = s.motion.hoist := rfl
@[simp] theorem modDoorSlot_motion_doors : (s.modDoorSlot n f).motion.doors = s.motion.doors := rfl
end

/-! ### DispCar -/

section
variable {c : Nat} {f : DispCar → DispCar}
theorem modDcar_self (h : tblWf (dft {}) s.disp.cars = true) : (s.modDcar c f).dcar c = f (s.dcar c) := tget_tmod_self h
theorem modDcar_ne {j : Nat} (h : j ≠ c) : (s.modDcar c f).dcar j = s.dcar j := tget_tmod_ne h
theorem modDcar_wf (h : tblWf (dft {}) s.disp.cars = true) : tblWf (dft {}) (s.modDcar c f).disp.cars = true := tmod_wf h
@[simp] theorem modDcar_power : (s.modDcar c f).power = s.power := rfl
@[simp] theorem modDcar_mode : (s.modDcar c f).mode = s.mode := rfl
@[simp] theorem modDcar_pins : (s.modDcar c f).pins = s.pins := rfl
@[simp] theorem modDcar_latch : (s.modDcar c f).latch = s.latch := rfl
@[simp] theorem modDcar_frame : (s.modDcar c f).frame = s.frame := rfl
@[simp] theorem modDcar_opTime : (s.modDcar c f).opTime = s.opTime := rfl
@[simp] theorem modDcar_transition : (s.modDcar c f).transition = s.transition := rfl
@[simp] theorem modDcar_slack : (s.modDcar c f).slack = s.slack := rfl
@[simp] theorem modDcar_fb : (s.modDcar c f).fb = s.fb := rfl
@[simp] theorem modDcar_loops : (s.modDcar c f).loops = s.loops := rfl
@[simp] theorem modDcar_motion : (s.modDcar c f).motion = s.motion := rfl
@[simp] theorem modDcar_saf : (s.modDcar c f).saf = s.saf := rfl
@[simp] theorem modDcar_links : (s.modDcar c f).links = s.links := rfl
@[simp] theorem modDcar_pair : (s.modDcar c f).pair = s.pair := rfl
@[simp] theorem modDcar_proving : (s.modDcar c f).proving = s.proving := rfl
@[simp] theorem modDcar_log : (s.modDcar c f).log = s.log := rfl
@[simp] theorem modDcar_fm : (s.modDcar c f).fm = s.fm := rfl
@[simp] theorem modDcar_mem : (s.modDcar c f).mem = s.mem := rfl
@[simp] theorem modDcar_params : (s.modDcar c f).params = s.params := rfl
@[simp] theorem modDcar_host : (s.modDcar c f).host = s.host := rfl
@[simp] theorem modDcar_img : (s.modDcar c f).img = s.img := rfl
@[simp] theorem modDcar_free : (s.modDcar c f).free = s.free := rfl
@[simp] theorem modDcar_pending : (s.modDcar c f).pending = s.pending := rfl
@[simp] theorem modDcar_disp_calls : (s.modDcar c f).disp.calls = s.disp.calls := rfl
@[simp] theorem modDcar_disp_queue : (s.modDcar c f).disp.queue = s.disp.queue := rfl
@[simp] theorem modDcar_disp_domains : (s.modDcar c f).disp.domains = s.disp.domains := rfl
@[simp] theorem modDcar_disp_pairs : (s.modDcar c f).disp.pairs = s.disp.pairs := rfl
end

/-! ### Domain -/

section
variable {n : Nat} {f : Domain → Domain}
theorem modDomain_self (h : tblWf (dft {}) s.disp.domains = true) : (s.modDomain n f).domain n = f (s.domain n) := tget_tmod_self h
theorem modDomain_ne {j : Nat} (h : j ≠ n) : (s.modDomain n f).domain j = s.domain j := tget_tmod_ne h
theorem modDomain_wf (h : tblWf (dft {}) s.disp.domains = true) : tblWf (dft {}) (s.modDomain n f).disp.domains = true := tmod_wf h
@[simp] theorem modDomain_power : (s.modDomain n f).power = s.power := rfl
@[simp] theorem modDomain_mode : (s.modDomain n f).mode = s.mode := rfl
@[simp] theorem modDomain_pins : (s.modDomain n f).pins = s.pins := rfl
@[simp] theorem modDomain_latch : (s.modDomain n f).latch = s.latch := rfl
@[simp] theorem modDomain_frame : (s.modDomain n f).frame = s.frame := rfl
@[simp] theorem modDomain_opTime : (s.modDomain n f).opTime = s.opTime := rfl
@[simp] theorem modDomain_transition : (s.modDomain n f).transition = s.transition := rfl
@[simp] theorem modDomain_slack : (s.modDomain n f).slack = s.slack := rfl
@[simp] theorem modDomain_fb : (s.modDomain n f).fb = s.fb := rfl
@[simp] theorem modDomain_loops : (s.modDomain n f).loops = s.loops := rfl
@[simp] theorem modDomain_motion : (s.modDomain n f).motion = s.motion := rfl
@[simp] theorem modDomain_saf : (s.modDomain n f).saf = s.saf := rfl
@[simp] theorem modDomain_links : (s.modDomain n f).links = s.links := rfl
@[simp] theorem modDomain_pair : (s.modDomain n f).pair = s.pair := rfl
@[simp] theorem modDomain_proving : (s.modDomain n f).proving = s.proving := rfl
@[simp] theorem modDomain_log : (s.modDomain n f).log = s.log := rfl
@[simp] theorem modDomain_fm : (s.modDomain n f).fm = s.fm := rfl
@[simp] theorem modDomain_mem : (s.modDomain n f).mem = s.mem := rfl
@[simp] theorem modDomain_params : (s.modDomain n f).params = s.params := rfl
@[simp] theorem modDomain_host : (s.modDomain n f).host = s.host := rfl
@[simp] theorem modDomain_img : (s.modDomain n f).img = s.img := rfl
@[simp] theorem modDomain_free : (s.modDomain n f).free = s.free := rfl
@[simp] theorem modDomain_pending : (s.modDomain n f).pending = s.pending := rfl
@[simp] theorem modDomain_disp_calls : (s.modDomain n f).disp.calls = s.disp.calls := rfl
@[simp] theorem modDomain_disp_cars : (s.modDomain n f).disp.cars = s.disp.cars := rfl
@[simp] theorem modDomain_disp_queue : (s.modDomain n f).disp.queue = s.disp.queue := rfl
@[simp] theorem modDomain_disp_pairs : (s.modDomain n f).disp.pairs = s.disp.pairs := rfl
end

/-! ### PairView -/

section
variable {p : Nat} {f : PairView → PairView}
theorem modPairView_self (h : tblWf (dft {}) s.disp.pairs = true) : (s.modPairView p f).pairView p = f (s.pairView p) := tget_tmod_self h
theorem modPairView_ne {j : Nat} (h : j ≠ p) : (s.modPairView p f).pairView j = s.pairView j := tget_tmod_ne h
theorem modPairView_wf (h : tblWf (dft {}) s.disp.pairs = true) : tblWf (dft {}) (s.modPairView p f).disp.pairs = true := tmod_wf h
@[simp] theorem modPairView_power : (s.modPairView p f).power = s.power := rfl
@[simp] theorem modPairView_mode : (s.modPairView p f).mode = s.mode := rfl
@[simp] theorem modPairView_pins : (s.modPairView p f).pins = s.pins := rfl
@[simp] theorem modPairView_latch : (s.modPairView p f).latch = s.latch := rfl
@[simp] theorem modPairView_frame : (s.modPairView p f).frame = s.frame := rfl
@[simp] theorem modPairView_opTime : (s.modPairView p f).opTime = s.opTime := rfl
@[simp] theorem modPairView_transition : (s.modPairView p f).transition = s.transition := rfl
@[simp] theorem modPairView_slack : (s.modPairView p f).slack = s.slack := rfl
@[simp] theorem modPairView_fb : (s.modPairView p f).fb = s.fb := rfl
@[simp] theorem modPairView_loops : (s.modPairView p f).loops = s.loops := rfl
@[simp] theorem modPairView_motion : (s.modPairView p f).motion = s.motion := rfl
@[simp] theorem modPairView_saf : (s.modPairView p f).saf = s.saf := rfl
@[simp] theorem modPairView_links : (s.modPairView p f).links = s.links := rfl
@[simp] theorem modPairView_pair : (s.modPairView p f).pair = s.pair := rfl
@[simp] theorem modPairView_proving : (s.modPairView p f).proving = s.proving := rfl
@[simp] theorem modPairView_log : (s.modPairView p f).log = s.log := rfl
@[simp] theorem modPairView_fm : (s.modPairView p f).fm = s.fm := rfl
@[simp] theorem modPairView_mem : (s.modPairView p f).mem = s.mem := rfl
@[simp] theorem modPairView_params : (s.modPairView p f).params = s.params := rfl
@[simp] theorem modPairView_host : (s.modPairView p f).host = s.host := rfl
@[simp] theorem modPairView_img : (s.modPairView p f).img = s.img := rfl
@[simp] theorem modPairView_free : (s.modPairView p f).free = s.free := rfl
@[simp] theorem modPairView_pending : (s.modPairView p f).pending = s.pending := rfl
@[simp] theorem modPairView_disp_calls : (s.modPairView p f).disp.calls = s.disp.calls := rfl
@[simp] theorem modPairView_disp_cars : (s.modPairView p f).disp.cars = s.disp.cars := rfl
@[simp] theorem modPairView_disp_queue : (s.modPairView p f).disp.queue = s.disp.queue := rfl
@[simp] theorem modPairView_disp_domains : (s.modPairView p f).disp.domains = s.disp.domains := rfl
end

/-! ### CarSaf -/

section
variable {c : Nat} {f : CarSaf → CarSaf}
theorem modCarSaf_self (h : tblWf (dft {}) s.saf.cars = true) : (s.modCarSaf c f).carSaf c = f (s.carSaf c) := tget_tmod_self h
theorem modCarSaf_ne {j : Nat} (h : j ≠ c) : (s.modCarSaf c f).carSaf j = s.carSaf j := tget_tmod_ne h
theorem modCarSaf_wf (h : tblWf (dft {}) s.saf.cars = true) : tblWf (dft {}) (s.modCarSaf c f).saf.cars = true := tmod_wf h
@[simp] theorem modCarSaf_power : (s.modCarSaf c f).power = s.power := rfl
@[simp] theorem modCarSaf_mode : (s.modCarSaf c f).mode = s.mode := rfl
@[simp] theorem modCarSaf_pins : (s.modCarSaf c f).pins = s.pins := rfl
@[simp] theorem modCarSaf_latch : (s.modCarSaf c f).latch = s.latch := rfl
@[simp] theorem modCarSaf_frame : (s.modCarSaf c f).frame = s.frame := rfl
@[simp] theorem modCarSaf_opTime : (s.modCarSaf c f).opTime = s.opTime := rfl
@[simp] theorem modCarSaf_transition : (s.modCarSaf c f).transition = s.transition := rfl
@[simp] theorem modCarSaf_slack : (s.modCarSaf c f).slack = s.slack := rfl
@[simp] theorem modCarSaf_fb : (s.modCarSaf c f).fb = s.fb := rfl
@[simp] theorem modCarSaf_loops : (s.modCarSaf c f).loops = s.loops := rfl
@[simp] theorem modCarSaf_motion : (s.modCarSaf c f).motion = s.motion := rfl
@[simp] theorem modCarSaf_disp : (s.modCarSaf c f).disp = s.disp := rfl
@[simp] theorem modCarSaf_links : (s.modCarSaf c f).links = s.links := rfl
@[simp] theorem modCarSaf_pair : (s.modCarSaf c f).pair = s.pair := rfl
@[simp] theorem modCarSaf_proving : (s.modCarSaf c f).proving = s.proving := rfl
@[simp] theorem modCarSaf_log : (s.modCarSaf c f).log = s.log := rfl
@[simp] theorem modCarSaf_fm : (s.modCarSaf c f).fm = s.fm := rfl
@[simp] theorem modCarSaf_mem : (s.modCarSaf c f).mem = s.mem := rfl
@[simp] theorem modCarSaf_params : (s.modCarSaf c f).params = s.params := rfl
@[simp] theorem modCarSaf_host : (s.modCarSaf c f).host = s.host := rfl
@[simp] theorem modCarSaf_img : (s.modCarSaf c f).img = s.img := rfl
@[simp] theorem modCarSaf_free : (s.modCarSaf c f).free = s.free := rfl
@[simp] theorem modCarSaf_pending : (s.modCarSaf c f).pending = s.pending := rfl
@[simp] theorem modCarSaf_saf_inputs : (s.modCarSaf c f).saf.inputs = s.saf.inputs := rfl
@[simp] theorem modCarSaf_saf_outs : (s.modCarSaf c f).saf.outs = s.saf.outs := rfl
@[simp] theorem modCarSaf_saf_set : (s.modCarSaf c f).saf.set = s.saf.set := rfl
@[simp] theorem modCarSaf_saf_staged : (s.modCarSaf c f).saf.staged = s.saf.staged := rfl
@[simp] theorem modCarSaf_saf_tripWin : (s.modCarSaf c f).saf.tripWin = s.saf.tripWin := rfl
@[simp] theorem modCarSaf_saf_lockWin : (s.modCarSaf c f).saf.lockWin = s.saf.lockWin := rfl
@[simp] theorem modCarSaf_saf_enrolWin : (s.modCarSaf c f).saf.enrolWin = s.saf.enrolWin := rfl
end

/-! ### SafIn -/

section
variable {i : Nat} {f : SafIn → SafIn}
theorem modSafIn_self (h : tblWf (dft {}) s.saf.inputs = true) : (s.modSafIn i f).safIn i = f (s.safIn i) := tget_tmod_self h
theorem modSafIn_ne {j : Nat} (h : j ≠ i) : (s.modSafIn i f).safIn j = s.safIn j := tget_tmod_ne h
theorem modSafIn_wf (h : tblWf (dft {}) s.saf.inputs = true) : tblWf (dft {}) (s.modSafIn i f).saf.inputs = true := tmod_wf h
@[simp] theorem modSafIn_power : (s.modSafIn i f).power = s.power := rfl
@[simp] theorem modSafIn_mode : (s.modSafIn i f).mode = s.mode := rfl
@[simp] theorem modSafIn_pins : (s.modSafIn i f).pins = s.pins := rfl
@[simp] theorem modSafIn_latch : (s.modSafIn i f).latch = s.latch := rfl
@[simp] theorem modSafIn_frame : (s.modSafIn i f).frame = s.frame := rfl
@[simp] theorem modSafIn_opTime : (s.modSafIn i f).opTime = s.opTime := rfl
@[simp] theorem modSafIn_transition : (s.modSafIn i f).transition = s.transition := rfl
@[simp] theorem modSafIn_slack : (s.modSafIn i f).slack = s.slack := rfl
@[simp] theorem modSafIn_fb : (s.modSafIn i f).fb = s.fb := rfl
@[simp] theorem modSafIn_loops : (s.modSafIn i f).loops = s.loops := rfl
@[simp] theorem modSafIn_motion : (s.modSafIn i f).motion = s.motion := rfl
@[simp] theorem modSafIn_disp : (s.modSafIn i f).disp = s.disp := rfl
@[simp] theorem modSafIn_links : (s.modSafIn i f).links = s.links := rfl
@[simp] theorem modSafIn_pair : (s.modSafIn i f).pair = s.pair := rfl
@[simp] theorem modSafIn_proving : (s.modSafIn i f).proving = s.proving := rfl
@[simp] theorem modSafIn_log : (s.modSafIn i f).log = s.log := rfl
@[simp] theorem modSafIn_fm : (s.modSafIn i f).fm = s.fm := rfl
@[simp] theorem modSafIn_mem : (s.modSafIn i f).mem = s.mem := rfl
@[simp] theorem modSafIn_params : (s.modSafIn i f).params = s.params := rfl
@[simp] theorem modSafIn_host : (s.modSafIn i f).host = s.host := rfl
@[simp] theorem modSafIn_img : (s.modSafIn i f).img = s.img := rfl
@[simp] theorem modSafIn_free : (s.modSafIn i f).free = s.free := rfl
@[simp] theorem modSafIn_pending : (s.modSafIn i f).pending = s.pending := rfl
@[simp] theorem modSafIn_saf_cars : (s.modSafIn i f).saf.cars = s.saf.cars := rfl
@[simp] theorem modSafIn_saf_outs : (s.modSafIn i f).saf.outs = s.saf.outs := rfl
@[simp] theorem modSafIn_saf_set : (s.modSafIn i f).saf.set = s.saf.set := rfl
@[simp] theorem modSafIn_saf_staged : (s.modSafIn i f).saf.staged = s.saf.staged := rfl
@[simp] theorem modSafIn_saf_tripWin : (s.modSafIn i f).saf.tripWin = s.saf.tripWin := rfl
@[simp] theorem modSafIn_saf_lockWin : (s.modSafIn i f).saf.lockWin = s.saf.lockWin := rfl
@[simp] theorem modSafIn_saf_enrolWin : (s.modSafIn i f).saf.enrolWin = s.saf.enrolWin := rfl
end

/-! ### Out -/

section
variable {o : Nat} {f : Out → Out}
theorem modOut_self (h : tblWf (dft {}) s.saf.outs = true) : (s.modOut o f).out o = f (s.out o) := tget_tmod_self h
theorem modOut_ne {j : Nat} (h : j ≠ o) : (s.modOut o f).out j = s.out j := tget_tmod_ne h
theorem modOut_wf (h : tblWf (dft {}) s.saf.outs = true) : tblWf (dft {}) (s.modOut o f).saf.outs = true := tmod_wf h
@[simp] theorem modOut_power : (s.modOut o f).power = s.power := rfl
@[simp] theorem modOut_mode : (s.modOut o f).mode = s.mode := rfl
@[simp] theorem modOut_pins : (s.modOut o f).pins = s.pins := rfl
@[simp] theorem modOut_latch : (s.modOut o f).latch = s.latch := rfl
@[simp] theorem modOut_frame : (s.modOut o f).frame = s.frame := rfl
@[simp] theorem modOut_opTime : (s.modOut o f).opTime = s.opTime := rfl
@[simp] theorem modOut_transition : (s.modOut o f).transition = s.transition := rfl
@[simp] theorem modOut_slack : (s.modOut o f).slack = s.slack := rfl
@[simp] theorem modOut_fb : (s.modOut o f).fb = s.fb := rfl
@[simp] theorem modOut_loops : (s.modOut o f).loops = s.loops := rfl
@[simp] theorem modOut_motion : (s.modOut o f).motion = s.motion := rfl
@[simp] theorem modOut_disp : (s.modOut o f).disp = s.disp := rfl
@[simp] theorem modOut_links : (s.modOut o f).links = s.links := rfl
@[simp] theorem modOut_pair : (s.modOut o f).pair = s.pair := rfl
@[simp] theorem modOut_proving : (s.modOut o f).proving = s.proving := rfl
@[simp] theorem modOut_log : (s.modOut o f).log = s.log := rfl
@[simp] theorem modOut_fm : (s.modOut o f).fm = s.fm := rfl
@[simp] theorem modOut_mem : (s.modOut o f).mem = s.mem := rfl
@[simp] theorem modOut_params : (s.modOut o f).params = s.params := rfl
@[simp] theorem modOut_host : (s.modOut o f).host = s.host := rfl
@[simp] theorem modOut_img : (s.modOut o f).img = s.img := rfl
@[simp] theorem modOut_free : (s.modOut o f).free = s.free := rfl
@[simp] theorem modOut_pending : (s.modOut o f).pending = s.pending := rfl
@[simp] theorem modOut_saf_cars : (s.modOut o f).saf.cars = s.saf.cars := rfl
@[simp] theorem modOut_saf_inputs : (s.modOut o f).saf.inputs = s.saf.inputs := rfl
@[simp] theorem modOut_saf_set : (s.modOut o f).saf.set = s.saf.set := rfl
@[simp] theorem modOut_saf_staged : (s.modOut o f).saf.staged = s.saf.staged := rfl
@[simp] theorem modOut_saf_tripWin : (s.modOut o f).saf.tripWin = s.saf.tripWin := rfl
@[simp] theorem modOut_saf_lockWin : (s.modOut o f).saf.lockWin = s.saf.lockWin := rfl
@[simp] theorem modOut_saf_enrolWin : (s.modOut o f).saf.enrolWin = s.saf.enrolWin := rfl
end

/-! ### Port -/

section
variable {p : Nat} {f : Port → Port}
theorem modPort_self (h : tblWf (dft {}) s.links.ports = true) : (s.modPort p f).lport p = f (s.lport p) := tget_tmod_self h
theorem modPort_ne {j : Nat} (h : j ≠ p) : (s.modPort p f).lport j = s.lport j := tget_tmod_ne h
theorem modPort_wf (h : tblWf (dft {}) s.links.ports = true) : tblWf (dft {}) (s.modPort p f).links.ports = true := tmod_wf h
@[simp] theorem modPort_power : (s.modPort p f).power = s.power := rfl
@[simp] theorem modPort_mode : (s.modPort p f).mode = s.mode := rfl
@[simp] theorem modPort_pins : (s.modPort p f).pins = s.pins := rfl
@[simp] theorem modPort_latch : (s.modPort p f).latch = s.latch := rfl
@[simp] theorem modPort_frame : (s.modPort p f).frame = s.frame := rfl
@[simp] theorem modPort_opTime : (s.modPort p f).opTime = s.opTime := rfl
@[simp] theorem modPort_transition : (s.modPort p f).transition = s.transition := rfl
@[simp] theorem modPort_slack : (s.modPort p f).slack = s.slack := rfl
@[simp] theorem modPort_fb : (s.modPort p f).fb = s.fb := rfl
@[simp] theorem modPort_loops : (s.modPort p f).loops = s.loops := rfl
@[simp] theorem modPort_motion : (s.modPort p f).motion = s.motion := rfl
@[simp] theorem modPort_disp : (s.modPort p f).disp = s.disp := rfl
@[simp] theorem modPort_saf : (s.modPort p f).saf = s.saf := rfl
@[simp] theorem modPort_pair : (s.modPort p f).pair = s.pair := rfl
@[simp] theorem modPort_proving : (s.modPort p f).proving = s.proving := rfl
@[simp] theorem modPort_log : (s.modPort p f).log = s.log := rfl
@[simp] theorem modPort_fm : (s.modPort p f).fm = s.fm := rfl
@[simp] theorem modPort_mem : (s.modPort p f).mem = s.mem := rfl
@[simp] theorem modPort_params : (s.modPort p f).params = s.params := rfl
@[simp] theorem modPort_host : (s.modPort p f).host = s.host := rfl
@[simp] theorem modPort_img : (s.modPort p f).img = s.img := rfl
@[simp] theorem modPort_free : (s.modPort p f).free = s.free := rfl
@[simp] theorem modPort_pending : (s.modPort p f).pending = s.pending := rfl
@[simp] theorem modPort_links_nodes : (s.modPort p f).links.nodes = s.links.nodes := rfl
@[simp] theorem modPort_links_points : (s.modPort p f).links.points = s.links.points := rfl
end

/-! ### Node -/

section
variable {p a : Nat} {f : Node → Node}
@[simp] theorem modNode_power : (s.modNode p a f).power = s.power := rfl
@[simp] theorem modNode_mode : (s.modNode p a f).mode = s.mode := rfl
@[simp] theorem modNode_pins : (s.modNode p a f).pins = s.pins := rfl
@[simp] theorem modNode_latch : (s.modNode p a f).latch = s.latch := rfl
@[simp] theorem modNode_frame : (s.modNode p a f).frame = s.frame := rfl
@[simp] theorem modNode_opTime : (s.modNode p a f).opTime = s.opTime := rfl
@[simp] theorem modNode_transition : (s.modNode p a f).transition = s.transition := rfl
@[simp] theorem modNode_slack : (s.modNode p a f).slack = s.slack := rfl
@[simp] theorem modNode_fb : (s.modNode p a f).fb = s.fb := rfl
@[simp] theorem modNode_loops : (s.modNode p a f).loops = s.loops := rfl
@[simp] theorem modNode_motion : (s.modNode p a f).motion = s.motion := rfl
@[simp] theorem modNode_disp : (s.modNode p a f).disp = s.disp := rfl
@[simp] theorem modNode_saf : (s.modNode p a f).saf = s.saf := rfl
@[simp] theorem modNode_pair : (s.modNode p a f).pair = s.pair := rfl
@[simp] theorem modNode_proving : (s.modNode p a f).proving = s.proving := rfl
@[simp] theorem modNode_log : (s.modNode p a f).log = s.log := rfl
@[simp] theorem modNode_fm : (s.modNode p a f).fm = s.fm := rfl
@[simp] theorem modNode_mem : (s.modNode p a f).mem = s.mem := rfl
@[simp] theorem modNode_params : (s.modNode p a f).params = s.params := rfl
@[simp] theorem modNode_host : (s.modNode p a f).host = s.host := rfl
@[simp] theorem modNode_img : (s.modNode p a f).img = s.img := rfl
@[simp] theorem modNode_free : (s.modNode p a f).free = s.free := rfl
@[simp] theorem modNode_pending : (s.modNode p a f).pending = s.pending := rfl
@[simp] theorem modNode_links_ports : (s.modNode p a f).links.ports = s.links.ports := rfl
@[simp] theorem modNode_links_points : (s.modNode p a f).links.points = s.links.points := rfl
end

/-! ### Point -/

section
variable {k : Nat} {f : Point → Point}
theorem modPoint_self (h : tblWf (dft {}) s.links.points = true) : (s.modPoint k f).point k = f (s.point k) := tget_tmod_self h
theorem modPoint_ne {j : Nat} (h : j ≠ k) : (s.modPoint k f).point j = s.point j := tget_tmod_ne h
theorem modPoint_wf (h : tblWf (dft {}) s.links.points = true) : tblWf (dft {}) (s.modPoint k f).links.points = true := tmod_wf h
@[simp] theorem modPoint_power : (s.modPoint k f).power = s.power := rfl
@[simp] theorem modPoint_mode : (s.modPoint k f).mode = s.mode := rfl
@[simp] theorem modPoint_pins : (s.modPoint k f).pins = s.pins := rfl
@[simp] theorem modPoint_latch : (s.modPoint k f).latch = s.latch := rfl
@[simp] theorem modPoint_frame : (s.modPoint k f).frame = s.frame := rfl
@[simp] theorem modPoint_opTime : (s.modPoint k f).opTime = s.opTime := rfl
@[simp] theorem modPoint_transition : (s.modPoint k f).transition = s.transition := rfl
@[simp] theorem modPoint_slack : (s.modPoint k f).slack = s.slack := rfl
@[simp] theorem modPoint_fb : (s.modPoint k f).fb = s.fb := rfl
@[simp] theorem modPoint_loops : (s.modPoint k f).loops = s.loops := rfl
@[simp] theorem modPoint_motion : (s.modPoint k f).motion = s.motion := rfl
@[simp] theorem modPoint_disp : (s.modPoint k f).disp = s.disp := rfl
@[simp] theorem modPoint_saf : (s.modPoint k f).saf = s.saf := rfl
@[simp] theorem modPoint_pair : (s.modPoint k f).pair = s.pair := rfl
@[simp] theorem modPoint_proving : (s.modPoint k f).proving = s.proving := rfl
@[simp] theorem modPoint_log : (s.modPoint k f).log = s.log := rfl
@[simp] theorem modPoint_fm : (s.modPoint k f).fm = s.fm := rfl
@[simp] theorem modPoint_mem : (s.modPoint k f).mem = s.mem := rfl
@[simp] theorem modPoint_params : (s.modPoint k f).params = s.params := rfl
@[simp] theorem modPoint_host : (s.modPoint k f).host = s.host := rfl
@[simp] theorem modPoint_img : (s.modPoint k f).img = s.img := rfl
@[simp] theorem modPoint_free : (s.modPoint k f).free = s.free := rfl
@[simp] theorem modPoint_pending : (s.modPoint k f).pending = s.pending := rfl
@[simp] theorem modPoint_links_ports : (s.modPoint k f).links.ports = s.links.ports := rfl
@[simp] theorem modPoint_links_nodes : (s.modPoint k f).links.nodes = s.links.nodes := rfl
end

/-! ### Croak -/

section
variable {n : Nat} {f : Croak → Croak}
theorem modCroak_self (h : tblWf (dft {}) s.pair.slots = true) : (s.modCroak n f).croak n = f (s.croak n) := tget_tmod_self h
theorem modCroak_ne {j : Nat} (h : j ≠ n) : (s.modCroak n f).croak j = s.croak j := tget_tmod_ne h
theorem modCroak_wf (h : tblWf (dft {}) s.pair.slots = true) : tblWf (dft {}) (s.modCroak n f).pair.slots = true := tmod_wf h
@[simp] theorem modCroak_power : (s.modCroak n f).power = s.power := rfl
@[simp] theorem modCroak_mode : (s.modCroak n f).mode = s.mode := rfl
@[simp] theorem modCroak_pins : (s.modCroak n f).pins = s.pins := rfl
@[simp] theorem modCroak_latch : (s.modCroak n f).latch = s.latch := rfl
@[simp] theorem modCroak_frame : (s.modCroak n f).frame = s.frame := rfl
@[simp] theorem modCroak_opTime : (s.modCroak n f).opTime = s.opTime := rfl
@[simp] theorem modCroak_transition : (s.modCroak n f).transition = s.transition := rfl
@[simp] theorem modCroak_slack : (s.modCroak n f).slack = s.slack := rfl
@[simp] theorem modCroak_fb : (s.modCroak n f).fb = s.fb := rfl
@[simp] theorem modCroak_loops : (s.modCroak n f).loops = s.loops := rfl
@[simp] theorem modCroak_motion : (s.modCroak n f).motion = s.motion := rfl
@[simp] theorem modCroak_disp : (s.modCroak n f).disp = s.disp := rfl
@[simp] theorem modCroak_saf : (s.modCroak n f).saf = s.saf := rfl
@[simp] theorem modCroak_links : (s.modCroak n f).links = s.links := rfl
@[simp] theorem modCroak_proving : (s.modCroak n f).proving = s.proving := rfl
@[simp] theorem modCroak_log : (s.modCroak n f).log = s.log := rfl
@[simp] theorem modCroak_fm : (s.modCroak n f).fm = s.fm := rfl
@[simp] theorem modCroak_mem : (s.modCroak n f).mem = s.mem := rfl
@[simp] theorem modCroak_params : (s.modCroak n f).params = s.params := rfl
@[simp] theorem modCroak_host : (s.modCroak n f).host = s.host := rfl
@[simp] theorem modCroak_img : (s.modCroak n f).img = s.img := rfl
@[simp] theorem modCroak_free : (s.modCroak n f).free = s.free := rfl
@[simp] theorem modCroak_pending : (s.modCroak n f).pending = s.pending := rfl
@[simp] theorem modCroak_pair_paired : (s.modCroak n f).pair.paired = s.pair.paired := rfl
@[simp] theorem modCroak_pair_inStep : (s.modCroak n f).pair.inStep = s.pair.inStep := rfl
@[simp] theorem modCroak_pair_lanes : (s.modCroak n f).pair.lanes = s.pair.lanes := rfl
end

/-! ### UnitRes -/

section
variable {u : Nat} {f : UnitRes → UnitRes}
theorem modUnit_self (h : tblWf (dft {}) s.proving.units = true) : (s.modUnit u f).unit u = f (s.unit u) := tget_tmod_self h
theorem modUnit_ne {j : Nat} (h : j ≠ u) : (s.modUnit u f).unit j = s.unit j := tget_tmod_ne h
theorem modUnit_wf (h : tblWf (dft {}) s.proving.units = true) : tblWf (dft {}) (s.modUnit u f).proving.units = true := tmod_wf h
@[simp] theorem modUnit_power : (s.modUnit u f).power = s.power := rfl
@[simp] theorem modUnit_mode : (s.modUnit u f).mode = s.mode := rfl
@[simp] theorem modUnit_pins : (s.modUnit u f).pins = s.pins := rfl
@[simp] theorem modUnit_latch : (s.modUnit u f).latch = s.latch := rfl
@[simp] theorem modUnit_frame : (s.modUnit u f).frame = s.frame := rfl
@[simp] theorem modUnit_opTime : (s.modUnit u f).opTime = s.opTime := rfl
@[simp] theorem modUnit_transition : (s.modUnit u f).transition = s.transition := rfl
@[simp] theorem modUnit_slack : (s.modUnit u f).slack = s.slack := rfl
@[simp] theorem modUnit_fb : (s.modUnit u f).fb = s.fb := rfl
@[simp] theorem modUnit_loops : (s.modUnit u f).loops = s.loops := rfl
@[simp] theorem modUnit_motion : (s.modUnit u f).motion = s.motion := rfl
@[simp] theorem modUnit_disp : (s.modUnit u f).disp = s.disp := rfl
@[simp] theorem modUnit_saf : (s.modUnit u f).saf = s.saf := rfl
@[simp] theorem modUnit_links : (s.modUnit u f).links = s.links := rfl
@[simp] theorem modUnit_pair : (s.modUnit u f).pair = s.pair := rfl
@[simp] theorem modUnit_log : (s.modUnit u f).log = s.log := rfl
@[simp] theorem modUnit_fm : (s.modUnit u f).fm = s.fm := rfl
@[simp] theorem modUnit_mem : (s.modUnit u f).mem = s.mem := rfl
@[simp] theorem modUnit_params : (s.modUnit u f).params = s.params := rfl
@[simp] theorem modUnit_host : (s.modUnit u f).host = s.host := rfl
@[simp] theorem modUnit_img : (s.modUnit u f).img = s.img := rfl
@[simp] theorem modUnit_free : (s.modUnit u f).free = s.free := rfl
@[simp] theorem modUnit_pending : (s.modUnit u f).pending = s.pending := rfl
@[simp] theorem modUnit_proving_running : (s.modUnit u f).proving.running = s.proving.running := rfl
end

/-! ### SlackClass -/

section
variable {n : Nat} {f : SlackClass → SlackClass}
theorem modSlackC_self (h : tblWf (dft {}) s.slack.classes = true) : (s.modSlackC n f).slackC n = f (s.slackC n) := tget_tmod_self h
theorem modSlackC_ne {j : Nat} (h : j ≠ n) : (s.modSlackC n f).slackC j = s.slackC j := tget_tmod_ne h
theorem modSlackC_wf (h : tblWf (dft {}) s.slack.classes = true) : tblWf (dft {}) (s.modSlackC n f).slack.classes = true := tmod_wf h
@[simp] theorem modSlackC_power : (s.modSlackC n f).power = s.power := rfl
@[simp] theorem modSlackC_mode : (s.modSlackC n f).mode = s.mode := rfl
@[simp] theorem modSlackC_pins : (s.modSlackC n f).pins = s.pins := rfl
@[simp] theorem modSlackC_latch : (s.modSlackC n f).latch = s.latch := rfl
@[simp] theorem modSlackC_frame : (s.modSlackC n f).frame = s.frame := rfl
@[simp] theorem modSlackC_opTime : (s.modSlackC n f).opTime = s.opTime := rfl
@[simp] theorem modSlackC_transition : (s.modSlackC n f).transition = s.transition := rfl
@[simp] theorem modSlackC_fb : (s.modSlackC n f).fb = s.fb := rfl
@[simp] theorem modSlackC_loops : (s.modSlackC n f).loops = s.loops := rfl
@[simp] theorem modSlackC_motion : (s.modSlackC n f).motion = s.motion := rfl
@[simp] theorem modSlackC_disp : (s.modSlackC n f).disp = s.disp := rfl
@[simp] theorem modSlackC_saf : (s.modSlackC n f).saf = s.saf := rfl
@[simp] theorem modSlackC_links : (s.modSlackC n f).links = s.links := rfl
@[simp] theorem modSlackC_pair : (s.modSlackC n f).pair = s.pair := rfl
@[simp] theorem modSlackC_proving : (s.modSlackC n f).proving = s.proving := rfl
@[simp] theorem modSlackC_log : (s.modSlackC n f).log = s.log := rfl
@[simp] theorem modSlackC_fm : (s.modSlackC n f).fm = s.fm := rfl
@[simp] theorem modSlackC_mem : (s.modSlackC n f).mem = s.mem := rfl
@[simp] theorem modSlackC_params : (s.modSlackC n f).params = s.params := rfl
@[simp] theorem modSlackC_host : (s.modSlackC n f).host = s.host := rfl
@[simp] theorem modSlackC_img : (s.modSlackC n f).img = s.img := rfl
@[simp] theorem modSlackC_free : (s.modSlackC n f).free = s.free := rfl
@[simp] theorem modSlackC_pending : (s.modSlackC n f).pending = s.pending := rfl
@[simp] theorem modSlackC_slack_shed : (s.modSlackC n f).slack.shed = s.slack.shed := rfl
end

/-! ### Cursor -/

section
variable {n : Nat} {f : Cursor → Cursor}
theorem modCursor_self (h : tblWf (dft {}) s.log.cursors = true) : (s.modCursor n f).cursor n = f (s.cursor n) := tget_tmod_self h
theorem modCursor_ne {j : Nat} (h : j ≠ n) : (s.modCursor n f).cursor j = s.cursor j := tget_tmod_ne h
theorem modCursor_wf (h : tblWf (dft {}) s.log.cursors = true) : tblWf (dft {}) (s.modCursor n f).log.cursors = true := tmod_wf h
@[simp] theorem modCursor_power : (s.modCursor n f).power = s.power := rfl
@[simp] theorem modCursor_mode : (s.modCursor n f).mode = s.mode := rfl
@[simp] theorem modCursor_pins : (s.modCursor n f).pins = s.pins := rfl
@[simp] theorem modCursor_latch : (s.modCursor n f).latch = s.latch := rfl
@[simp] theorem modCursor_frame : (s.modCursor n f).frame = s.frame := rfl
@[simp] theorem modCursor_opTime : (s.modCursor n f).opTime = s.opTime := rfl
@[simp] theorem modCursor_transition : (s.modCursor n f).transition = s.transition := rfl
@[simp] theorem modCursor_slack : (s.modCursor n f).slack = s.slack := rfl
@[simp] theorem modCursor_fb : (s.modCursor n f).fb = s.fb := rfl
@[simp] theorem modCursor_loops : (s.modCursor n f).loops = s.loops := rfl
@[simp] theorem modCursor_motion : (s.modCursor n f).motion = s.motion := rfl
@[simp] theorem modCursor_disp : (s.modCursor n f).disp = s.disp := rfl
@[simp] theorem modCursor_saf : (s.modCursor n f).saf = s.saf := rfl
@[simp] theorem modCursor_links : (s.modCursor n f).links = s.links := rfl
@[simp] theorem modCursor_pair : (s.modCursor n f).pair = s.pair := rfl
@[simp] theorem modCursor_proving : (s.modCursor n f).proving = s.proving := rfl
@[simp] theorem modCursor_fm : (s.modCursor n f).fm = s.fm := rfl
@[simp] theorem modCursor_mem : (s.modCursor n f).mem = s.mem := rfl
@[simp] theorem modCursor_params : (s.modCursor n f).params = s.params := rfl
@[simp] theorem modCursor_host : (s.modCursor n f).host = s.host := rfl
@[simp] theorem modCursor_img : (s.modCursor n f).img = s.img := rfl
@[simp] theorem modCursor_free : (s.modCursor n f).free = s.free := rfl
@[simp] theorem modCursor_pending : (s.modCursor n f).pending = s.pending := rfl
@[simp] theorem modCursor_log_log : (s.modCursor n f).log.log = s.log.log := rfl
@[simp] theorem modCursor_log_buffer : (s.modCursor n f).log.buffer = s.log.buffer := rfl
end

/-! ### ImgSlot -/

section
variable {n : Nat} {f : ImgSlot → ImgSlot}
theorem modImgSlot_self (h : tblWf (dft {}) s.img.slots = true) : (s.modImgSlot n f).imgSlot n = f (s.imgSlot n) := tget_tmod_self h
theorem modImgSlot_ne {j : Nat} (h : j ≠ n) : (s.modImgSlot n f).imgSlot j = s.imgSlot j := tget_tmod_ne h
theorem modImgSlot_wf (h : tblWf (dft {}) s.img.slots = true) : tblWf (dft {}) (s.modImgSlot n f).img.slots = true := tmod_wf h
@[simp] theorem modImgSlot_power : (s.modImgSlot n f).power = s.power := rfl
@[simp] theorem modImgSlot_mode : (s.modImgSlot n f).mode = s.mode := rfl
@[simp] theorem modImgSlot_pins : (s.modImgSlot n f).pins = s.pins := rfl
@[simp] theorem modImgSlot_latch : (s.modImgSlot n f).latch = s.latch := rfl
@[simp] theorem modImgSlot_frame : (s.modImgSlot n f).frame = s.frame := rfl
@[simp] theorem modImgSlot_opTime : (s.modImgSlot n f).opTime = s.opTime := rfl
@[simp] theorem modImgSlot_transition : (s.modImgSlot n f).transition = s.transition := rfl
@[simp] theorem modImgSlot_slack : (s.modImgSlot n f).slack = s.slack := rfl
@[simp] theorem modImgSlot_fb : (s.modImgSlot n f).fb = s.fb := rfl
@[simp] theorem modImgSlot_loops : (s.modImgSlot n f).loops = s.loops := rfl
@[simp] theorem modImgSlot_motion : (s.modImgSlot n f).motion = s.motion := rfl
@[simp] theorem modImgSlot_disp : (s.modImgSlot n f).disp = s.disp := rfl
@[simp] theorem modImgSlot_saf : (s.modImgSlot n f).saf = s.saf := rfl
@[simp] theorem modImgSlot_links : (s.modImgSlot n f).links = s.links := rfl
@[simp] theorem modImgSlot_pair : (s.modImgSlot n f).pair = s.pair := rfl
@[simp] theorem modImgSlot_proving : (s.modImgSlot n f).proving = s.proving := rfl
@[simp] theorem modImgSlot_log : (s.modImgSlot n f).log = s.log := rfl
@[simp] theorem modImgSlot_fm : (s.modImgSlot n f).fm = s.fm := rfl
@[simp] theorem modImgSlot_mem : (s.modImgSlot n f).mem = s.mem := rfl
@[simp] theorem modImgSlot_params : (s.modImgSlot n f).params = s.params := rfl
@[simp] theorem modImgSlot_host : (s.modImgSlot n f).host = s.host := rfl
@[simp] theorem modImgSlot_free : (s.modImgSlot n f).free = s.free := rfl
@[simp] theorem modImgSlot_pending : (s.modImgSlot n f).pending = s.pending := rfl
@[simp] theorem modImgSlot_img_session : (s.modImgSlot n f).img.session = s.img.session := rfl
@[simp] theorem modImgSlot_img_verifying : (s.modImgSlot n f).img.verifying = s.img.verifying := rfl
@[simp] theorem modImgSlot_img_tap : (s.modImgSlot n f).img.tap = s.img.tap := rfl
end

end Sys2Proof.Machine
end

