-- ==== Sys2Proof/Tests/Slice0.lean ====
section
/-! SUPPORT. Tests: ill-formed commands that the checks refuse, known answers, and for each statement of
Sys2Proof/Certificates/Slice0/Obligations.lean states and operands that meet what its clauses ask for. -/

namespace Sys2Proof.Tests
open Sys2Proof Sys2Proof.Machine

set_option Elab.async false

/-! ### Small states -/

/-- A device that has proved itself, in mode `m`. -/
def at_ (m : Mode) : State := { State.reset with mode := m, proving := {}, entryRecs := [] }
def com : State := at_ .commission
def svc : State := at_ .service
def sha : State := at_ .shadow
def lck : State := at_ .lockout
def dor : State := at_ .dormant

/-- A request's header: host port, no flags, no other request outstanding. -/
def hd (len : Nat) : Hdr := { chan := .port, flags := 0, inst := 0, seq := 1, crc := 0, len := len }

/-- Keys with a committed value, in force. -/
def keys (s : State) (l : List (Nat × Nat × Int)) : State :=
  let put := fun (t : Tbl Int) (e : Nat × Nat × Int) => tset paramDflt t (kix e.1 e.2.1) e.2.2
  { s with params := { s.params with
    committed := { s.params.committed with vals := l.foldl put s.params.committed.vals }
    force := l.foldl put s.params.force } }

/-- Safety set with these values. -/
def safe (s : State) (l : List (Nat × Nat × Int)) : State :=
  { s with saf := { s.saf with set := some { number := 1, entries := l, digest := [] } } }

/-- The partner's croak as heard in the last period. -/
def heard (s : State) (role : Nat) : State := s.modCroak 1 (fun k => { k with heard := true, now := true, role := role })


/-! ### WellFormed -/

theorem test_illFormed : Instr.wellFormed (.identityRead (hd 16) false (zeros 15)) = false
    ∧ Instr.wellFormed (.modeRequest (hd 36) false 0 (zeros 31)) = false
    ∧ Instr.wellFormed (.paramWrite (hd 16) false 1 []) = false
    ∧ Instr.wellFormed (.learnRunRead (hd 12) false 0 0 []) = false
    ∧ Instr.wellFormed (.learnRunStart (hd 12) false 0 0 (List.replicate 7 0)) = false
    ∧ Instr.wellFormed (.learnRunAbort (hd 12) false 0 0 (List.replicate 9 0)) = false
    ∧ Instr.wellFormed (.doorTableWrite (hd 6) false 2 1 []) = false
    ∧ Instr.wellFormed (.loopCoeffStage (hd 204) false 1 0 0 0 0 []) = false
    ∧ Instr.wellFormed (.captureArm (hd 28) false 0 0 0 1 [0] 1 0 0 0) = false
    ∧ Instr.wellFormed (.safetySetConfirm (hd 12) false 0 (zeros 5)) = false
    ∧ Instr.wellFormed (.lockoutResetRead (hd 36) false (zeros 33)) = false
    ∧ Instr.wellFormed (.lockoutResetArm (hd 36) false []) = false
    ∧ Instr.wellFormed (.partnerReleaseRead (hd 36) false []) = false
    ∧ Instr.wellFormed (.partnerRelease (hd 36) false (zeros 31)) = false
    ∧ Instr.wellFormed (.partnerAdmitRead (hd 44) false 0 []) = false
    ∧ Instr.wellFormed (.partnerAdmit (hd 44) false 0 (zeros 31)) = false := by decide +kernel

theorem test_illFormed_more : Instr.wellFormed (.pointMapWrite (hd 24) false 0 0 0 0 0 1 [zeros 15]) = false
    ∧ Instr.wellFormed (.pointMapWrite (hd 24) false 0 0 0 0 0 1 []) = false
    ∧ Instr.wellFormed (.nodeMessageSend (hd 6) false 0 2 [0]) = false
    ∧ Instr.wellFormed (.logClear (hd 32) false []) = false
    ∧ Instr.wellFormed (.imageChunk (hd 10) false 0 2 [0]) = false
    ∧ Instr.wellFormed (.keyEnrolRead (hd 100) false 1 (zeros 63) (zeros 32)) = false
    ∧ Instr.wellFormed (.keyEnrol (hd 100) false 1 (zeros 64) (zeros 31)) = false
    ∧ Instr.wellFormed (.hqWrite []) = false ∧ Instr.wellFormed (.hqWrite (zeros 4097)) = false
    ∧ Instr.wellFormed (.encoderSample [⟨0, 0, 0, []⟩, ⟨0, 1, 0, []⟩]) = false
    ∧ Instr.wellFormed (.sampleFrameTick [(10, 0)]) = false
    ∧ Instr.wellFormed (.sampleFrameTick [(1, 0), (1, 5)]) = false := by decide +kernel

/-- An ill-formed command stops, and one that fits its field runs. -/
theorem test_illFormed_stops : exec (.hqWrite []) svc = .fault .illFormed
    ∧ occurs (.hqUnknownCommand 0x11) = false ∧ occurs (.hqUnknownCommand 0x12) = true
    ∧ occurs (.unknownOpcodePacket (hd 0) 0x00) = false ∧ occurs (.unknownOpcodePacket (hd 0) 0xFF) = true
    ∧ occurs (.hqWrite [0xE7]) = true := by
  constructor
  · show execHqWrite [] svc = _
    unfold execHqWrite
    rw [if_neg (by decide)]
  · decide +kernel

/-! ### Known answers -/

/-- SHA-256 of "abc" (FIPS 180-4). -/
theorem test_sha256_abc : sha256 [0x61, 0x62, 0x63] =
    be 32 0xba7816bf8f01cfea414140de5dae2223b00361a396177a9cb410ff61f20015ad := by decide +kernel

/-- HMAC-SHA-256, test case 2 of RFC 4231. -/
theorem test_hmac : hmac [0x4a, 0x65, 0x66, 0x65] ([0x77, 0x68, 0x61, 0x74, 0x20, 0x64, 0x6f, 0x20, 0x79, 0x61, 0x20,
      0x77, 0x61, 0x6e, 0x74] ++ [0x20, 0x66, 0x6f, 0x72, 0x20, 0x6e, 0x6f, 0x74, 0x68, 0x69, 0x6e, 0x67, 0x3f]) =
    be 32 0x5bdcc146bf60754e6a042426089575c75a003f089d2739839dec58b964ec3843 := by decide +kernel

/-- CRC-32C of "123456789", the check value of the polynomial. -/
theorem test_crc32c : crc32c [0x31, 0x32, 0x33, 0x34, 0x35, 0x36, 0x37, 0x38, 0x39] = 0xE3069283#32 := by decide +kernel

/-! ### Requests that have their turn -/

theorem test_turn_service : ∀ r ∈ ([(0x00, 1, 0, false), (0x01, 1, 16, false), (0x02, 1, 36, false), (0x03, 1, 0, false),
      (0x04, 1, 1, false), (0x05, 1, 12, false), (0x06, 1, 4, false), (0x07, 1, 16, false), (0x08, 1, 4, true),
      (0x08, 1, 4, false), (0x09, 1, 1, false), (0x10, 4, 8, false), (0x11, 4, 4, false), (0x12, 4, 4, false),
      (0x13, 8, 0, false), (0x14, 8, 4, false), (0x15, 8, 4, false), (0x16, 4, 12, false), (0x17, 4, 0, false),
      (0x22, 8, 4, false), (0x23, 8, 0, false), (0x24, 8, 12, true), (0x25, 8, 4, true), (0x26, 8, 4, false)] ++
    [(0x26, 16, 4, false), (0x28, 16, 12, false), (0x29, 16, 0, false), (0x2B, 4, 0, false), (0x36, 1, 12, false),
      (0x37, 64, 0, false), (0x40, 8, 4, false), (0x40, 1, 4, false), (0x43, 1, 4, true), (0x43, 1, 4, false),
      (0x44, 1, 36, true), (0x45, 1, 0, false), (0x50, 1, 0, false), (0x51, 1, 4, true), (0x51, 1, 4, false),
      (0x52, 1, 36, true), (0x52, 1, 36, false), (0x53, 1, 44, true), (0x53, 1, 44, false), (0x54, 1, 0, false)] ++
    [(0x61, 64, 0, false), (0x62, 64, 4, false), (0x63, 1, 8, false), (0x64, 1, 8, false), (0x66, 64, 4, true),
      (0x70, 1, 8, false), (0x71, 1, 4, false), (0x72, 1, 4, false), (0x73, 1, 0, false), (0x74, 1, 0, false),
      (0x75, 1, 32, false), (0x76, 1, 8, true), (0x76, 1, 8, false), (0x80, 1, 8, false), (0x82, 1, 0, false),
      (0x84, 1, 0, false), (0x85, 1, 0, false)] : List (Nat × Nat × Nat × Bool)),
    hasTurn svc (hd r.2.2.1) r.1 r.2.1 r.2.2.1 r.2.2.2 := by
  unfold hasTurn turnAtOnce passes; decide +kernel

theorem test_turn_commission : ∀ r ∈ ([(0x02, 1, 36, false), (0x20, 8, 12, false), (0x21, 8, 4, false), (0x24, 8, 12, false),
      (0x25, 8, 4, false), (0x2A, 4, 0, false), (0x30, 64, 40, false), (0x31, 64, 204, false), (0x32, 1, 12, false),
      (0x33, 64, 24, false), (0x34, 1, 4, false), (0x35, 1, 28, false)] ++ [(0x41, 1, 4, false), (0x42, 1, 12, false),
      (0x60, 64, 12, false), (0x65, 64, 0, false), (0x66, 64, 0, false), (0x81, 1, 8, false), (0x83, 1, 4, false),
      (0x86, 1, 100, true), (0x86, 1, 100, false)] : List (Nat × Nat × Nat × Bool)),
    hasTurn com (hd r.2.2.1) r.1 r.2.1 r.2.2.1 r.2.2.2 := by
  unfold hasTurn turnAtOnce passes; decide +kernel

theorem test_turn_lockout : hasTurn lck (hd 36) 0x44 1 36 false ∧ hasTurn lck (hd 36) 0x02 1 36 false := by
  unfold hasTurn turnAtOnce passes; decide +kernel

/-! ### Requests that wait, are discarded or refused -/

/-- One request outstanding, whose reply waits for a commit. -/
def busy : State := { svc with host := { svc.host with
  port := { waiting := [(7, 0)] }, waiting := [.ready { hdr := hd 0, opcode := 0, payload := [], epoch := 0 }] } }
/-- The window is full. -/
def full : State := { svc with host := { svc.host with port := { waiting := (List.range 16).map (fun n => (BitVec.ofNat 16 n, 0)) } } }
/-- The request with sequence 1 is outstanding. -/
def seqOut : State := { svc with host := { svc.host with port := { waiting := [(1, 9)] } } }

theorem test_RequestsWaitTheirTurn : hostOf (.ping (hd 0) false) = some ⟨hd 0, 0x00, 4, actPing (hd 0) false⟩
    ∧ Instr.wellFormed (.ping (hd 0) false) = true ∧ busy.chanUp .port = true ∧ (busy.chan .port).waiting.length < 16
    ∧ ((busy.chan .port).waiting.any (fun w => w.1 == (hd 0).seq)) = false
    ∧ (busy.host.replay.any (fun e => e.1 == (hd 0).seq && e.2.1 == (hd 0).crc)) = false ∧ busy.host.waiting ≠ [] := by
  refine ⟨rfl, ?_⟩; decide +kernel

theorem test_FullWindowDiscards : hostOf (.ping (hd 0) false) = some ⟨hd 0, 0x00, 4, actPing (hd 0) false⟩
    ∧ full.chanUp .port = true ∧ (full.chan .port).waiting.length = 16 := by refine ⟨rfl, ?_⟩; decide +kernel

theorem test_FlagsRefused : turnAtOnce svc { hd 0 with flags := 1 } ∧ ({ hd 0 with flags := 1 } : Hdr).flags ≠ 0 := by
  unfold turnAtOnce; decide +kernel

theorem test_OutstandingSequenceRefused : seqOut.chanUp .port = true ∧ (seqOut.chan .port).waiting.length < 16
    ∧ (seqOut.chan .port).waiting.contains (1, 9) = true ∧ (seqOut.chan .port).waiting.contains (1, 0) = false
    ∧ ((seqOut.chan .port).waiting.any (fun w => w.1 == (hd 0).seq)) = true ∧ seqOut.hostBusy = false
    ∧ seqOut.host.waiting = [] := by decide +kernel

theorem test_PacketsWithoutRowAnswered : turnAtOnce svc (hd 0) ∧ findOp 0xFF = none := by unfold turnAtOnce; decide +kernel

/-- A reply of 16 bytes stands at the head of the port's queue. -/
def queued : State := { svc with host := { svc.host with
  asm := [0xE7], port := { waiting := [(1, 0)], out := [replyPkt (hd 0) 0 [0, 0, 0, 0]] } } }

theorem test_HostPortTransactions : svc.chanUp .port = true ∧ svc.host.port.out = [] ∧ svc.host.asm = []
    ∧ queued.chanUp .port = true ∧ queued.host.port.out = [replyPkt (hd 0) 0 [0, 0, 0, 0]]
    ∧ packetLen (replyPkt (hd 0) 0 [0, 0, 0, 0]) = 16 ∧ queued.host.port.dropped = 0 ∧ queued.host.asm ≠ []
    ∧ Instr.wellFormed (.hqWrite [0xE7, 0, 0]) = true ∧ ([0xE7, 0, 0] : Bytes).head? = some 0xE7#8 := by decide +kernel

theorem test_WrongModeRefused : turnAtOnce dor (hd 0) = False ∧ turnAtOnce svc (hd 4)
    ∧ (∀ e, findOp 0x41 = some e → svc.passive = false ∧ e.entry svc.mode = .no)
    ∧ turnAtOnce sha (hd 4) ∧ (∀ e, findOp 0x22 = some e → sha.passive = false ∧ e.entry sha.mode = .na)
    ∧ turnAtOnce (heard com 1) (hd 4) ∧ (heard com 1).passive = true
    ∧ (∀ e, findOp 0x22 = some e → passiveAnswers e true = false ∧ passiveAnswers e false = false)
    ∧ (findOp 0x41).isSome = true ∧ (findOp 0x22).isSome = true := by
  have d : turnAtOnce dor (hd 0) = False := by simp [turnAtOnce, State.chanUp, State.running, dor, at_, hd]
  refine ⟨d, ?_⟩
  unfold turnAtOnce
  decide +kernel

theorem test_OtherInstanceRefused : (findKey 0xA001).isSome = true
    ∧ (∀ r, findKey 0xA001 = some r → r.insts = 1) ∧ svc.params.commit = none ∧ safetyKey 0xA001 = false
    ∧ (0xFF#8) ≠ 0 ∧ (2#8).toNat ≤ 2 := by
  decide +kernel

theorem test_ParamReadValues : (∀ r, findKey 0x2101 = some r → r.ro = false ∧ r.insts = 64) ∧ safetyKey 0x2101 = false
    ∧ (findKey 0x2101).isSome = true ∧ (findKey 0x6001).isSome = true
    ∧ (∀ r, findKey 0x6001 = some r → r.ro = false) ∧ safetyKey 0x6001 = true
    ∧ (keyRows.find? (fun r => r.ro)).isSome = true := by decide +kernel

/-! ### A device with one car -/

/-- A policy of three tables: car 0 in group 0 serves landings 0 and 1 at the front. -/
def pol : Bytes :=
  le 2 3 ++ le 2 0 ++ (le 2 1 ++ le 2 1 ++ le 4 40 ++ le 4 64) ++ (le 2 2 ++ le 2 1 ++ le 4 104 ++ le 4 72)
    ++ (le 2 4 ++ le 2 1 ++ le 4 176 ++ le 4 4) ++ zeros 64 ++ (le 2 1 ++ le 2 0 ++ zeros 4 ++ le 1 3 ++ zeros 63) ++ zeros 4

/-- Motor channel 0 and loop 0 are car 0's, landings 0 and 1 stand at 0 and 3 m, the car is at landing 0, at rest. -/
def oneCar (s : State) : State :=
  let s := keys s [(0x1100, 0, 0), (0x2100, 0, 1), (0x2101, 0, 0), (0x2109, 0, 0x700), (0x210A, 0, 0x100),
    (0x3300, 0, 0), (0x3301, 0, 3000000), (0x4001, 0, 1), (0x5001, 0, 0)]
  let s := s.modImgSlot 4 (fun _ => { state := 4, data := zeros 160 ++ pol })
  (s.modEnc 0 (fun e => { e with standstill := true, valid := true })).modCarFb 0 (fun k => { k with anchored := true })

def comCar : State := oneCar com
def svcCar : State := oneCar svc

/-- A service key, an outstanding challenge, and its right token. -/
def chal (s : State) : State := { s with img := { s.img with
  keysLoaded := true, keys := [(3, be 32 1)], auth := { bytes := some (zeros 4) } } }
def token (suffix : Bytes) : Bytes := hmac (be 32 1) (zeros 4 ++ suffix)

theorem test_policy : policyOk comCar pol = true ∧ comCar.landings 0 = [0, 1] ∧ comCar.atLanding 0 0 = true
    ∧ comCar.atLanding 0 1 = false := by decide +kernel

theorem test_token : (token [0x02]).length = 32 ∧ zeroToken (token [0x02]) = false
    ∧ tokenOk (takenOn (chal svc) (hd 36)) (chal svc).img.auth [0x02] (token [0x02]) = true
    ∧ tokenOk (takenOn (chal svc) (hd 36)) (chal svc).img.auth [0x44] (token [0x02]) = false := by decide +kernel

/-! ### Requests with an effect -/

def staging : State := { com with params := { com.params with staged := { vals := [(kix 0x2002 0, 9)] } } }
/-- A staged value beyond its range. -/
def stagingBad : State := { com with params := { com.params with staged := { vals := [(kix 0x2002 0, 0)] } } }

theorem test_DeviceRequestsServed : (checkEntries (takenOn svc (hd 16)) [(0x2002, 0, 9)] 0).isRight = true
    ∧ svc.params.commit = none ∧ hasTurn svc (hd 16) 0x07 1 16 false
    ∧ (changedKeys staging.params == [] && changedMaps staging.params == []) = false
    ∧ firstRefusal (commitRefusals (takenOn staging (hd 4))) = none ∧ mapRefused (takenOn staging (hd 4)) = false
    ∧ hasTurn staging (hd 4) 0x08 1 4 false ∧ staging.params.commit = none ∧ staging.pair.hand = 0
    ∧ staging.pair.incoming = false ∧ staging.pair.yielding = false := by
  unfold hasTurn turnAtOnce passes; and_intros <;> decide +kernel

theorem firstRefusal_cons {e : Nat × Nat × Nat} {es : Refused} : (firstRefusal (e :: es)).isSome = true := by
  unfold firstRefusal
  split
  · split <;> rfl
  · rfl

theorem firstRefusal_some {l : Refused} (h : l.isEmpty = false) : (firstRefusal l).isSome = true := by
  cases l with
  | nil => cases h
  | cons e es => exact firstRefusal_cons

theorem test_RefusedCommitKeepsStaging : (firstRefusal (commitRefusals (takenOn stagingBad (hd 4)))).isSome = true
    ∧ (changedKeys stagingBad.params == [] && changedMaps stagingBad.params == []) = false
    ∧ hasTurn stagingBad (hd 4) 0x08 1 4 false ∧ stagingBad.params.commit = none ∧ stagingBad.pair.hand = 0
    ∧ stagingBad.pair.incoming = false ∧ stagingBad.pair.yielding = false := by
  refine ⟨firstRefusal_some (by decide +kernel), ?_⟩
  unfold hasTurn turnAtOnce passes; and_intros <;> decide +kernel

theorem test_ModeRequestsServed : hasTurn com (hd 36) 0x02 1 36 false
    ∧ (match toService (takenOn com (hd 36)) with | .now m => m == .service | _ => false) = true
    ∧ com.transition = none ∧ (heard com 1).mode = .commission ∧ (heard com 1).partnerRole = 1
    ∧ hasTurn (heard com 1) (hd 36) 0x02 1 36 false ∧ com.anyOutOn = false ∧ hasTurn lck (hd 36) 0x02 1 36 false
    ∧ lck.anyOutOn = false ∧ lck.transition = none
    ∧ (match toCommission (takenOn (chal svc) (hd 36)) with | .now m => m == .commission | _ => false) = true
    ∧ hasTurn (chal svc) (hd 36) 0x02 1 36 false := by
  unfold hasTurn turnAtOnce passes; and_intros <;> decide +kernel

def cursor0 : State := svc.modCursor 0 (fun _ => { isOpen := true })
def clrChal : State := { chal svc with log := { svc.log with clearCh := { bytes := some (zeros 4) } } }
def clrChalF : State := { clrChal with log := { clrChal.log with flushing := some 0 } }

theorem test_RecorderRequestsServed : freeCursor svc = some 0 ∧ (cursor0.cursor 0).isOpen = true
    ∧ hasTurn cursor0 (hd 4) 0x71 1 4 false ∧ hasTurn cursor0 (hd 4) 0x72 1 4 false
    ∧ svc.log.clearCh.blockedUntil ≤ svc.opTime
    ∧ (token [0x75]).length = 32 ∧ zeroToken (token [0x75]) = false
    ∧ tokenOk (takenOn clrChal (hd 32)) clrChal.log.clearCh [0x75] (token [0x75]) = true
    ∧ hasTurn clrChal (hd 32) 0x75 1 32 false ∧ clrChal.log.flushing = none
    ∧ tokenOk (takenOn clrChalF (hd 32)) clrChalF.log.clearCh [0x75] (token [0x75]) = true
    ∧ hasTurn clrChalF (hd 32) 0x75 1 32 false ∧ clrChalF.log.flushing ≠ none
    ∧ svc.ratesPending.length < 256 := by
  unfold hasTurn turnAtOnce passes; and_intros <;> decide +kernel

def marked (t : Nat) : State := { svc with opTime := 16, log := { svc.log with lastMark := some (5, t) } }

theorem test_TimeMarkAdmitsOneRecord : hasTurn (marked 1) (hd 12) 0x05 1 12 false ∧ (marked 1).opTime < 1 + 16
    ∧ (marked 1).log.lastMark = some (5, 1) ∧ hasTurn (marked 0) (hd 12) 0x05 1 12 false
    ∧ (marked 0).log.buffer.length + 1 < 1024 ∧ 0 + 16 ≤ (marked 0).opTime := by
  unfold hasTurn turnAtOnce passes; and_intros <;> decide +kernel

def call0 : Call := { newCall 0 0 3 0xFF 0xFF 0 0 0xFF 0 with id := 7 }
def called : State := svcCar.putCall call0
/-- A destination call from landing 0 to landing 1. -/
def destCall : Call := { newCall 2 0 0 1 0xFF 2 0 0xFF 0 with notify := [(.port, 1)] }

theorem test_DispatchRequestsServed : mergeTarget svcCar { newCall 0 0 3 0xFF 0xFF 0 0 0xFF 0 with notify := [(.port, 1)] } = none
    ∧ svcCar.liveCalls < 4096 ∧ svcCar.freeId = some 0 ∧ svcCar.call? 0 = none ∧ hasTurn svcCar (hd 8) 0x10 4 8 false
    ∧ called.heldCall? 7 = some call0 ∧ call0.group = (hd 4).inst.toNat ∧ hasTurn called (hd 4) 0x11 4 4 false
    ∧ firstFail (callFields 2 0 1 0xFF 2 0 0xFF 0) = none ∧ namedRefusal (takenOn svcCar (hd 8)) destCall = none
    ∧ (enterCall (takenOn svcCar (hd 8)) destCall).2.isLeft = true
    ∧ svcCar.configured 0 = true ∧ hasTurn svcCar (hd 4) 0x14 8 4 false ∧ hasTurn svcCar (hd 4) 0x15 8 4 false
    ∧ hasTurn svcCar (hd 12) 0x16 4 12 false := by
  unfold hasTurn turnAtOnce passes; and_intros <;> decide +kernel

/-! ### Requests: motion, loops, safety, pair, links and images -/

theorem test_HoistRequestsServed : comCar.mode = .commission ∧ comCar.startable 0 = true ∧ (comCar.hoist 0).stopClass = none
    ∧ (comCar.hoist 0).stopReq = none ∧ hoistTaken comCar 0 = false ∧ (comCar.hoist 0).phase = .idle
    ∧ hasTurn comCar (hd 12) 0x20 8 12 false ∧ hasTurn comCar (hd 4) 0x21 8 4 false ∧ hasTurn comCar (hd 4) 0x22 8 4 false
    ∧ comCar.fusedOk 0 = true ∧ comCar.standstill 0 = true ∧ (comCar.hoist 0).waiting = false
    ∧ ((List.replicate 8 (0xFF : U8)).map (·.toNat)).drop 0 = List.replicate 8 0xFF
    ∧ hasTurn comCar (hd 12) 0x24 8 12 false ∧ comCar.atSomeLanding 0 = true ∧ comCar.doorsLocked 1 = true
    ∧ comCar.torqueLoop 0 = some 0 ∧ hasTurn comCar (hd 4) 0x25 8 4 false
    ∧ testTorque (comCar.latch' .nextBrakeTest (some 0)) 0 ≤ (torqueBank comCar 0 (comCar.loop 0).active).uMax := by
  unfold hasTurn turnAtOnce passes; and_intros <;> decide +kernel

def learning : State := comCar.modHoist 0 (fun x => { x with learn := { state := 1 } })
/-- The front door of car 0 is closed and locked, with its table. -/
def doorCom : State := comCar.modDoor 0 (fun x => { x with state := .closedLocked, tableOk := true, referenced := true })
def doorOpen : State := doorCom.modDoor 0 (fun x => { x with state := .opened })

def jogSvc : State := (keys svcCar [(0x3034, 0, 1)]).modDcar 0 (fun d => { d with regime := .inspection })

theorem test_jog : jogBusy comCar 0 = false ∧ jogBusy jogSvc 0 = false ∧ jogSvc.startable 0 = true
    ∧ (jogSvc.dcar 0).regime = .inspection ∧ jogSvc.par 0x3034 0 = 1 ∧ hasTurn jogSvc (hd 4) 0x21 8 4 false := by
  unfold hasTurn turnAtOnce passes; and_intros <;> decide +kernel

theorem test_HoistRequestsServed_more : (learning.hoist 0).learn.state = 1 ∧ hasTurn learning (hd 12) 0x24 8 12 false
    ∧ doorCom.doorsLocked 0 = true := by unfold hasTurn turnAtOnce passes; and_intros <;> decide +kernel

/-- Car 0 stands levelled in its door zone. -/
def doorLevel : State := (safe doorCom [(0x6100, 0, 5), (0x6101, 0, 0)]).modSafIn 0 (fun _ =>
  { aa := { level := true }, ab := { level := true }, ba := { level := true }, bb := { level := true } })
  |>.modHoist 0 (fun x => { x with levelled := true, lastLanding := 0 })

theorem test_DoorRequestsServed : doorHostOk doorCom (doorCar 0) = true ∧ doorCom.doorPresent 0 = true
    ∧ operatorReason doorCom 0 = 0 ∧ hasTurn doorCom (hd 12) 0x28 16 12 false ∧ (doorCom.door 0).referenced = true
    ∧ doorHostOk doorLevel 0 = true ∧ (0#32).toNat ≤ doorLevel.parN 0x4006 0 ∧ (doorLevel.door 0).referenced = true
    ∧ openReason (takenOn doorLevel (hd 12)) 0 = 0 ∧ hasTurn doorLevel (hd 12) 0x28 16 12 false
    ∧ (doorOpen.door 0).state = .opened ∧ operatorReason doorOpen 0 = 0 ∧ hasTurn doorOpen (hd 12) 0x28 16 12 false
    ∧ (doorLevel.door 0).state ≠ .opened ∧ operatorReason doorLevel 0 = 0 ∧ doorLevel.doorPresent 0 = true
    ∧ movingState (doorCom.door 0).state = false := by
  unfold hasTurn turnAtOnce passes; and_intros <;> decide +kernel

def cfg : LoopCfg := { role := 0, owner := 0xFF, rate := 1, phase := 0xFF, format := 0, sections := 1, awMode := 1, refSrc := 0
                       fbSrc := 0, ffSrc := 0, outDst := 0, errFs := 1000, errWrap := 0, deadband := 0, ffFs := 1000
                       outFs := 1000, shadowTol := 16 }
def sec0 : SecWire := ⟨0x1000, 0, 0, 0, 0, 0, 0⟩
def secs0 : List SecWire := sec0 :: List.replicate 15 ⟨0, 0, 0, 0, 0, 0, 0⟩

theorem test_LoopRequestsServed : (checkEntries (takenOn com (hd 40)) (cfgEntries 0 cfg) 0).isRight = true
    ∧ hasTurn com (hd 40) 0x30 64 40 false ∧ secs0.length = 16
    ∧ (secs0.take 1).all (fun w => w.flags.toNat ≤ 1 && w.cshift.toNat ≤ 3) = true ∧ (secs0.drop 1).all zeroSec = true
    ∧ com.loops.swap = none ∧ com.loopSections 0 = 1 ∧ (((secs0.take 1).map secOf).any unstable) = false
    ∧ hasTurn com (hd 204) 0x31 64 204 false ∧ com.pair.hand = 0 ∧ hasTurn com (hd 12) 0x32 1 12 false
    ∧ ((List.range 64).any (fun l => bitAt 1 l && (com.loop l).running)) = false := by
  unfold hasTurn turnAtOnce passes; and_intros <;> decide +kernel

theorem test_injectFits : injectFits 4000 0 100 7 1 0 0 ∧ injectFits 4000 1 100 100 1000000 2 0x10001 ∧ injectFits 4000 2 100 100 1000000 0 1
    ∧ ¬injectFits 4000 0 0 7 1 0 0 := by
  refine ⟨?_, ?_, ?_, ?_⟩ <;> simp only [injectFits] <;> decide

theorem test_InjectionAndCapture : com.injAllowed 0 = true ∧ com.loopHeld 0 = true ∧ (com.modLoop 0 (fun k => { k with running := true })).loopHeld 0 = false
    ∧ hasTurn (com.modLoop 0 (fun k => { k with running := true })) (hd 24) 0x33 64 24 false ∧ (com.inj 0).busy = false
    ∧ com.loopCar 0 = none ∧ hasTurn com (hd 4) 0x34 1 4 false ∧ hasTurn com (hd 28) 0x35 1 28 false
    ∧ com.proving.noCapture = false ∧ com.cap.state = 0
    ∧ ([0, 0, 0, 0x3F17] : List U16).all (fun n => n.toNat / 256 ≤ 63 && n.toNat % 256 ≤ 23) = true := by
  unfold hasTurn turnAtOnce passes; and_intros <;> decide +kernel

/-- The body of an empty safety set. -/
def setBody : Bytes := le 4 9 ++ le 2 0 ++ le 2 0
def set9 : SafetySet := { number := 9, entries := [], digest := sha256 setBody }
def setLoaded : State := com.modImgSlot (slotKey 3 0) (fun _ => { state := 3, data := zeros 160 ++ setBody })
def setStaged : State := { setLoaded with saf := { setLoaded.saf with staged := some (set9, 0, 0), confirmedAt := some 0 } }
def tripped : State := com.modCarSaf 0 (fun k => { k with trip := true, brakeA := { reached := true }, brakeB := { reached := true } })
def armed : State := { tripped with saf := { tripped.saf with tripWin := { state := 1, cars := 1 } } }

theorem test_SafetyRequestsServed : (setLoaded.imgSlot (slotKey 3 0)).state = 3
    ∧ (parseSet ((setLoaded.imgSlot (slotKey 3 0)).data.drop 160)).isRight = true ∧ hasTurn setLoaded (hd 4) 0x41 1 4 false
    ∧ setStaged.saf.staged = some (set9, 0, 0) ∧ (set9.digest.take 6).length = 6
    ∧ confirmReason setStaged 9 (set9.digest.take 6) = 0 ∧ hasTurn setStaged (hd 12) 0x42 1 12 false
    ∧ tripped.saf.tripWin.state = 0 ∧ (tripped.carSaf 0).trip = true ∧ blockedCar tripped 0 = false
    ∧ hasTurn tripped (hd 4) 0x43 1 4 false ∧ armed.saf.tripWin.state = 1 ∧ hasTurn armed (hd 4) 0x43 1 4 false
    ∧ (com.carSaf 0).trip = false ∧ hasTurn com (hd 4) 0x43 1 4 false := by
  unfold hasTurn turnAtOnce passes; and_intros <;> decide +kernel

theorem test_LockoutResetArm : (token [0x44]).length = 32 ∧ zeroToken (token [0x44]) = false
    ∧ tokenOk (takenOn (chal lck) (hd 36)) (chal lck).img.auth [0x44] (token [0x44]) = true
    ∧ outs32.all (fun o => legsOpen ((chal lck).out o)) = true ∧ (chal lck).img.tap = 15
    ∧ (chal lck).saf.lockWin.state = 0 ∧ hasTurn (chal lck) (hd 36) 0x44 1 36 false := by
  unfold hasTurn turnAtOnce passes; and_intros <;> decide +kernel

def unit9 : TwinId := { unit := 9, baseDigest := [], policyDigest := [], mirrorFormat := 0, set := 0, tadpole := none }
def stepping : State := { heard svc 0 with pair := { (heard svc 0).pair with
  paired := true, inStep := true, partnerHealth := some {}, twin := some unit9 } }
def unpaired : State := { heard (chal svc) 7 with pair := { (heard (chal svc) 7).pair with twin := some unit9 } }

/-- A two-phase table with all entries 20,000. -/
theorem flat_getD (n i : Nat) (h : i < n) : (List.replicate n (20000 : Int)).toArray.getD i 0 = 20000 := by
  simp [Array.getD, h]

theorem test_flat_table : tableOkR132 2 (List.replicate 1024 20000) = true := by
  have h : ∀ i, (List.replicate 1024 (20000 : Int)).toArray.getD (i % tableLen 2) 0 = 20000 :=
    fun i => flat_getD 1024 _ (Nat.mod_lt i (by decide))
  unfold tableOkR132
  simp only [h]
  simp

theorem test_DoorTableWrite : com.slotPhases 0 = 2 ∧ tableLen 2 = 1024 ∧ (List.replicate 1024 (20000 : U16)).length = 1024
    ∧ ((List.replicate 1024 (20000 : U16)).map (fun e => e.toInt)) = List.replicate 1024 20000
    ∧ hasTurn com (hd 2052) 0x2A 4 2052 false := by
  refine ⟨by decide +kernel, by decide, List.length_replicate, by rw [List.map_replicate]; rfl, ?_⟩
  unfold hasTurn turnAtOnce passes; and_intros <;> decide +kernel

theorem test_PairRequestsServed : stepping.pair.hand = 0 ∧ stepping.pair.yielding = false ∧ stepping.params.commit = none
    ∧ handRefused stepping 1 = 0 ∧ handRefused stepping 2 = 0 ∧ hasTurn stepping (hd 4) 0x51 1 4 false
    ∧ (token [0x52]).length = 32 ∧ zeroToken (token [0x52]) = false
    ∧ tokenOk (takenOn (chal svc) (hd 36)) (chal svc).img.auth [0x52] (token [0x52]) = true ∧ (chal svc).pair.hand = 0
    ∧ (chal svc).partnerRole = 0xFF ∧ hasTurn (chal svc) (hd 36) 0x52 1 36 false
    ∧ (token [0x53]).length = 32 ∧ zeroToken (token [0x53]) = false
    ∧ tokenOk (takenOn unpaired (hd 44)) unpaired.img.auth [0x53] (token [0x53]) = true ∧ admitRefused unpaired 9 = 0
    ∧ hasTurn unpaired (hd 44) 0x53 1 44 false := by
  unfold hasTurn turnAtOnce passes; and_intros <;> decide +kernel

theorem test_TripResetRefused : turnAtOnce armed (hd 4) ∧ armed.saf.tripWin.state = 1 ∧ hasTurn armed (hd 4) 0x43 1 4 false
    ∧ ∃ c, c < 8 ∧ bitAt 1 c = true ∧ ((com.carSaf c).trip = false ∨ blockedCar com c = true) := by
  refine ⟨?_, ?_, ?_, ⟨0, by decide, by decide, .inl (by decide +kernel)⟩⟩
  · unfold turnAtOnce; decide +kernel
  · decide +kernel
  · unfold hasTurn turnAtOnce passes; decide +kernel

/-- Port 0 is a ring of its own with node 1, whose input point 0 and output point 1 are mapped. -/
def ring (s : State) : State :=
  let e : MapEntry := { point := 0, dir := 1, offset := 0, bit := 0, width := 1, pflags := 0, filter := 1, maxActive := 1
                        rangeMin := 0, rangeMax := 1, rest := 0 }
  let s := keys s [(0x8001, 0, 1), (0x8004, 0, 0xFF)]
  let s := { s with params := { s.params with committed := { s.params.committed with maps := [(nodeKey 0 1,
    { present := true, entries := [e, { e with point := 1, dir := 2 }] })] } } }
  (s.modPort 0 (fun q => { q with map := [1], counted := 5, cycle := 5 })).modNode 0 1 (fun n => { n with state := 0, lastGood := 4 })

theorem test_LinkRequestsServed :
    (checkEntries (takenOn com (hd 12)) (portEntries 0 0 0 1 0xFF 0xFF 0 200 0 0 1000) 0).isRight = true
    ∧ hasTurn com (hd 12) 0x60 64 12 false ∧ ownedOutput (ring com) 65 = false ∧ ((ring com).pointEntry 65 2).isSome = true
    ∧ ((ring com).pointEntry 64 1).isSome = true ∧ (ring com).mode = .commission ∧ hasTurn (ring com) (hd 8) 0x64 1 8 false
    ∧ ([zeros 16] : List Bytes).any entryUndefined = false ∧ ([zeros 16] : List Bytes).any entryBeyond = false
    ∧ hasTurn com (hd 24) 0x65 64 24 false
    ∧ ((ring com).node ((ring com).ringHead 0) 1).state = 0 ∧ ((ring com).node 0 1).profile = 0
    ∧ ((ring com).node 0 1).txState = 0 ∧ (ring com).portUse 0 = 1 ∧ (ring com).lineUsable 0 = true
    ∧ hasTurn (ring com) (hd 5) 0x66 64 5 false := by
  unfold hasTurn turnAtOnce passes; and_intros <;> decide +kernel

def loading : State := { com with img := { com.img with session := some { type := 2, slot := 1, total := 8, received := 4, data := zeros 4 } } }
def loaded : State := comCar.modImgSlot 5 (fun _ => { state := 3, data := zeros 160 ++ pol })

theorem test_ImageRequestsServed : com.activeSlot 3 ≠ some (openSlot com 3 0) ∧ com.stagedSlot ≠ some (openSlot com 3 0)
    ∧ com.img.session = none ∧ com.img.verifying = none ∧ hasTurn com (hd 8) 0x80 1 8 false
    ∧ loading.img.session = some { type := 2, slot := 1, total := 8, received := 4, data := zeros 4 }
    ∧ hasTurn loading (hd 12) 0x81 1 12 false ∧ hasTurn loading (hd 0) 0x82 1 0 false
    ∧ loaded.pair.hand = 0 ∧ loaded.params.commit = none ∧ (loaded.imgSlot (slotKey 2 1)).state = 3
    ∧ policyOk loaded ((loaded.imgSlot (slotKey 2 1)).data.drop 160) = true ∧ loaded.mode = .commission
    ∧ cars8.all loaded.standstill = true ∧ cars8.any (fun c => (loaded.hoist c).learn.state == 1 || (loaded.hoist c).bt.state == 1) = false
    ∧ hasTurn loaded (hd 4) 0x83 1 4 false ∧ com.img.auth.blockedUntil ≤ com.opTime ∧ hasTurn com (hd 0) 0x85 1 0 false
    ∧ keyValid 3 (be 32 1 ++ zeros 32) = true ∧ (takenOn com (hd 100)).pubKey 3 = [] ∧ com.saf.staged = none
    ∧ com.saf.enrolWin.state = 0 ∧ hasTurn com (hd 100) 0x86 1 100 false := by
  unfold hasTurn turnAtOnce passes; and_intros <;> decide +kernel

/-! ### Rules of requests -/

/-- The first of two packets waits to be read. -/
theorem test_HqReadTakesWholePackets : queued.chanUp .port = true ∧ queued.host.port.out ≠ []
    ∧ packetLen (replyPkt (hd 0) 0 [0, 0, 0, 0]) = 16 ∧ svc.host.port.out = [] ∧ svc.chanUp .port = true := by decide +kernel

/-- Point 64 of `ring` in each quality of R346: its node joined, lost and never joined. -/
def ptAt (p : Point) : State := (ring com).modPoint 64 (fun _ => p)

theorem test_PointQualityOrder : (ptAt { forced := some 1, stuck := true }).pointQuality 64 = 4
    ∧ ((ptAt { stuck := true }).modNode 0 1 (fun n => { n with state := 2 })).nodeState 0 1 = 2
    ∧ (ptAt { stuck := true, accepted := true }).pointQuality 64 = 5
    ∧ (ptAt { range := true, accepted := true }).pointQuality 64 = 2
    ∧ (ptAt { accepted := false }).pointQuality 64 = 1 ∧ (ptAt { accepted := true }).pointQuality 64 = 0 := by decide +kernel

/-- Car 0's front side has a door contact and a landing door lock, both permissive. -/
def locked : State := forEach [0, 1] (fun s i => s.modSafIn i (fun _ =>
    { aa := { level := true }, ab := { level := true }, ba := { level := true }, bb := { level := true } }))
  (safe com [(0x6100, 0, 3), (0x6101, 0, 0), (0x6102, 0, 0), (0x6100, 1, 4), (0x6101, 1, 0), (0x6102, 1, 0)])

theorem test_SidesClosedAndLocked : locked.sideLocked 0 0 = true ∧ locked.sideLocked 0 1 = false
    ∧ (locked.modSafIn 1 (fun q => { q with ab := {} })).sideLocked 0 0 = false := by decide +kernel

/-! ### Power, modes and proving -/

def wf : State := { State.reset with power := .wakeFilter }
def held : State := { State.reset with power := .inReset }
def cutA : State := com.modOut 0 (fun x => { x with want := true, hs := true, ls := true, hsfb := true, lsfb := false })

theorem test_PowerAndModeEvents : svc.power = .on ∧ svc.mode = .service ∧ ({ wf with power := .off } : State).power = .off
    ∧ wf.power = .wakeFilter ∧ wf.pins.supplies = true ∧ wf.pins.vaon = true ∧ wf.pins.rstN = true
    ∧ ({ wf with pins := { wf.pins with supplies := false } } : State).pins.supplies = false
    ∧ dor.mode = .dormant ∧ ({ dor with pins := { dor.pins with wakeWasLow := true } } : State).pins.wakeWasLow = true
    ∧ sha.mode = .shadow ∧ sha.handing = false ∧ com.mode = .commission ∧ com.anyOutOn = false ∧ cutA.anyOutOn = true
    ∧ ({ com with pins := { com.pins with wakeHeld := true, wake := false } } : State).handing = false
    ∧ ({ com with transition := some { target := .proving, chan := .port, seq := 1 } } : State).transition
        = some { target := .proving, chan := .port, seq := 1 }
    ∧ lck.mode = .lockout ∧ lck.anyOutOn = false
    ∧ ({ com with img := { com.img with baseRestart := some 1 } } : State).img.baseRestart.isSome = true := by decide +kernel

theorem test_ResetAndSupplyEvents : tblWf (dft ({} : Out)) cutA.saf.outs = true ∧ OutsCanonical cutA ∧ cutA.power = .on
    ∧ cutA.mode ≠ .dormant ∧ dor.power = .on ∧ OutsCanonical dor ∧ OutsCanonical held ∧ held.power = .inReset
    ∧ held.pins.supplies = true ∧ held.pins.vaon = true ∧ held.log.flushing = none ∧ held.pins.wake = true
    ∧ held.pins.rstN = true ∧ ({ held with log := { held.log with flushing := some 1 } } : State).log.flushing ≠ none
    ∧ (1#3 ≠ com.pins.pos) ∧ com.pins.posChanged = false ∧ (0#3 = com.pins.pos) := by unfold OutsCanonical; decide +kernel

def proving0 : State := { State.reset with pins := { State.reset.pins with wake := false } }
def lastUnit : State := (List.range 20).foldl (fun s u => s.modUnit u (fun _ => { result := 0 })) State.reset

theorem test_ProvingEvents : State.reset.power = .on ∧ State.reset.mode = .proving ∧ State.reset.proving.running = true
    ∧ State.reset.dueUnit = some 0 ∧ proving0.pins.wake = false ∧ proving0.dueUnit = some 0
    ∧ (unitDone State.reset 0 0 [] 0).dueUnit = some 1 ∧ lastUnit.dueUnit = some 20
    ∧ (unitDone lastUnit 20 0 [] 0).dueUnit = none ∧ sha.slack.shed < 2 ∧ sha.proving.bgUnit = none
    ∧ ({ sha with proving := { sha.proving with bgUnit := some 2 } } : State).proving.bgDone < 15
    ∧ sha.proving.bgOverdue = false
    ∧ sha.proving.bgCycleStart + sha.parN 0xA002 0 * 57600 < ({ sha with opTime := 2 ^ 39 } : State).opTime
    ∧ svc.working = true ∧ svc.twinLost = false ∧ setNumber svc = 0 ∧ svc.pair.setDiffers = false
    ∧ svc.proving.tjHigh = false := by decide +kernel

/-! ### Time, feedback, loops -/

theorem test_TimeEvents : Instr.wellFormed (.sampleFrameTick []) = true ∧ svc.power = .on ∧ svc.mode ≠ .dormant
    ∧ dor.mode = .dormant ∧ svc.working = true
    ∧ ({ svc with slack := { svc.slack with evalMin := some 999 } } : State).slack.evalMin = some 999
    ∧ ({ svc with slack := { svc.slack with evalMin := some 1000 } } : State).slack.shed ≤ 1
    ∧ ({ svc with slack := { svc.slack with evalMin := some 1999, shed := 2 } } : State).slack.shed = 2
    ∧ ({ svc with slack := { svc.slack with evalMin := some 2500, shed := 1 } } : State).slack.shed = 1
    ∧ sha.power = .on ∧ sha.mode = .shadow ∧ sha.pair.alignedIn ≠ some sha.epoch
    ∧ ({ sha with pair := { sha.pair with alignedIn := some 0 } } : State).pair.alignedIn = some sha.epoch ∧ svc.slack.tbRun = 0
    ∧ ({ svc with slack := { svc.slack with tbRun := 1 } } : State).working = true
    ∧ ({ svc with slack := { svc.slack with tbRun := 2 } } : State).slack.tbRun = 2 := by decide +kernel

/-- Channel 2 is enabled, with marks that set its angle; SSI port 0 stands alone. -/
def enc2 : State := keys com [(0x1001, 2, 1), (0x1009, 2, 2)]
def enc3 : State := keys com [(0x1001, 2, 1), (0x1009, 2, 1)]

theorem test_FeedbackEvents : com.working = true ∧ Instr.wellFormed (.encoderSample [⟨0, 0, 0, [⟨390, true, false⟩]⟩]) = true
    ∧ com.suspended 0x08 = false ∧ enc3.chanLost 2 = false ∧ enc2.chanLost 2 = false ∧ com.chanLost 16 = false
    ∧ enc3.parN 0x100A 2 = 0 ∧ enc2.parN 0x100A 2 = 0 ∧ com.setCarOfSsi 0 = none ∧ enc3.suspended 0x08 = false
    ∧ enc3.parN 0x1001 2 ≠ 0 ∧ enc3.parN 0x1009 2 = 1 ∧ (enc3.enc 2).lastMark = none ∧ enc2.parN 0x1009 2 = 2
    ∧ enc2.par 0x1001 2 ≠ 0 ∧ enc2.carOfChan 2 = none ∧ com.carOfSsi 0 = none
    ∧ (ssiJudge com 0 ((4#40).toNat % 2 ^ com.parN 0x1201 0) true true).1 = true ∧ tblWf (dft {}) com.fb.ssi = true
    ∧ (heard (at_ .shadow) 1).incharge = false ∧ (heard sha 1).partnerRole = 1 ∧ (sha.ssi 0).clockAbsent = false
    ∧ sha.working = true
    ∧ ((com.modPlaus 0 (fun p => { p with anomaly := true })).plaus 0).anomaly = true := by decide +kernel

/-- Loop 3 is an auxiliary loop. -/
def auxLoop : State := keys com [(0x2100, 3, 3)]

theorem test_LoopEvents : auxLoop.loopRole 3 = 3 ∧ auxLoop.hoistRuns = true ∧ com.loopRole 0 = 0
    ∧ ((com.modInj 0 (fun k => { k with busy := true })).inj 0).busy = true
    ∧ ({ com with loops := { com.loops with cap := { timeoutMs := 5, state := 1 } } } : State).cap.state = 1
    ∧ (hoistSample com 0).hoistRuns = true ∧ (hoistSample sha 0).hoistRuns = false ∧ com.power = .on := by decide +kernel

/-! ### Hoists and doors -/

def hoistIn (f : Hoist → Hoist) : State := comCar.modHoist 0 f

theorem test_StartEvents : comCar.hoistRuns = true ∧ ((hoistIn (fun h => { h with phase := .settle })).hoist 0).phase = .settle
    ∧ dwellBlocks (hoistIn (fun h => { h with phase := .settle })) 0 = false
    ∧ dwellBlocks (hoistIn (fun h => { h with
        phase := .settle, targetPos := -1000, prevDir := 1, dwellRunning := true })) 0 = true
    ∧ ((hoistIn (fun h => { h with phase := .settle })).hoist 0).kind ≠ .brakeTest
    ∧ ((hoistIn (fun h => { h with phase := .settle, kind := .brakeTest, bt := { brakes := 3 } })).hoist 0).bt.brakes = 3
    ∧ ((hoistIn (fun h => { h with phase := .brakesLifting })).hoist 0).phase = .brakesLifting
    ∧ ((hoistIn (fun h => { h with phase := .settle, settled := true, dwellRunning := true })).hoist 0).dwellRunning = true
    ∧ ((hoistIn (fun h => { h with dwellRunning := true })).hoist 0).settled = false := by decide +kernel

theorem test_StopEvents : ((hoistIn (fun h => { h with phase := .brakesSetting })).hoist 0).stopBehind = false
    ∧ ((hoistIn (fun h => { h with phase := .emergency, stopBehind := true })).hoist 0).phase = .emergency
    ∧ (hoistIn (fun h => { h with levelled := true, lastLanding := 0 })).landingHere 0 = 0
    ∧ comCar.landingPos 0 0 ≠ unset ∧ stopped (comCar.hoist 0) = true ∧ (comCar.hoist 0).jogIgnored = 0
    ∧ ((hoistIn (fun h => { h with jogHost := true, jogIgnored := 2 })).hoist 0).jogIgnored ≠ 0
    ∧ ((hoistIn (fun h => { h with phase := .torqueHold })).hoist 0).phase = .torqueHold
    ∧ ((hoistIn (fun h => { h with phase := .torqueRamp })).hoist 0).phase = .torqueRamp
    ∧ (comCar.hoist 0).phase ≠ .torqueRamp
    ∧ (hoistIn (fun h => { h with levelled := true, lastLanding := 0, relevels := 255 })).atRest 0 = true
    ∧ (hoistIn (fun h => { h with levelled := true })).parN 0x3010 0 ≤ 255 ∧ 0 < comCar.parN 0x3010 0
    ∧ (oneCar com |>.modDoor 0 (fun x => { x with state := .closedLocked })).doorsLocked 0 = true
    ∧ ((hoistIn (fun h => { h with jogHost := true, jogDir := 1 })).hoist 0).jogDir ≠ 0
    ∧ comCar.standstill 0 = true ∧ (comCar.hoist 0).jogDir = 0
    ∧ nextTestDir { state := 1, brakes := 1, dirs := 1, dir := 1, phase := 3 } = none := by decide +kernel

theorem ne_succ (x : U32) : x + 1 ≠ x := by
  intro h
  have := congrArg BitVec.toNat h
  simp only [BitVec.toNat_add] at this
  have := x.isLt
  change (x.toNat + 1) % 2 ^ 32 = x.toNat at *
  omega

def dr (f : Door → Door) : State := doorCom.modDoor 0 f

theorem test_DoorEvents : doorCom.doorsRun 0 = true ∧ tblWf (dft {}) doorCom.motion.doors = true
    ∧ ((dr (fun x => { x with state := .awaitingLock })).door 0).state = .awaitingLock
    ∧ ((dr (fun x => { x with state := .referencing })).door 0).state = .referencing
    ∧ (doorOpen.door 0).state = .opened ∧ (doorCom.door 0).state = .closedLocked
    ∧ ((dr (fun x => { x with state := .stopped, openRetry := true })).door 0).openRetry = true
    ∧ (doorOpen.door 0).referenced = true ∧ operatorReason doorOpen 0 = 0 ∧ (doorOpen.door 0).holdOpen = false
    ∧ (keys (dr (fun x => { x with state := .opened, closeDemand := true })) [(0x4051, 0, 30)]).parN 0x4051 0 ≠ 0
    ∧ doorCom.suspended 0x0B = false
    ∧ (keys doorCom [(0x4051, 0, 0)]).parN 0x4051 0 = 0
    ∧ ((dr (fun x => { x with state := .opened, dwell := true })).door 0).dwell = true
    ∧ ((dr (fun x => { x with tableDown := true })).door 0).tableDown = true
    ∧ ((dr (fun x => { x with tableDown := true, tableTries := 1 })).door 0).tableTries ≠ 0 := by decide +kernel

/-! ### Dispatching -/

/-- Port 5 leads to pair 1, from which the latest item has sequence 3. -/
def peers : State := (keys (oneCar svc) [(0x8001, 5, 3), (0x8008, 5, 1)]).modPort 5 (fun q => { q with seen := [(2, 3)] })
def reach : State := peers.modPairView 1 (fun v => { v with inReach := true })
def waitCall : State := { called with disp := { called.disp with queue := [7] } }

/-- The table of calls is full. -/
def fullTable : State := { reach with disp := { reach.disp with calls := List.replicate 4096 call0 } }

theorem test_full_table : 4096 ≤ fullTable.liveCalls ∧ itemFrom fullTable 1 ⟨true, 0, 4⟩ 5 ∧ newItem fullTable 5 5 ⟨true, 0, 4⟩ := by
  refine ⟨?_, ?_⟩
  · have e : ((List.replicate 4096 call0).filter liveCall).length = 4096 := by
      rw [List.filter_replicate_of_pos (by decide), List.length_replicate]
    exact Nat.le_of_eq e.symm
  · unfold itemFrom newItem; and_intros <;> decide +kernel

theorem test_DispatchEvents : svc.dispatches = true ∧ svc.disp.forwarded = [] ∧ svc.disp.queue = [] ∧ svc.slack.shed = 0
    ∧ waitCall.disp.queue = [7] ∧ waitCall.call? 7 = some call0 ∧ call0.state = 0 ∧ waitCall.dispatches = true
    ∧ ({ svc with disp := { svc.disp with forwarded := [(1, call0, none)] } } : State).disp.forwarded = [(1, call0, none)]
    ∧ 1 ≤ ({ svc with slack := { svc.slack with shed := 1 } } : State).slack.shed
    ∧ (reach.pairView 1).inReach = true ∧ itemFrom reach 1 ⟨true, 0, 4⟩ 5 ∧ newItem reach 5 2 ⟨true, 0, 4⟩
    ∧ ¬newItem reach 5 2 ⟨true, 0, 3⟩ ∧ itemFrom reach 1 ⟨true, 0, 3⟩ 5 ∧ newItem reach 5 3 ⟨true, 0, 3⟩
    ∧ newItem reach 5 4 ⟨true, 0, 3⟩ ∧ newItem reach 5 5 ⟨true, 0, 3⟩ ∧ reach.liveCalls < 4096
    ∧ tget (dft 0) (reach.lport 5).sumBad 31 = 0 := by unfold itemFrom newItem; and_intros <;> decide +kernel

def rescueAsked : State := svcCar.modDcar 0 (fun d => { d with hostDemand := some .rescue })
/-- Car 0's inspection input is not permissive. -/
def inspect : State := safe svcCar [(0x6001, 0, 1), (0x6100, 0, 8), (0x6101, 0, 0)]
def upper : State := { reach with pins := { reach.pins with pos := 4 } }

theorem test_RegimeAndGroupEvents : svcCar.power = .on ∧ svcCar.incharge = true ∧ regimeWanted rescueAsked 0 = .rescue
    ∧ regimeReady rescueAsked 0 .rescue = true ∧ (rescueAsked.dcar 0).regime = .normal ∧ regimeWanted svcCar 0 = .normal
    ∧ regimeDemanded rescueAsked 0 .inspection = false ∧ regimeDemanded rescueAsked 0 .rescue = true
    ∧ upper.dispatches = true ∧ lowerPair upper = true ∧ lowerPair svc = false
    ∧ ({ svc with disp := { svc.disp with timekeeper := true } } : State).disp.timekeeper = true
    ∧ svc.disp.timekeeper = false := by decide +kernel

theorem test_inspection_wanted : regimeDemanded (svcCar.modDcar 0 (fun d => { d with hostDemand := some .inspection })) 0 .inspection
    = true := by decide +kernel

/-! ### Safety functions and outputs -/

theorem test_CarTripTurnsOutputsOff : OutsCanonical cutA ∧ tblWf (dft {}) cutA.saf.cars = true := by
  unfold OutsCanonical; decide +kernel

def enabled : State := safe { com with opTime := 2 ^ 39 } [(0x6001, 0, 1), (0x6034, 0, 24)]
def brakeTimed (on : Bool) : State := enabled.modCarSaf 0 (fun k => { k with brakeA := { energised := on, timed := true } })
def opReset : LrstOp := ⟨200, 500, 200, true, false⟩
def opConfirm : LrstOp := ⟨0, 10000, 0, true, false⟩
def opVoid : LrstOp := ⟨201, 500, 0, true, false⟩
def armedSvc : State := { svc with saf := { svc.saf with tripWin := { state := 1, cars := 1 } } }

theorem test_SafetyEvents : com.working = true ∧ safLevel (com.safIn 95) .b 1 = false ∧ enabled.safEnabled 0 = true
    ∧ (brakeSup ((brakeTimed true).carSaf 0) 0).timed = true ∧ (brakeSup ((brakeTimed true).carSaf 0) 0).energised = true
    ∧ (brakeSup ((brakeTimed false).carSaf 0) 0).energised = false ∧ enabled.sfN 0x6034 0 = 24
    ∧ (enabled.carSaf 0).btNagged = none
    ∧ min (enabled.carSaf 0).btPassA (enabled.carSaf 0).btPassB + enabled.sfN 0x6034 0 * 57600 < enabled.opTime
    ∧ setStaged.saf.staged.isSome = true ∧ armed.saf.tripWin.state = 1
    ∧ ({ com with saf := { com.saf with lockWin := { state := 1 }, enrolWin := { state := 1 } } } : State).saf.enrolWin.state = 1
    ∧ ({ com with img := { com.img with enrolKey := some (3, [], .port, 1) } } : State).img.enrolKey = some (3, [], .port, 1)
    ∧ lrstKind opVoid = .void ∧ lrstKind opReset = .reset ∧ lrstKind opConfirm = .confirm
    ∧ com.saf.tripWin.state ≠ 1 ∧ com.saf.lockWin.state ≠ 1 ∧ armedSvc.saf.tripWin.state = 1 ∧ armedSvc.mode = .service
    ∧ armedSvc.working = true ∧ (resetTrips armedSvc).saf.lockWin.state ≠ 1
    ∧ setStaged.saf.enrolWin.state ≠ 1 ∧ setStaged.working = true := by and_intros <;> decide +kernel

def onOut : State := { com with frame := 128000 }.modOut 0 (fun x => { x with want := true, hs := true, ls := true })
def tested (t : DarkTest) : State := onOut.modOut 0 (fun x => { x with test := some t })
def leaving : State := { svc with pair := { svc.pair with hand := 2 } }
def denied : State := { com with frame := 32 }.modOut 0 (fun x => { x with denied := some 0, hsfb := true, lsfb := false })

theorem test_OutputEvents : onOut.working = true ∧ (onOut.out 0).want = true ∧ (onOut.out 0).confirmed = false
    ∧ onOut.power = .on ∧ onOut.incharge = true ∧ mayTest onOut 0 0 = true ∧ slotDue onOut 0 0 = true
    ∧ slotDue onOut 0 1 = false ∧ slotDue cutA 0 0 = true ∧ mayTest cutA 0 0 = false ∧ onOut.frame % 8 = 0
    ∧ (cutA.out 0).want = true
    ∧ mayTest (onOut.modOut 0 (fun x => { x with repeatSide := some (1, 100000) })) 0 1 = true
    ∧ ((tested ⟨0, false, none, true, 0⟩).out 0).test = some ⟨0, false, none, true, 0⟩
    ∧ ((tested ⟨0, false, some true, false, 0⟩).out 0).test = some ⟨0, false, some true, false, 0⟩
    ∧ leaving.pair.hand = 2 ∧ leaving.pair.checking = false
    ∧ ({ leaving with pair := { leaving.pair with checking := true } } : State).pair.yieldSent = false
    ∧ (record ({ leaving with pair := { leaving.pair with checking := true } } : State) { code := 0x6224, sev := 1 }).pair.yieldSent = false
    ∧ ({ leaving with pair := { leaving.pair with checking := true, yieldSent := true } } : State).pair.checking = true
    ∧ denied.mode = .commission ∧ (denied.out 0).denied = some 0 ∧ 0 + 32 ≤ denied.frame ∧ (denied.out 0).hsfb = true
    ∧ (denied.out 0).lsfb = false := by and_intros <;> decide +kernel

theorem test_veto : Inv svc ∧ svc.power = .on ∧ svc.mode ≠ .dormant := by
  refine ⟨⟨.inl ⟨rfl, .inl rfl⟩, ⟨by decide, by decide, by decide⟩, by unfold OutsCanonical; decide⟩, rfl, by decide⟩

theorem test_StepIdlesOnEmptyQueue : svc.pending = [] := rfl

theorem test_EveryStepKeepsInv : Inv { svc with pending := [.hqStatus] } :=
  ⟨.inl ⟨rfl, .inl rfl⟩, ⟨by decide, by decide, by decide⟩, by unfold OutsCanonical; decide⟩

theorem test_EveryCommandCompletes : occurs (.hqWrite [0xE7]) = true ∧ occurs (.ping (hd 0) false) = true
    ∧ occurs .epochBoundary = true ∧ Part.frame ∉ changes .epochBoundary ∧ Part.latch ∉ changes (.ping (hd 0) false) := by
  decide +kernel

/-! ### The partner -/

def laneB : State := { svc with pair := { svc.pair with lanes := 1 } }
def laneNone : State := { svc with pair := { svc.pair with lanes := 0, paired := true } }
def follower : State := { sha with pair := { sha.pair with inStep := true } }
def retry : State := { follower with pair := { follower.pair with retrying := true } }
def waits : State := { sha with pair := { sha.pair with awaiting := true } }
def resync : State := { svc with pair := { svc.pair with resyncing := true } }

theorem test_TwinEvents : svc.working = true ∧ svc.pair.lanes = 3 ∧ laneB.pair.lanes = BitVec.ofNat 2 (2 ^ 0)
    ∧ laneB.pair.lanes.getLsbD 1 = false ∧ laneNone.pair.paired = true ∧ laneNone.pair.inStep = false
    ∧ laneNone.incharge = true ∧ laneNone.working = true ∧ follower.mode = .shadow ∧ follower.pair.lanes ≠ 0
    ∧ follower.pair.awaiting = false ∧ follower.pair.retrying = false ∧ retry.pair.retrying = true
    ∧ stepping.incharge = true ∧ stepping.pair.inStep = true ∧ stepping.pair.lanes ≠ 0 ∧ 0 ≤ stepping.pair.sentEpoch
    ∧ stepping.working = true ∧ svc.pair.inStep = false ∧ waits.mode = .shadow ∧ waits.pair.awaiting = true
    ∧ waits.working = true ∧ resync.mode ≠ .shadow ∧ resync.incharge = true ∧ resync.pair.resyncing = true := by decide +kernel

/-- The croak of an active on slot 1. -/
def crk : BitVec 40 := croakFrame { svc with pins := { svc.pins with pos := 1 } } none
def lane0 : State := { laneNone with pair := { laneNone.pair with crkGood := 3 } }

theorem test_CroakEvents : svc.running = true ∧ dor.running = false ∧ ({ svc with pair := { svc.pair with mute := true } } : State).ownRole = 0xFF
    ∧ croakChecks crk = true ∧ croakChecks (crk + 2) = false ∧ svc.listening = true
    ∧ ({ svc with pair := { svc.pair with lastFrame := crk } } : State).pair.lastFrame = crk ∧ svc.pins.pos.toNat = 0
    ∧ crk ≠ svc.pair.lastFrame ∧ svc.pair.mute = false ∧ ((heard svc 1).croak 1).now = true ∧ (svc.croak 1).now = false
    ∧ lane0.listening = true ∧ lane0.pair.crkGood.getLsbD 0 = true
    ∧ ({ svc with pair := { svc.pair with crkGood := 0 } } : State).pair.crkGood.getLsbD 0 = false ∧ svc.power = .on ∧ svc.incharge = true
    ∧ (record svc { code := 0x7142, sev := 1 }).pair.lanes ≠ 0 ∧ (record laneNone { code := 0x7142, sev := 1 }).pair.lanes = 0
    ∧ (heard svc 1).working = true ∧ (heard svc 1).partner.heard = true ∧ (heard svc 1).pair.lanes ≠ 0
    ∧ (heard laneNone 1).pair.lanes = 0 ∧ (heard laneNone 1).partner.heard = true ∧ svc.partner.heard = false := by decide +kernel

def claims : State := { sha with pair := { sha.pair with claiming := true } }
def waiting : State := { sha with pair := { sha.pair with settleWait := true } }
def votes (v : List (Nat × Bool)) (n : Nat) : State := { sha with pair := { sha.pair with
  arbRequest := true, arbVotes := v, arbCounted := List.range n } }

theorem test_TakeoverEvents : claims.pair.claiming = true ∧ claims.pair.arbRequest = false ∧ claims.pair.won = false
    ∧ claims.pair.claimLeft = 0 ∧ (heard claims 0).partnerRole = 0 ∧ (heard (keys claims [(0x7001, 0, 1)]) 1).partnerRole = 1
    ∧ (heard (keys claims [(0x7001, 0, 1)]) 1).com 0x7001 0 ≠ 0 ∧ sha.pair.claiming = false ∧ waiting.pair.settleWait = true
    ∧ waiting.partner.heard = false
    ∧ (requestArb { waiting with pair := { waiting.pair with settleWait := false, claiming := true, claimLeft := 1 } } 1).pair.arbCounted = []
    ∧ (heard sha 1).partner.heard = true ∧ (votes [(2, true)] 1).working = true ∧ majority (votes [(2, true)] 1) = some true
    ∧ majority (votes [(2, false)] 1) = some false ∧ majority (votes [] 1) = none
    ∧ ({ votes [] 1 with pair := { (votes [] 1).pair with arbTries := 1 } } : State).pair.arbTries ≠ 0
    ∧ sha.pair.awaiting = false ∧ sha.pair.lanes ≠ 0 ∧ laneNone.pair.lanes = 0
    ∧ ({ sha with pair := { sha.pair with yieldHeard := some 7, won := true } } : State).pair.yieldHeard = some 7
    ∧ sha.pair.yieldHeard = none ∧ sha.pair.won = false := by decide +kernel

/-! ### Memory, recorder, links, images -/

def copying : State := svc.modMem (fun m => { m with copying := [25] })
def due : State := { svc with log := { svc.log with flushDue := true } }
def dark : State := { svc with pins := { svc.pins with pfailN := false } }

theorem test_MemoryAndRecorderEvents : svc.working = true ∧ copying.mem.copying.contains 25 = true ∧ svc.mem.copying.contains 25 = false
    ∧ due.running = true ∧ due.flushable = true ∧ due.log.flushing = none
    ∧ ({ due with log := { due.log with flushing := some 0 } } : State).log.flushing ≠ none
    ∧ ({ State.reset with log := { State.reset.log with heldTrigger := true } } : State).flushable = false
    ∧ State.reset.running = true ∧ (tryRelease (endFlush due 5)).log.clearing = none
    ∧ ({ due with log := { due.log with clearing := some (hd 32), flushing := some 0 } } : State).log.flushing = some 0
    ∧ (tryRelease (endFlush { due with log := { due.log with clearing := some (hd 32), flushing := some 0 } } 5)).log.clearing = some (hd 32)
    ∧ (tryRelease (endFlush { due with log := { due.log with clearing := some (hd 32), flushing := some 0 } } 5)).log.flushing = none
    ∧ svc.pins.pfailN = true ∧ dark.pins.pfailN = false ∧ dark.pins.supplies = true ∧ dor.running = false
    ∧ tblWf (dft {}) svc.log.buckets = true := by and_intros <;> decide +kernel

def ringSvc : State := ring svc
/-- Port 1 is the host channel, port 2 an inter-pair port. -/
def hostPort1 : State := keys svc [(0x8001, 1, 2), (0x8001, 2, 3)]
def reply1 : NodeFrame := { port := 0, addr := 1, known := true, good := true, primary := true, secondary := true, ackSeq := 0
                            seq := 0, msgBytes := 0, segLast := false, data := [] }
def polled : State := keys ((keys svc [(0x8001, 0, 1), (0x8004, 0, 0xFF), (0x8002, 0, 1), (0x8003, 0, 1)]).modPort 0
  (fun q => { q with polling := some 1 })) []
def disc : Discovery := { port := 0, addr := 1, profile := 5, rev := 1, replyWords := 1, recordWords := 0, msgWords := 0, uid := 1, good := true }
/-- Ports 0 and 3 form a ring; it is broken in `ringBroken`. -/
def ringPair : State := keys svc [(0x8001, 0, 1), (0x8001, 3, 1), (0x8004, 0, 3), (0x8004, 3, 0)]
def ringBroken : State := ringPair.modPort 0 (fun q => { q with ringState := 2 })

theorem test_LinkEvents : ringSvc.hears = true ∧ ringSvc.portUse 0 = 1 ∧ ringSvc.ringHead 0 = 0 ∧ ringSvc.lineUsable 0 = true
    ∧ ringSvc.cycleDue 0 = true ∧ hostPort1.cycleDue 1 = true ∧ hostPort1.cycleDue 2 = true
    ∧ ({ hostPort1 with frame := 1 } : State).cycleDue 1 = false ∧ ringPair.cycleDue 3 = true ∧ ringPair.ringHead 3 ≠ 3
    ∧ (ringPair.modPort 0 (fun q => { q with unusable := true })).portUsable 0 = false
    ∧ (ringPair.modPort 0 (fun q => { q with unusable := true })).lineUsable 0 = true
    ∧ hostPort1.portUse 1 = 2 ∧ hostPort1.portUsable 1 = true ∧ hostPort1.portUse 2 = 3 ∧ hostPort1.driving = true
    ∧ dor.hears = false ∧ (ringSvc.lport 0).map.contains 1 = true ∧ (ringSvc.node 0 1).state = 0
    ∧ (ringSvc.node 0 1).lastGood ≠ (ringSvc.lport 0).counted ∧ (ringSvc.node 0 1).missed = false
    ∧ lengthOk (ringSvc.node 0 1) reply1 = true ∧ (ringSvc.lport 0).map.contains 2 = false
    ∧ (polled.lport 0).polling = some 1 ∧ (polled.lport 0).map.contains 1 = false
    ∧ profileFail (polled.modNode 0 1 (fun n => { n with discBad := 0 })) 0 disc = none
    ∧ scheduleOk (polled.portClass 0) (polled.com 0x8003 0).toNat (polled.com 0x8007 0).toNat
        ((polled.modNode 0 1 (fun n => { n with discBad := 0 })).mapNodes 0 ++ [{ replyWords := 1, recordWords := 0, msgWords := 0 }]) = true
    ∧ (polled.node 0 1).discBad = 0 ∧ ((polled.modNode 0 1 (fun n => { n with discBad := 1 })).node 0 1).discBad = 1
    ∧ ringPair.ringState 3 = 1 ∧ ringPair.ringHead 3 = 0 ∧ ringBroken.ringState 0 = 2 ∧ ringBroken.hears = true := by
  and_intros <;> decide +kernel

def lostOne : State := ringSvc.modNode 0 1 (fun n => { n with lastGood := 0, missed := true })
def stuckOne : State := ringSvc.modPoint 64 (fun p => { p with accepted := true, acceptedVal := 1 })

theorem test_LinkEvents_more : hostPort1.working = true
    ∧ ([0xE7, 0, 12, 0] ++ zeros 8 : Bytes).length = 12 ∧ rd ([0xE7, 0, 12, 0] ++ zeros 8) 2 2 = 12
    ∧ rd ([0xE7, 0, 11, 0] ++ zeros 8) 2 2 ≠ 12 ∧ ({ hostPort1 with host := { hostPort1.host with linkUp := true } } : State).host.linkUp = true
    ∧ (lostOne.node 0 1).state = 0 ∧ (lostOne.node 0 1).missed = true ∧ 3 ≤ nodeMisses (lostOne.lport 0) (lostOne.node 0 1)
    ∧ (stuckOne.pointEntry 64 1).isSome = true
    ∧ (∀ e, stuckOne.pointEntry 64 1 = some e → stuckOne.maxActiveOf 0 e ≠ 0 ∧ (stuckOne.point 64).acceptedVal ≠ restOf e
        ∧ bitAt e.pflags 1 = false) ∧ (stuckOne.point 64).accepted = true ∧ (stuckOne.point 64).stuck = false
    ∧ svc.pointEntry 64 1 = none := by and_intros <;> decide +kernel

/-- A policy image of eight zero bytes, signed with the key of RFC 6979, A.2.5. -/
def imgHead : Bytes := le 4 0x494D4731 ++ [2, 1, 0, 0] ++ le 4 8 ++ le 4 5 ++ le 4 3 ++ zeros 4 ++ [1] ++ zeros 7 ++ zeros 8
  ++ zeros 24 ++ be 32 0xaf5570f5a1810b7af78caf4bc70a660f0df51e42baf91d4de5b2328de0e83dfc
def imgSig : Bytes := be 32 0xefd48b2aacb6a8fd1140dd9cd45e81d69d2c877b56aaf991c34d0ea84eaf3716
  ++ be 32 0x5032409e6a44bef979b6fad58d25df9493281dbe22823073dbb2865c0df37d96
def imgKey : Bytes := be 32 0x60fed4ba255a9d31c961eb74c6356d68c049b8923b61fa6ce669622e60f29fb6
  ++ be 32 0x7903fe1008b8bc99a41ae9e95628bc64f2f1b20c2d7e9f5177a3c294d4462299
def img : Bytes := imgHead ++ imgSig ++ zeros 8
def keyed : State := { com with img := { com.img with keys := [(1, imgKey)] } }

/-- The signature is right, and nothing else is needed. -/
theorem test_image_verifies : verifyImage keyed 2 img = 0 := by decide +kernel

theorem test_image_fails : verifyImage keyed 2 (img.set 167 1) = 2 ∧ verifyImage keyed 2 (img.set 0 0) = 1
    ∧ verifyImage com 2 img = 3 ∧ verifyImage keyed 2 (imgHead ++ zeros 64 ++ zeros 8) = 4 := by decide +kernel

def verifying : State := { keyed with img := { keyed.img with verifying := some (2, 0, hd 0) } }

theorem test_ImageEvents : verifying.running = true ∧ verifying.img.verifying = some (2, 0, hd 0) ∧ img.length = rd img 8 4 + 160
    ∧ rd img 0 4 = 0x494D4731 ∧ zeroToken ((img.drop 6).take 2 ++ (img.drop 25).take 7 ++ (img.drop 40).take 24) = true
    ∧ img.length ≤ imageMax 2 ∧ rd img 22 2 = 0 ∧ rd img 24 1 + 1 = 2 ∧ keyed.pubKey 1 ≠ [] ∧ keyed.floor 2 ≤ rd img 12 4
    ∧ rd img 32 8 = 0 ∧ loading.img.session.isSome = true ∧ com.img.session = none ∧ com.running = true
    ∧ ((2#4).toNat < 3) ∧ (3 ≤ (3#4).toNat) ∧ com.img.tap = 15
    ∧ ({ com with img := { com.img with keysLoaded := false } } : State).img.keysLoaded = false ∧ com.mem.secretsLost = false
    ∧ (loseData com (.copy .secrets true)).mem.secretsLost = true := by and_intros <;> decide +kernel

theorem test_NothingHappensWithoutPower : dor.mode = .dormant ∧ occurs .epochBoundary = true ∧ stirsAsleep .epochBoundary = false
    ∧ stirsAsleep .wakeHigh = true := by decide

end Sys2Proof.Tests
end

section
/-! PROOFS. Parameter access by instance (R8): what `PARAM_READ` and `PARAM_WRITE` answer for a key that the tables
give one instance. -/

namespace Sys2Proof.Machine

section
variable {s : State} {h : Hdr}

/-! ### Replies -/

@[simp] theorem takenOn_params : (takenOn s h).params = s.params := by rw [takenOn_host]

theorem statusOf_le_append {st : Nat} {p : Bytes} (hst : st < 256) : statusOf (le 1 st ++ p) = st := by
  simp [statusOf, rd, le, ofLe, Nat.mod_eq_of_lt hst]

theorem statusOf_writeReply {st bad : Nat} (hst : st < 256) : statusOf (writeReply s st bad) = st := by
  simp only [writeReply, List.append_assoc, statusOf_le_append hst]

/-- A request that leaves the state as it is reads: its reply is held for no commit, since the request changes no
mirrored state or its reply is no success (R255). -/
theorem readsBack_of_servedBy {i : Instr} {op : Nat} {m : Bool} {e : State → State × Bytes} {p : State → Bytes}
    (hv : servedBy i h op m e s) (he : e (takenOn s h) = (takenOn s h, p (takenOn s h)))
    (hp : m = true → isSuccess (statusOf (p (takenOn s h))) = false) : readsBack i h op p s := by
  have ha : answer (takenOn s h) h op m (p (takenOn s h)) = queueReply (takenOn s h) h op (p (takenOn s h)) := by
    cases m
    · rfl
    · simp only [answer, hp rfl, Bool.and_false, Bool.false_eq_true, if_false]
  rw [servedBy, he, ha] at hv
  refine ⟨_, hv, ?_, queueReply_replied⟩
  rw [queueReply_host, takenOn_host]
  rfl

/-! ### PARAM_READ -/

/-- What `PARAM_READ` answers for a key of row `r` (R388, Table 16.7). -/
def paramReadPayload (r : KeySpec) (key : U16) (inst which : U8) (s : State) : Bytes :=
  if r.insts ≤ inst.toNat || (which == 1 && safetyKey key.toNat) then refusal 16 stBadParam
  else paramReadReply s r key.toNat inst.toNat which.toNat

theorem paramReadPayload_of_insts_le {r : KeySpec} {key : U16} {inst which : U8} (hi : r.insts ≤ inst.toNat) :
    paramReadPayload r key inst which = fun _ => refusal 16 stBadParam :=
  funext fun _ => if_pos (by simp [hi])

theorem paramReadPayload_of_lt_insts {r : KeySpec} {key : U16} {inst which : U8} (hi : inst.toNat < r.insts)
    (hn : ¬(which = 1 ∧ safetyKey key.toNat = true)) :
    paramReadPayload r key inst which = fun s => paramReadReply s r key.toNat inst.toNat which.toNat :=
  funext fun _ => if_neg (by simpa [hi] using hn)

/-- R388: a `PARAM_READ` of a key that a table has is answered with its payload and changes the host unit alone. -/
theorem paramRead_readsBack {key : U16} {inst which : U8} {r : KeySpec} (hk : findKey key.toNat = some r)
    (hw : which.toNat ≤ 2) (ht : hasTurn s h 0x06 1 4 false) :
    readsBack (.paramRead h false key inst which) h 0x06 (paramReadPayload r key inst which) s := by
  have he := exec_host (s := s) (i := .paramRead h false key inst which) rfl rfl nofun
  refine readsBack_of_servedBy (served_done he rfl rfl rfl rfl beq_iff_eq.2 (by simpa [firstFail] using hw) ht) ?_ nofun
  simp only [hk]
  exact (apply_ite (Prod.mk _) _ _ _).symm

/-! ### PARAM_WRITE -/

/-- R385, R8: a key refuses every instance that it does not have, whatever the value. -/
theorem checkEntry_of_insts_le {key inst value : Nat} {r : KeySpec} (hk : findKey key = some r) (hi : r.insts ≤ inst) :
    checkEntry s key inst value = (stBadParam, none) := by
  unfold checkEntry
  rw [hk]
  split
  · exact if_neg (Nat.not_lt.2 hi)
  · exact if_pos (.inl hi)

/-- One entry that fails its check is named by index 0, and nothing is staged. -/
theorem writeParams_singleton_of_refused {key : U16} {inst : U8} {value : U64} {st : Nat} (hc : s.params.commit = none)
    (he : checkEntry s key.toNat inst.toNat value.toNat = (st, none)) :
    writeParams s [⟨key, inst, 0, value⟩] = (s, writeReply s st 0) := by
  simp [writeParams, stageEntries, checkEntries, hc, he]

/-- A `PARAM_WRITE` of as many entries as it counts is answered by what staging them gives. -/
theorem paramWrite_servedBy {n : U8} {es : List ParamEntry} (hl : es.length = n.toNat) (hn : n ≠ 0)
    (ht : hasTurn s h 0x07 1 (4 + 12 * n.toNat) false) :
    servedBy (.paramWrite h false n es) h 0x07 true (fun s => writeParams s es) s := by
  have hw : Instr.wellFormed (.paramWrite h false n es) = true := by simp [Instr.wellFormed, hl]
  exact served_done (exec_host rfl hw nofun) rfl rfl rfl rfl beq_iff_eq.2 (by simpa [firstFail] using hn) ht

theorem one_le_toNat_of_ne_zero {inst : U8} (hi : inst ≠ 0) : 1 ≤ inst.toNat := by bv_omega

end

/-! ### The statement -/

/-- Settles O34 (R8): with one instance, any instance but 0 is past the key's last, where `PARAM_READ` refuses, and
`PARAM_WRITE` refuses its entry with nothing staged. -/
theorem otherInstanceRefused : Obligations.OtherInstanceRefused := by
  intro s h key r hk hr
  refine ⟨fun inst which hi hw ht => ?_, fun which hw hn ht => ?_, fun inst value hi hc ht => ?_⟩
  · have hle : r.insts ≤ inst.toNat := hr ▸ one_le_toNat_of_ne_zero hi
    exact paramReadPayload_of_insts_le hle ▸ paramRead_readsBack hk hw ht
  · have hlt : (0 : U8).toNat < r.insts := by simp [hr]
    exact paramReadPayload_of_lt_insts hlt hn ▸ paramRead_readsBack hk hw ht
  · have hle : r.insts ≤ inst.toNat := hr ▸ one_le_toNat_of_ne_zero hi
    exact readsBack_of_servedBy (paramWrite_servedBy rfl (by decide) ht)
      (writeParams_singleton_of_refused (by simpa using hc) (checkEntry_of_insts_le hk hle))
      (fun _ => by rw [statusOf_writeReply (by decide)]; rfl)

end Sys2Proof.Machine
end

section
/-! PROOFS. A clearing `SLACK_READ` (R34) and requests on the staging copy of the parameters (R384 to R386). -/

namespace Sys2Proof.Machine

section
variable {s : State} {h : Hdr}

@[simp] theorem takenOn_pair : (takenOn s h).pair = s.pair := by rw [takenOn_host]

/-- An effect may be written as any that agrees with it in the state in which the request is executed. -/
theorem servedBy_congr {i : Instr} {op : Nat} {m : Bool} {a e : State → State × Bytes}
    (hx : a (takenOn s h) = e (takenOn s h)) (hv : servedBy i h op m a s) : servedBy i h op m e s := by
  rwa [servedBy, hx] at hv

/-! ### SLACK_READ -/

/-- R34: a clearing `SLACK_READ` reports the ledger, which the next tick clears. -/
theorem slackRead_clear_servedBy (ht : hasTurn s h 0x04 1 1 false) :
    servedBy (.slackRead h false 1) h 0x04 false
      (fun s => ({ s with slack := { s.slack with clearNext := true } }, slackReply s)) s := by
  have he : exec (.slackRead h false 1) s = hostRow s _ h 0x04 140 (actSlackRead h false 1) :=
    exec_host (i := .slackRead h false 1) rfl rfl nofun
  have hb : (1 : U8).getLsbD 0 = true := rfl
  exact served_as he rfl rfl rfl rfl beq_iff_eq.2 rfl (by simp only [hb, if_true]) ht

/-! ### PARAM_WRITE -/

/-- R385: entries that all pass their checks are staged. -/
theorem writeParams_of_checked {es : List ParamEntry} {xs : List (Nat × Int)} (hr : ∀ e ∈ es, e.resv = 0)
    (hc : s.params.commit = none)
    (hx : checkEntries s (es.map (fun e => (e.key.toNat, e.inst.toNat, e.value.toNat))) 0 = .inr xs) :
    writeParams s es =
      let t := { s with params := { s.params with staged := { s.params.staged with
        vals := stageAll s.params.staged.vals xs } } }
      (t, writeReply t stOk 0xFF) := by
  have hl : es.takeWhile (fun e => e.resv == 0) = es := List.takeWhile_eq_self_iff.2 (by simpa using hr)
  simp only [writeParams, stageEntries, hl, hc, hx, BEq.rfl, if_true, Option.isSome_none, Bool.false_eq_true, if_false]

/-! ### PARAM_COMMIT -/

/-- Action 2: with no commit under way, the staging copy becomes the committed set again. -/
theorem discardStaged_of_no_commit (hc : s.params.commit = none) :
    discardStaged s =
      let t := { s with params := { s.params with staged := s.params.committed } }
      (t, commitReply t stOk none 0) := by
  simp [discardStaged, hc]

/-- R386: a changed staging copy without a fault is held as a commit of this epoch. -/
theorem startCommit_of_valid (hc : s.params.commit = none) (hh : s.pair.hand = 0) (hi : s.pair.incoming = false)
    (hy : s.pair.yielding = false) (hd : (changedKeys s.params == [] && changedMaps s.params == []) = false)
    (hf : firstRefusal (commitRefusals s) = none) (hm : mapRefused s = false) :
    startCommit s h = { s with params := { s.params with
      commit := some { epoch := s.epoch, count := stagedCount s, limited := firstLimited s, hdr := h } } } := by
  have hb : (s.params.commit.isSome || s.pair.hand != 0 || s.pair.incoming || s.pair.yielding) = false := by
    simp [hc, hh, hi, hy]
  simp only [startCommit, hb, hd, hf, hm, Bool.false_eq_true, if_false]

/-- A `PARAM_COMMIT` with action 1 that passes its checks starts a commit. -/
theorem paramCommit_runsAs (ht : hasTurn s h 0x08 1 4 false) :
    runsAs (.paramCommit h false) h (fun s => startCommit s h) s := by
  have hg : gate (takenOn s h) h (commitReq h false false) = none := gate_hasTurn ht rfl rfl rfl beq_iff_eq.2 rfl
  have he := exec_host (s := s) (i := .paramCommit h false) rfl rfl nofun
  rw [runsAs, he, hostRow_taken ht.1]
  simp only [actParamCommit, hg]

/-- A `PARAM_COMMIT` with action 2 that passes its checks discards what is staged. -/
theorem paramDiscard_servedBy (ht : hasTurn s h 0x08 1 4 false) :
    servedBy (.paramDiscard h false) h 0x08 true discardStaged s := by
  have he := exec_host (s := s) (i := .paramDiscard h false) rfl rfl nofun
  exact served_done he rfl rfl rfl rfl beq_iff_eq.2 rfl ht

end

/-! ### The statement -/

/-- Settles O15 (R34, R384 to R386): each request is answered by its own action, which the conditions bring down to the
effect of its rule. -/
theorem deviceRequestsServed : Obligations.DeviceRequestsServed := by
  intro s h
  refine ⟨slackRead_clear_servedBy, fun n es xs hl hn hr hc hx ht => ?_, fun hc ht => ?_,
    fun hc hh hi hy hd hf hm ht => ?_⟩
  · exact servedBy_congr (writeParams_of_checked hr (by simpa using hc) hx) (paramWrite_servedBy hl hn ht)
  · exact servedBy_congr (discardStaged_of_no_commit (by simpa using hc)) (paramDiscard_servedBy ht)
  · have hv : startCommit (takenOn s h) h = _ := startCommit_of_valid (by simpa using hc) (by simpa using hh)
      (by simpa using hi) (by simpa using hy) (by simpa using hd) hf hm
    have hr := paramCommit_runsAs ht
    rwa [runsAs, hv] at hr

end Sys2Proof.Machine
end

section
/-! PROOFS. The end of a sample frame (R21, R25, R28, R31, R302), shedding, the alignment of a standby (R23), the
timebase check (R33), operating time, and the epoch boundary (R254). -/

namespace Sys2Proof.Machine

/-! ### What SAMPLE_FRAME_TICK advances -/

/-- The frame count, the operating time, the tier in force and the tier decided for the next tick. -/
structure Clock where
  frame : Nat
  opTime : Nat
  shed : Nat
  shedNext : Option Nat

/-- The clock of a state. -/
def clockOf (s : State) : Clock := ⟨s.frame, s.opTime, s.slack.shed, s.slack.shedNext⟩

/-- R302: operating time counts every 2,000th frame and saturates. -/
def Clock.countTime (c : Clock) : Clock :=
  { c with opTime := if c.frame % 2000 = 0 then min (c.opTime + 1) (2 ^ 40 - 1) else c.opTime }

/-- R21, R302: the next frame. -/
def Clock.nextFrame (c : Clock) : Clock := { c with frame := (c.frame + 1) % 2 ^ 48 }.countTime

/-- R31: the tier decided comes into force. -/
def Clock.applyShed (c : Clock) : Clock := { c with shed := c.shedNext.getD c.shed, shedNext := none }

/-- The set of all parts but `frame`, `times` and `slack`. -/
def besideClock : Nat := 2 ^ 37 - 1 - (2 ^ 4 + 2 ^ 5 + 2 ^ 8)

section
variable {s t : State}

theorem clockOf_of_kept (h : Kept besideClock false s t) : clockOf t = clockOf s := by
  have hf : t.frame = s.frame := h.same .frame rfl
  obtain ⟨ho, -, -⟩ : t.opTime = s.opTime ∧ t.opSaved = s.opSaved ∧ t.powerCycle = s.powerCycle := h.same .times rfl
  have hk : t.slack = s.slack := h.same .slack rfl
  simp only [clockOf, hf, ho, hk]

@[simp] theorem clockOf_raise {f : Finding} : clockOf (raise s f) = clockOf s :=
  clockOf_of_kept (raise_kept .self rfl)

@[simp] theorem clockOf_event {code : Nat} {payload : Bytes} {inst : Nat} :
    clockOf (event s code payload inst) = clockOf s := clockOf_of_kept (event_kept .self rfl)

theorem clockOf_forEach {α : Type} {l : List α} {f : State → α → State} (hf : ∀ s a, clockOf (f s a) = clockOf s) :
    clockOf (forEach l f s) = clockOf s :=
  forEach_inv (P := fun t => clockOf t = clockOf s) rfl fun t a ht => (hf t a).trans ht

/-! ### The work of the frame that ends -/

theorem clockOf_abandonSafetyA : clockOf (abandonSafetyA s) = clockOf s := by
  unfold abandonSafetyA
  extract_lets old s1 s2 s3
  have h1 : clockOf s1 = clockOf s := clockOf_forEach fun _ _ => rfl
  have h2 : clockOf s2 = clockOf s1 := clockOf_forEach fun _ _ => rfl
  have h3 : clockOf s3 = clockOf s2 := clockOf_forEach fun _ _ => rfl
  clear_value s3 s2 s1
  exact (h3.trans h2).trans h1

/-- R25: what is abandoned is a class's own state; the shed state is none of it. -/
theorem clockOf_abandon {c : Nat} : clockOf (abandon s c) = clockOf s := by
  unfold abandon
  split
  case h_2 => exact clockOf_of_kept (abandonLoops_kept .self rfl)
  case h_3 => exact clockOf_of_kept (abandonMotion_kept .self rfl)
  case h_4 => exact clockOf_abandonSafetyA
  case h_6 => exact clockOf_of_kept (abandonPair_kept .self rfl)
  all_goals rfl

theorem clockOf_dropWork {c : Nat} : clockOf (dropWork s c) = clockOf s := clockOf_of_kept (dropWork_kept .self rfl)

theorem clockOf_closeClass {len : Nat} {w : Nat × Nat} : clockOf (closeClass len s w) = clockOf s := by
  unfold closeClass
  split
  · rfl
  extract_lets missed sl s1 s2
  have h1 : clockOf s1 = clockOf s := by
    unfold s1
    split
    · rfl
    · split
      · exact clockOf_abandon
      · exact clockOf_dropWork
  split <;> exact h1

theorem clockOf_judgeMiss {missed : Bool} : clockOf (judgeMiss s missed) = clockOf s := by
  unfold judgeMiss
  extract_lets was k s1
  have h1 : clockOf s1 = clockOf s := rfl
  split
  · rw [clockOf_raise, h1]
  · split
    · rw [clockOf_raise, h1]
    · exact h1

/-! ### The tick -/

theorem clockOf_tickOpTime : clockOf (tickOpTime s) = (clockOf s).countTime := by
  by_cases hf : s.frame % 2000 = 0 <;> simp [tickOpTime, clockOf, Clock.countTime, hf]

theorem clockOf_tickSecond : clockOf (tickSecond s) = clockOf s := by
  unfold tickSecond
  split <;> rfl

theorem clockOf_countWindow : clockOf { s with slack := countWindow s.slack } = clockOf s := by
  simp only [clockOf, countWindow]
  split <;> rfl

theorem clockOf_freeze : clockOf (freeze s) = clockOf s := rfl

theorem clockOf_applyShed : clockOf (applyShed s) = (clockOf s).applyShed := by
  unfold applyShed
  split
  next hn => simp [clockOf, Clock.applyShed, hn]
  next n hn =>
    extract_lets old k s1 s2
    have h1 : clockOf s1 = (clockOf s).applyShed := by simp [s1, clockOf, Clock.applyShed, hn]
    have h2 : clockOf s2 = clockOf s1 := by
      unfold s2
      split <;> rfl
    split
    · exact h2.trans h1
    · rw [clockOf_event, h2, h1]

/-- R21: the frame count advances, and with it the times and counts that go by frames. -/
def nextFrame (s : State) : State :=
  let t := tickSecond (tickOpTime { s with frame := (s.frame + 1) % 2 ^ 48, pair := { s.pair with alignNext := 0 } })
  { t with slack := countWindow t.slack }

theorem clockOf_nextFrame : clockOf (nextFrame s) = (clockOf s).nextFrame := by
  rw [nextFrame, clockOf_countWindow, clockOf_tickSecond, clockOf_tickOpTime]
  rfl

/-- The frame's work `u` is closed, then the next frame begins. -/
theorem tick_of_running {work : List (Nat × Nat)} (hr : s.running = true) :
    ∃ u, clockOf u = clockOf s ∧ tick s work = freeze (applyShed (nextFrame u)) := by
  unfold tick
  rw [hr, Bool.not_true, if_neg Bool.false_ne_true]
  extract_lets len k s1 u
  refine ⟨u, ?_, rfl⟩
  unfold u
  split
  · exact clockOf_judgeMiss.trans (clockOf_forEach fun _ _ => clockOf_closeClass)
  · rfl

/-- R21, R31, R302: what the tick of a running device makes of its clock. -/
theorem clockOf_tick {work : List (Nat × Nat)} (hr : s.running = true) :
    clockOf (tick s work) = (clockOf s).nextFrame.applyShed := by
  obtain ⟨u, hu, ht⟩ := tick_of_running (work := work) hr
  rw [ht, clockOf_freeze, clockOf_applyShed, clockOf_nextFrame, hu]

theorem running_iff : s.running = true ↔ s.power = .on ∧ s.mode ≠ .dormant := by
  simp [State.running]

theorem tick_of_not_running {work : List (Nat × Nat)} (hr : s.running = false) : tick s work = s := by
  simp [tick, hr]

theorem exec_sampleFrameTick {work : List (Nat × Nat)}
    (hw : Instr.wellFormed (.sampleFrameTick work) = true) : exec (.sampleFrameTick work) s = .next (tick s work) :=
  if_pos hw

end

/-! ### Shedding -/

/-- R31: the least slack `m` of the evaluation period decides the next tier. -/
theorem evalShed_shedNext {k : Slack} {m : Nat} (hm : k.evalMin = some m) :
    (m < 1000 → (evalShed k).shedNext = some 2) ∧
    (1000 ≤ m → m < 2000 → k.shed ≤ 1 → (evalShed k).shedNext = some 1) ∧
    (2000 ≤ m → k.shed = 0 → (evalShed k).shedNext = some 0) ∧
    (1500 ≤ m → m < 2000 → k.shed = 2 → (evalShed k).shedNext = some (if 31 ≤ k.above15 then 1 else 2)) ∧
    (2500 ≤ m → k.shed = 1 → (evalShed k).shedNext = some (if 31 ≤ k.above25 then 0 else 1)) := by
  simp only [evalShed, hm, Option.getD_some, Option.some.injEq, beq_iff_eq]
  refine ⟨fun h1 => ?_, fun h1 h2 hk => ?_, fun h1 hk => ?_, fun h1 h2 hk => ?_, fun h1 hk => ?_⟩
  · rw [if_pos h1]
  · rw [if_neg (by omega), if_pos h2, if_neg (by omega)]
  · rw [if_neg (by omega), if_neg (by omega), if_neg (by omega), if_neg (by omega)]
  · rw [if_neg (by omega), if_pos h2, if_pos hk, if_pos h1]
    simp
  · rw [if_neg (by omega), if_neg (by omega), if_neg (by omega), if_pos hk, if_pos h1]
    simp

/-! ### Alignment of a standby -/

section
variable {epoch : Nat} {phase : Int} {p : PairSt}

/-- R23: a mark in time, or a second one in the epoch, moves no boundary. -/
theorem alignTo'_self (h : phase = 0 ∨ p.alignedIn = some epoch) : alignTo' epoch phase p = p := by
  have ha : (phase != 0 && p.alignedIn != some epoch) = false := by
    rcases h with h | h <;> simp [h]
  simp only [alignTo', ha, Bool.false_eq_true, if_false]

/-- R23: the first mark of the epoch out of time moves the boundary by one cycle. -/
theorem alignTo'_of_ne (h0 : phase ≠ 0) (he : p.alignedIn ≠ some epoch) :
    alignTo' epoch phase p = { p with alignNext := if 0 < phase then 1 else -1, alignedIn := some epoch } := by
  have ha : (phase != 0 && p.alignedIn != some epoch) = true := by simp [h0, he]
  have hc : clampI (-1) 1 phase = if 0 < phase then 1 else -1 := by
    unfold clampI
    split_ifs <;> omega
  simp only [alignTo', ha, hc, if_true]

end

/-- A mark reaches a standby: it aligns, and the partner has given a sign of life. -/
theorem exec_epochMarkReceived {s : State} {phase : Int} (hp : s.power = .on) (hm : s.mode = .shadow) :
    exec (.epochMarkReceived phase) s
      = .next { s with pair := { alignTo' s.epoch phase s.pair with lastSign := s.frame } } :=
  congrArg Host.Outcome.next (if_pos (by simp [running_iff, hp, hm]))

/-! ### The timebase check -/

/-- R33: the deviation of a cycle without a mark, with `run` for the count of deviations. -/
def timebaseMissed (s : State) (run : Nat) : State :=
  { s with slack := { s.slack with timebaseDelta := 120, timebasePeak := max s.slack.timebasePeak 120, tbRun := run } }

/-- R33: the second deviation in a row opens the low side; the others only count. -/
theorem exec_timebaseMarkMissing {s : State} (hw : s.working = true) :
    exec .timebaseMarkMissing s = .next (let t := timebaseMissed s (min 2 (s.slack.tbRun + 1))
      if s.slack.tbRun = 1 then raise t.lowSideOpen { code := 0xA220, sev := 4, cls := 2 } else t) := by
  change Host.Outcome.next (if s.working then timebase s 12120 false else s) = _
  rw [if_pos hw]
  by_cases hr : s.slack.tbRun = 1 <;> simp [timebase, timebaseMissed, hr, clampI, satN]

/-! ### The statement -/

/-- Settles O43 (R21, R23, R31, R33, R254, R302): the tick by what it makes of the clock, shedding by its decision, each
other event by its own effect in the mode that awaits it. -/
theorem timeEvents : Obligations.TimeEvents := by
  intro s
  refine ⟨fun work hw hp hm => ?_, fun work ho hw => ?_, fun hw => ?_, fun phase hp hm => ⟨fun h => ?_, fun h0 he => ?_⟩,
    fun hw hr => ?_, fun hw hr => ?_, fun hw hr => ?_, fun hp hm => ?_, fun hw => ?_⟩
  · have ht : clockOf (tick s work) = _ := clockOf_tick (running_iff.2 ⟨hp, hm⟩)
    have hf : (tick s work).frame = (s.frame + 1) % 2 ^ 48 := congrArg Clock.frame ht
    exact ⟨_, exec_sampleFrameTick hw, hf, hf ▸ congrArg Clock.opTime ht, congrArg Clock.shed ht,
      congrArg Clock.shedNext ht⟩
  · have hr : s.running = false := by
      rw [← Bool.not_eq_true, running_iff]
      tauto
    rw [exec_sampleFrameTick hw, tick_of_not_running hr]
  · exact ⟨evalShed s.slack, congrArg Host.Outcome.next (if_pos hw), rfl, rfl, fun m => evalShed_shedNext⟩
  · rw [exec_epochMarkReceived hp hm, alignTo'_self h]
  · rw [exec_epochMarkReceived hp hm, alignTo'_of_ne h0 he]
  · rw [exec_timebaseMarkMissing hw]
    simp [timebaseMissed, hr]
  · rw [exec_timebaseMarkMissing hw]
    simp [timebaseMissed, hr]
  · rw [exec_timebaseMarkMissing hw]
    simp [timebaseMissed, hr]
  · exact congrArg Host.Outcome.next (if_pos (running_iff.2 ⟨hp, hm⟩))
  · exact congrArg Host.Outcome.next (if_pos hw)

end Sys2Proof.Machine
end

section
/-! PROOFS. Reset, loss of supplies, WAKE and the transitions (R36 to R40, R305, R414, R427, R431, R432, R437): when
PROVING starts anew, what a halted device keeps, and where each event leads. -/

namespace Sys2Proof.Machine

section
variable {s : State}

/-! ### PROVING starts anew -/

/-- A PROVING that starts on what MRAM keeps of `s` is one of `s`. -/
theorem provesAgain_provingFrom {u : State} (hp : u.pins.posNow = s.pins.posNow) (hl : u.latch = s.latch)
    (hc : u.params.committed = s.params.committed) (hs : u.saf.set = s.saf.set) (hg : u.log.log = s.log.log)
    (hd : u.motion.slots = s.motion.slots) : provesAgain s (provingFrom u) :=
  ⟨rfl, rfl, rfl, rfl, rfl, hp, rfl, rfl, rfl, rfl, rfl, hl, hc, hc, hs, hg, hd⟩

/-- A running device leaves for PROVING: event 0xA100, outputs off, loads dropped. -/
theorem provesAgain_startProving {cause : Nat} : provesAgain s (startProving s cause) := by
  unfold startProving
  extract_lets u
  have hk : Kept (partsMask [.outputs, .journal, .stored, .images]) false s (dropLoads u.allOff) :=
    dropLoads_kept (State.allOff_kept (event_kept .self rfl) rfl) rfl
  exact provesAgain_provingFrom (congrArg Pins.posNow (hk.same .pins rfl)) (hk.same .latch rfl) (hk.same .committed rfl)
    (hk.same .safetySet rfl) (hk.same .mramLog rfl) (hk.same .doorTables rfl)

/-- Table 03.2: unit 0x00 starts once the supplies are in range and RST_N is high. -/
theorem provesAgain_tryStart {u : State} (hp : s.power = .startWait) (hs : s.pins.supplies = true)
    (hv : s.pins.vaon = true) (hr : s.pins.rstN = true)
    (hu : ∀ l, provesAgain u (provingFrom { s with entryRecs := l })) : provesAgain u (tryStart s) := by
  rw [tryStart, if_pos (by simp [hp, hs, hv, hr])]
  exact hu _

theorem tryStart_of_not_startWait (hp : s.power ≠ .startWait) : tryStart s = s := by simp [tryStart, hp]

theorem tryStart_of_no_supplies (hs : s.pins.supplies = false) : tryStart s = s := by simp [tryStart, hs]

/-- R40, R414: with the supplies in range, RST_N high, no flush left and WAKE high, reset ends in PROVING. -/
theorem provesAgain_tryRelease {u : State} (hp : s.power = .inReset) (hs : s.pins.supplies = true)
    (hv : s.pins.vaon = true) (hr : s.pins.rstN = true) (hf : s.log.flushing = none) (hk : s.pins.wake = true)
    (hu : ∀ l, provesAgain u (provingFrom { s with entryRecs := l })) : provesAgain u (tryRelease s) := by
  rw [tryRelease, if_pos (by simp [hp, hs, hv, hr, hf]), if_pos hk]
  exact hu _

/-- R40: with WAKE low reset ends in DORMANT. -/
theorem tryRelease_of_wake_low (hp : s.power = .inReset) (hs : s.pins.supplies = true) (hv : s.pins.vaon = true)
    (hr : s.pins.rstN = true) (hf : s.log.flushing = none) (hk : s.pins.wake = false) :
    tryRelease s = { s with
      power := .on, mode := .dormant, pins := { s.pins with wakeWasLow := true }
      entryRecs := s.entryRecs ++ [(s.resetFrom.1, 0, s.resetFrom.2)] } := by
  rw [tryRelease, if_pos (by simp [hp, hs, hv, hr, hf]), if_neg (by simp [hk])]

/-- R40: reset does not end before the flush under way. -/
theorem tryRelease_of_flushing (hf : s.log.flushing ≠ none) : tryRelease s = s := by simp [tryRelease, hf]

/-! ### A halted device -/

/-- What `halt` may change. -/
def haltedParts : List Part :=
  [.transition, .loops, .outputs, .pairing, .memory, .host, .keys, .stored, .images]

theorem halt_frame : Kept (partsMask haltedParts) false s (halt s) := halt_kept .self rfl

theorem halt_pins : (halt s).pins = s.pins := halt_frame.same .pins rfl

theorem halt_latch : (halt s).latch = s.latch := halt_frame.same .latch rfl

theorem halt_params : (halt s).params = s.params := by
  have hp : (halt s).params = _ := halt_frame.same .params rfl
  have hc : (halt s).params.committed = _ := halt_frame.same .committed rfl
  have hl : (halt s).params.learned = _ := halt_frame.same .learned rfl
  rw [hp, hc, hl]

/-- R39, R40: every gate of a halted device is static. -/
theorem halt_outsStill (hw : OutsCanonical s) : outsStill (halt s).saf.outs := by
  unfold halt
  dsimp only
  rw [clearSecrets_outs, dropLoads_outs]
  exact State.allOff_still hw

/-- The last flush concerns the recorder alone. -/
theorem lastFlushOf_frame : Kept (partsMask [.journal]) false s (lastFlushOf s) := lastFlushOf_kept .self rfl

/-! ### RST_N and the supplies -/

theorem exec_rstNLow_of_running (hr : s.running = true) :
    exec .rstNLow s = .next { lastFlushOf (halt s) with
      power := .inReset, pins := { s.pins with rstN := false }, resetFrom := (modeCode s.mode, 2) } :=
  congrArg Host.Outcome.next (if_pos hr)

theorem exec_rstNLow_of_not_running (hr : s.running = false) :
    exec .rstNLow s = .next { s with pins := { s.pins with rstN := false } } :=
  congrArg Host.Outcome.next (if_neg (by simp [hr]))

theorem exec_resetRelease_of_inReset (hp : s.power = .inReset) :
    exec .resetRelease s = .next (tryRelease { s with pins := { s.pins with rstN := true } }) := by
  change Host.Outcome.next (tryRelease (tryStart _)) = _
  rw [tryStart_of_not_startWait (by simp [hp])]

theorem exec_suppliesRestored_of_inReset (hp : s.power = .inReset) :
    exec .suppliesRestored s = .next (tryRelease { s with pins := { s.pins with supplies := true } }) := by
  change Host.Outcome.next (tryRelease (tryStart _)) = _
  rw [tryStart_of_not_startWait (by simp [hp])]

theorem exec_supplyLoss_vaon :
    exec (.supplyLoss true) s = .next { loseBuffer (halt s) with
      power := .off, mode := .dormant, pins := { s.pins with vaon := false, wakeHeld := false } } := rfl

theorem exec_supplyLoss_of_running (hr : s.running = true) :
    exec (.supplyLoss false) s = .next { loseBuffer (halt { s with pins := { s.pins with supplies := false } }) with
      power := .inReset, resetFrom := (modeCode s.mode, 3) } :=
  congrArg Host.Outcome.next (if_pos hr)

/-- R427: a change of POS is recorded once. -/
theorem exec_posStrapChange_of_running {pos : BitVec 3} (hr : s.running = true) :
    exec (.posStrapChange pos) s = .next (if pos ≠ s.pins.pos ∧ s.pins.posChanged = false then
      record { s with pins := { s.pins with posNow := pos, posChanged := true } } { code := 0xA108, sev := 1 }
      else { s with pins := { s.pins with posNow := pos } }) := by
  refine congrArg Host.Outcome.next (if_congr ?_ rfl rfl)
  simp [hr]

/-! ### WAKE -/

/-- R431: the filter has seen WAKE high; the start waits for the rest of Table 03.2. -/
theorem exec_wakeHigh_of_wakeFilter (hp : s.power = .wakeFilter) :
    exec .wakeHigh s = .next (tryStart { s with
      power := .startWait, pins := { s.pins with wake := true, wakeHeld := false } }) :=
  congrArg Host.Outcome.next (if_pos (by simp [hp]))

theorem exec_wakeHigh_of_dormant (hp : s.power = .on) (hm : s.mode = .dormant) (hw : s.pins.wakeWasLow = true) :
    exec .wakeHigh s = .next (tryStart { s with
      power := .startWait, pins := { s.pins with wake := true, wakeHeld := false }, resetFrom := (0, 1) }) :=
  congrArg Host.Outcome.next ((if_neg (by simp [hp])).trans (if_pos (by simp [hp, hm, hw])))

theorem exec_wakeHigh_of_awake (hp : s.power = .on) (hm : s.mode ≠ .dormant) :
    exec .wakeHigh s = .next { s with pins := { s.pins with wake := true, wakeHeld := false } } :=
  congrArg Host.Outcome.next ((if_neg (by simp [hp])).trans (if_neg (by simp [hm])))

theorem exec_wakeLow_of_wakeFilter (hp : s.power = .wakeFilter) :
    exec .wakeLow s = .next { s with power := .on, mode := .dormant, entryRecs := [(0xFF, 0, 0)]
                                     pins := { s.pins with wake := false, wakeWasLow := true } } := by
  change execWakeLow s = _
  simp only [execWakeLow, hp]

/-- R37: SERVICE ignores WAKE falling, which is recorded. -/
theorem exec_wakeLow_of_service (hp : s.power = .on) (hm : s.mode = .service) :
    exec .wakeLow s = .next (event { s with pins := { s.pins with wake := false } } 0xA105) := by
  change execWakeLow s = _
  simp only [execWakeLow, hp, hm]

theorem exec_wakeLow_of_shadow (hp : s.power = .on) (hm : s.mode = .shadow) (hh : s.handing = false) :
    exec .wakeLow s = .next (enterDormant { s with pins := { s.pins with wake := false } } 1) := by
  change execWakeLow s = _
  simp only [execWakeLow, hp, hm, hh, Bool.false_eq_true, if_false]

/-- R432: in COMMISSION and LOCKOUT the demand is held while an output is on. -/
theorem exec_wakeLow_of_commission_or_lockout (hp : s.power = .on) (hm : s.mode = .commission ∨ s.mode = .lockout) :
    exec .wakeLow s = .next (if s.anyOutOn then
      event { s with pins := { s.pins with wake := false, wakeHeld := true } } 0xA105
      else enterDormant { s with pins := { s.pins with wake := false } } 1) := by
  change execWakeLow s = _
  rcases hm with hm | hm <;> simp only [execWakeLow, hp, hm]

/-! ### Transitions -/

theorem exec_modeTransitionBegin {q : Pending} (hr : s.running = true) (hq : s.transition = some q) :
    exec .modeTransitionBegin s =
      .next (if q.target = .proving then startProving s 5 else enterDormant s 5) := by
  change execModeTransitionBegin s = _
  simp only [execModeTransitionBegin, hr, hq, if_true, beq_iff_eq]

theorem exec_heldWakeDemandTaken (hp : s.power = .on) (hd : s.pins.wakeHeld = true) (hw : s.pins.wake = false)
    (ho : s.anyOutOn = false) (hh : s.handing = false)
    (hm : s.mode = .commission ∨ s.mode = .lockout ∨ s.mode = .shadow) :
    exec .heldWakeDemandTaken s = .next (enterDormant s 1) :=
  congrArg Host.Outcome.next (if_pos (by simp [hp, hd, hw, ho, hh, or_assoc, hm]))

end

/-! ### The statements -/

/-- Settles O41 (R39, R40, R305, R414, R427; log entries 24 and 25): a halt keeps latch and parameters and leaves every
gate static; the end of reset is a PROVING, DORMANT or a wait by WAKE and the flush under way. -/
theorem resetAndSupplyEvents : Obligations.ResetAndSupplyEvents := by
  intro s hw
  refine ⟨fun hp hm => ?_, fun hn => ?_, fun hp hs hv hf hk => ?_, fun hp hs hv hf hk => ?_, fun hp hf => ?_, ?_,
    fun hp hm => ?_, fun hp hr hv hf hk => ?_, fun pos hp hm => ⟨fun hne hc => ?_, fun hc => ?_⟩⟩
  · have hh : (lastFlushOf (halt s)).host = {} := lastFlushOf_frame.same .host rfl
    have hl : (lastFlushOf (halt s)).latch = (halt s).latch := lastFlushOf_frame.same .latch rfl
    have ho : outsStill (lastFlushOf (halt s)).saf.outs := by rw [lastFlushOf_outs]; exact halt_outsStill hw
    exact ⟨_, exec_rstNLow_of_running (running_iff.2 ⟨hp, hm⟩), rfl, rfl, rfl, hh, ho, hl.trans halt_latch⟩
  · refine exec_rstNLow_of_not_running ?_
    rw [← Bool.not_eq_true, running_iff]
    tauto
  · exact ⟨_, exec_resetRelease_of_inReset hp, provesAgain_tryRelease hp hs hv rfl hf hk
      fun _ => provesAgain_provingFrom rfl rfl rfl rfl rfl rfl⟩
  · exact (exec_resetRelease_of_inReset hp).trans
      (congrArg Host.Outcome.next (tryRelease_of_wake_low hp hs hv rfl hf hk))
  · exact (exec_resetRelease_of_inReset hp).trans (congrArg Host.Outcome.next (tryRelease_of_flushing hf))
  · exact ⟨_, exec_supplyLoss_vaon, rfl, rfl, rfl, halt_outsStill hw, halt_latch, halt_params⟩
  · exact ⟨_, exec_supplyLoss_of_running (running_iff.2 ⟨hp, hm⟩), rfl,
      congrArg Pins.supplies halt_pins, rfl, rfl, halt_outsStill hw⟩
  · exact ⟨_, exec_suppliesRestored_of_inReset hp, provesAgain_tryRelease hp rfl hv hr hf hk
      fun _ => provesAgain_provingFrom rfl rfl rfl rfl rfl rfl⟩
  · rw [exec_posStrapChange_of_running (running_iff.2 ⟨hp, hm⟩), if_pos ⟨hne, hc⟩]
  · rw [exec_posStrapChange_of_running (running_iff.2 ⟨hp, hm⟩), if_neg]
    rintro ⟨hne, hn⟩
    simp [hne, hn] at hc

/-- Settles O39 (R37; log entry 6 for the severity of the record). -/
theorem wakeIgnoredInService : Obligations.WakeIgnoredInService := fun _ => exec_wakeLow_of_service

/-- Settles O40 (R36, R431, R432, R437 and Table 03.2; log entries 6, 21 and 26): each event by its effect in the power
state and mode that await it. -/
theorem powerAndModeEvents : Obligations.PowerAndModeEvents := by
  intro s
  refine ⟨fun hp => ?_, fun hp hs hv hr => ?_, fun hp hs => ?_, fun hp hm hw hs hv hr => ?_, exec_wakeHigh_of_awake,
    exec_wakeLow_of_wakeFilter, fun hp hm => ?_, fun hp hm ho => ?_, exec_heldWakeDemandTaken,
    fun hp hm q hq => ⟨fun ht => ?_, fun ht => ?_⟩, fun hp hm ho => ?_, fun hp hm hb => ?_⟩
  · exact congrArg Host.Outcome.next (if_pos (by simp [hp]))
  · exact ⟨_, exec_wakeHigh_of_wakeFilter hp,
      provesAgain_tryStart rfl hs hv hr fun _ => provesAgain_provingFrom rfl rfl rfl rfl rfl rfl⟩
  · exact (exec_wakeHigh_of_wakeFilter hp).trans (congrArg Host.Outcome.next (tryStart_of_no_supplies hs))
  · exact ⟨_, exec_wakeHigh_of_dormant hp hm hw,
      provesAgain_tryStart rfl hs hv hr fun _ => provesAgain_provingFrom rfl rfl rfl rfl rfl rfl⟩
  · rcases hm with ⟨hm, hh⟩ | ⟨hm, ho⟩
    · exact exec_wakeLow_of_shadow hp hm hh
    · rw [exec_wakeLow_of_commission_or_lockout hp hm, if_neg (by simp [ho])]
  · rw [exec_wakeLow_of_commission_or_lockout hp hm, if_pos ho]
  · rw [exec_modeTransitionBegin (running_iff.2 ⟨hp, hm⟩) hq, if_neg ht]
  · refine ⟨_, exec_modeTransitionBegin (running_iff.2 ⟨hp, hm⟩) hq, ?_⟩
    rw [if_pos ht]
    exact provesAgain_startProving
  · have hr : s.running = true := running_iff.2 ⟨hp, by rcases hm with hm | hm <;> simp [hm]⟩
    exact congrArg Host.Outcome.next (if_pos (by simp [hr, hm, ho]))
  · have hr : s.running = true := running_iff.2 ⟨hp, by simp [hm]⟩
    exact ⟨_, congrArg Host.Outcome.next (if_pos (by simp [hr, hm, hb])), provesAgain_startProving⟩

end Sys2Proof.Machine
end

section
/-! PROOFS. MODE_REQUEST (R36, R41, R42, R437, Tables 03.2 to 03.5): what it leads to in each mode, and its answer with
and without a token. -/

namespace Sys2Proof.Machine

section
variable {s : State} {h : Hdr}

@[simp] theorem takenOn_transition : (takenOn s h).transition = s.transition := by rw [takenOn_host]
@[simp] theorem takenOn_img : (takenOn s h).img = s.img := by rw [takenOn_host]
@[simp] theorem takenOn_partnerRole : (takenOn s h).partnerRole = s.partnerRole := by rw [takenOn_host]; rfl
@[simp] theorem takenOn_anyOutOn : (takenOn s h).anyOutOn = s.anyOutOn := by rw [takenOn_host]; rfl
@[simp] theorem takenOn_handing : (takenOn s h).handing = s.handing := by rw [takenOn_host]; rfl

/-! ### Table 03.2 for a request -/

theorem modeStep_service (hm : s.mode = .commission) (ht : s.transition = none) : modeStep s 3 = toService s := by
  simp [modeStep, hm, ht]

theorem modeStep_shadow (hm : s.mode = .commission) (hr : s.partnerRole = 1) (ht : s.transition = none) :
    modeStep s 4 = .now .shadow := by
  simp [modeStep, hm, hr, ht]

theorem modeStep_proving (hm : s.mode = .commission) (ho : s.anyOutOn = false) (ht : s.transition = none) :
    modeStep s 1 = .later := by
  simp [modeStep, hm, ho, ht]

theorem modeStep_dormant (hm : (s.mode = .commission ∨ s.mode = .lockout) ∧ s.anyOutOn = false
    ∨ s.mode = .shadow ∧ s.handing = false) (ht : s.transition = none) : modeStep s 0 = .later := by
  rcases hm with ⟨hm | hm, ho⟩ | ⟨hm, hh⟩
  · simp [modeStep, hm, ho, ht]
  · simp [modeStep, hm, ho, ht]
  · simp [modeStep, hm, hh, ht]

theorem modeStep_commission (hm : s.mode = .service) (ht : s.transition = none) : modeStep s 2 = toCommission s := by
  simp [modeStep, hm, ht]

/-! ### What a request does -/

section
variable {target : Nat}

theorem requestMode_of_now {m : Mode} (hs : modeStep s target = .now m) :
    requestMode s h target = (modeNow s m, modeReply (modeNow s m) stOk target 0) := by
  simp only [requestMode, hs]

/-- R437: the transition begins when the reply has left. -/
theorem requestMode_of_later (hs : modeStep s target = .later) :
    requestMode s h target =
      ({ s with transition := some {
          target := if target = 1 then .proving else .dormant, chan := h.chan, seq := h.seq } },
        modeReply s stPending target 0) := by
  simp only [requestMode, hs, beq_iff_eq]

end

/-! ### Requests without and with a token -/

theorem modeRequest_wellFormed {target : U8} {token : Bytes} (hl : token.length = 32) :
    Instr.wellFormed (.modeRequest h false target token) = true := Bool.or_eq_true_iff.2 (.inr (beq_iff_eq.2 hl))

/-- A request that needs no token and brings none does what Table 03.2 says. -/
theorem modeRequest_servedBy {target : U8} {n : Nat} (hn : target.toNat = n) (hle : n ≤ 5)
    (hk : modeToken s n = false) (ht : hasTurn s h 0x02 1 36 false) :
    servedBy (.modeRequest h false target (zeros 32)) h 0x02 false (fun s => requestMode s h n) s := by
  subst hn
  have hk' : modeToken (takenOn s h) target.toNat = false := by simpa [modeToken] using hk
  have hz : zeroToken (zeros 32) = true := rfl
  have he := exec_host (s := s) (i := .modeRequest h false target (zeros 32)) rfl (modeRequest_wellFormed rfl) nofun
  have hg := gate_hasTurn ht (r := {
    op := 0x02, insts := 1, len := 4, lenOk := h.len == 36
    checks := [(false || target.toNat > 5 || (!false && !zeroToken (zeros 32)), stBadParam),
      (false && zeroToken (zeros 32), stAuthRequired)] }) rfl rfl rfl beq_iff_eq.2 (by simpa [firstFail, hz] using hle)
  rw [servedBy, he, hostRow_taken ht.1]
  simp only [actModeRequest, hk', hg, Bool.false_eq_true, if_false]

/-- Table 03.4: a target other than COMMISSION needs no token; the effect of the request is given as `e`. -/
theorem modeRequest_servedAs {target : U8} {n : Nat} {e : State → State × Bytes} (ht : hasTurn s h 0x02 1 36 false)
    (hn : target.toNat = n) (hle : n ≤ 5) (h2 : n ≠ 2) (hx : requestMode (takenOn s h) h n = e (takenOn s h)) :
    servedBy (.modeRequest h false target (zeros 32)) h 0x02 false e s :=
  servedBy_congr hx (modeRequest_servedBy hn hle (by simp [modeToken, h2]) ht)

/-- R399: a challenge serves one token. -/
def spendToken (s : State) : State :=
  { s with img := { s.img with auth := { s.img.auth with bytes := none } } }

theorem useToken_of_ok {suffix token : Bytes} (ht : tokenOk s s.img.auth suffix token = true) :
    useToken s suffix token = (spendToken s, true) := if_pos ht

/-- The conditions of R41 do not read the challenge. -/
theorem toCommission_spendToken : toCommission (spendToken s) = toCommission s := rfl

/-- R41: COMMISSION from SERVICE with the right token. -/
theorem modeRequest_token_servedBy {token : Bytes} (hl : token.length = 32) (hz : zeroToken token = false)
    (hk : tokenOk (takenOn s h) s.img.auth [0x02] token = true) (hm : s.mode = .service)
    (ht : hasTurn s h 0x02 1 36 false) :
    servedBy (.modeRequest h false 2 token) h 0x02 false (fun s => requestMode (spendToken s) h 2) s := by
  have hn : modeToken (takenOn s h) (2 : U8).toNat = true := by simp [modeToken, hm]
  have hu : useToken (takenOn s h) [0x02] token = _ := useToken_of_ok (by simpa using hk)
  have he := exec_host (s := s) (i := .modeRequest h false 2 token) rfl (modeRequest_wellFormed hl) nofun
  have hg := gate_hasTurn ht (r := {
    op := 0x02, insts := 1, len := 4, lenOk := h.len == 36
    checks := [(false || (2 : U8).toNat > 5 || (!true && !zeroToken token), stBadParam),
      (true && zeroToken token, stAuthRequired)] }) rfl rfl rfl beq_iff_eq.2 (by simp [firstFail, hz])
  rw [servedBy, he, hostRow_taken ht.1]
  simp only [actModeRequest, hn, hg, hu, if_true]
  rfl

end

/-! ### The statement -/

/-- Settles O17 (R36, R41, R42, R437; log entry 22): each target by its row of Table 03.2, the request being answered by
its own effect. -/
theorem modeRequestsServed : Obligations.ModeRequestsServed := by
  intro s h ht
  refine ⟨fun m hm hs hq => ?_, fun hm hr hq => ?_, fun hm ho hq => ?_, fun hm hq => ?_, ?_,
    fun token hl hz hk hm hq hc => ?_⟩
  · have hx : modeStep (takenOn s h) 3 = .now m := (modeStep_service (by simpa using hm) (by simpa using hq)).trans hs
    exact modeRequest_servedAs ht rfl (by decide) (by decide) (requestMode_of_now hx)
  · have hx : modeStep (takenOn s h) 4 = .now .shadow :=
      modeStep_shadow (by simpa using hm) (by simpa using hr) (by simpa using hq)
    exact modeRequest_servedAs ht rfl (by decide) (by decide) (requestMode_of_now hx)
  · have hx : modeStep (takenOn s h) 1 = .later :=
      modeStep_proving (by simpa using hm) (by simpa using ho) (by simpa using hq)
    exact modeRequest_servedAs ht rfl (by decide) (by decide) (requestMode_of_later hx)
  · have hx : modeStep (takenOn s h) 0 = .later := modeStep_dormant (by simpa using hm) (by simpa using hq)
    exact modeRequest_servedAs ht rfl (by decide) (by decide) (requestMode_of_later hx)
  · -- a target of LOCKOUT is accepted in every mode
    exact modeRequest_servedAs ht rfl (by decide) (by decide) rfl
  · have hx : modeStep (spendToken (takenOn s h)) 2 = .now .commission :=
      (modeStep_commission (by simpa [spendToken] using hm) (by simpa [spendToken] using hq)).trans
        (toCommission_spendToken.trans hc)
    exact servedBy_congr (requestMode_of_now hx) (modeRequest_token_servedBy hl hz hk hm ht)

end Sys2Proof.Machine
end

section
/-! PROOFS. Host requests of the loop engine (R92, R93, R95, R103): a configuration is staged, a bank is staged, a swap is
held for the next epoch. -/

namespace Sys2Proof.Machine

section
variable {s : State} {h : Hdr}

@[simp] theorem takenOn_loops : (takenOn s h).loops = s.loops := by rw [takenOn_host]
@[simp] theorem takenOn_loop {l : Nat} : (takenOn s h).loop l = s.loop l := by rw [takenOn_host]; rfl
@[simp] theorem takenOn_loopSections {l : Nat} : (takenOn s h).loopSections l = s.loopSections l := by
  rw [takenOn_host]; rfl

/-- A request whose action is `f` once its checks pass, and which passes them, runs as `f`. -/
theorem runsAs_of_gate_none {i : Instr} {r : Req} {op insts len len' : Nat} {isRead : Bool} {run f : State → State}
    (he : exec i s = hostRow s i h op len' run) (hf : ∀ {t}, gate t h r = none → run t = f t) (ho : r.op = op)
    (hi : r.insts = insts) (hr : r.isRead = isRead) (hl : h.len = len → r.lenOk = true)
    (hc : firstFail r.checks = none) (ht : hasTurn s h op insts len isRead) : runsAs i h f s := by
  rw [runsAs, he, hostRow_taken ht.1, hf (gate_hasTurn ht ho hi hr hl hc)]

/-! ### LOOP_CONFIG_WRITE -/

/-- What `LOOP_CONFIG_WRITE` does once its checks pass: the outcome of staging its keys, with its status (R103). -/
def writeLoopConfig (s : State) (l : Nat) (cfg : LoopCfg) : State × Bytes :=
  let (s', st, _) := stageEntries s (cfgEntries l cfg)
  (s', refusal 4 st)

/-- R385, R103: keys that all pass their checks are staged. -/
theorem writeLoopConfig_of_checked {l : Nat} {cfg : LoopCfg} {xs : List (Nat × Int)} (hc : s.params.commit = none)
    (hx : checkEntries s (cfgEntries l cfg) 0 = .inr xs) :
    writeLoopConfig s l cfg = ({ s with params := { s.params with staged := { s.params.staged with
      vals := stageAll s.params.staged.vals xs } } }, refusal 4 stOk) := by
  simp only [writeLoopConfig, stageEntries, hc, hx, Option.isSome_none, Bool.false_eq_true, if_false]

/-- A `LOOP_CONFIG_WRITE` that passes its checks is answered by what staging its keys gives. -/
theorem loopConfigWrite_servedBy {cfg : LoopCfg} (ht : hasTurn s h 0x30 64 40 false) :
    servedBy (.loopConfigWrite h false cfg) h 0x30 true (fun s => writeLoopConfig s h.inst.toNat cfg) s := by
  have he : exec (.loopConfigWrite h false cfg) s = hostRow s _ h 0x30 4 (actLoopConfigWrite h false cfg) :=
    exec_host (i := .loopConfigWrite h false cfg) rfl rfl nofun
  exact served_done he rfl rfl rfl rfl beq_iff_eq.2 rfl ht

/-! ### LOOP_COEFF_STAGE -/

/-- R92: a bank of the loop's number of sections, stable and with ordered limits, is staged under the next number. -/
theorem stageBank_of_fits {l n : Nat} {uMin uMax slew ffGain : U16} {secs : List Sec} (hs : s.loops.swap = none)
    (hn : n = s.loopSections l) (hu : uMin.toInt < uMax.toInt) (hp : secs.any unstable = false) :
    stageBank s l n uMin uMax slew ffGain secs =
      let seq := ((s.loop l).stageSeq + 1) % 65536
      (s.modLoop l (fun k => { k with stageSeq := seq, staged := {
        secs := secs, uMin := uMin.toInt, uMax := uMax.toInt, slew := slew.toNat, ffGain := ffGain.toInt
        seq := seq } }), le 1 stOk ++ le 1 0 ++ le 2 seq) := by
  have hu' : ¬uMin.toInt ≥ uMax.toInt := Int.not_le.2 hu
  simp [stageBank, hs, hn, hu', hp]

/-- The sections in use hold flags and a shift in range, and the others are zero: `LOOP_COEFF_STAGE`'s own checks pass. -/
theorem coeffChecks_pass {n : Nat} {secs : List SecWire} (h1 : 1 ≤ n) (h16 : n ≤ 16)
    (hin : (secs.take n).all (fun w => w.flags.toNat ≤ 1 && w.cshift.toNat ≤ 3) = true)
    (hout : (secs.drop n).all zeroSec = true) :
    firstFail [(false || (secs.take n).any (fun w => w.flags.toNat > 1) || !((secs.drop n).all zeroSec), stBadParam),
      (n == 0 || n > 16 || (secs.take n).any (fun w => w.cshift.toNat > 3), stRange)] = none := by
  have hin' : ∀ w ∈ secs.take n, w.flags.toNat ≤ 1 ∧ w.cshift.toNat ≤ 3 := by simpa using hin
  have hflags : (secs.take n).any (fun w => w.flags.toNat > 1) = false :=
    List.any_eq_false.2 fun w hw => by simpa using (hin' w hw).1
  have hshift : (secs.take n).any (fun w => w.cshift.toNat > 3) = false :=
    List.any_eq_false.2 fun w hw => by simpa using (hin' w hw).2
  have hn : (n == 0 || decide (n > 16)) = false := by simp; omega
  simp [firstFail, hflags, hshift, hout, hn]

/-- A `LOOP_COEFF_STAGE` that passes its checks is answered by what staging its sections gives. -/
theorem loopCoeffStage_servedBy {n : U8} {uMin uMax slew ffGain : U16} {secs : List SecWire} (hl : secs.length = 16)
    (h1 : 1 ≤ n.toNat) (h16 : n.toNat ≤ 16)
    (hin : (secs.take n.toNat).all (fun w => w.flags.toNat ≤ 1 && w.cshift.toNat ≤ 3) = true)
    (hout : (secs.drop n.toNat).all zeroSec = true) (ht : hasTurn s h 0x31 64 204 false) :
    servedBy (.loopCoeffStage h false n uMin uMax slew ffGain secs) h 0x31 true
      (fun s => stageBank s h.inst.toNat n.toNat uMin uMax slew ffGain ((secs.take n.toNat).map secOf)) s := by
  have hw : Instr.wellFormed (.loopCoeffStage h false n uMin uMax slew ffGain secs) = true := by
    simp [Instr.wellFormed, hl]
  exact served_done (exec_host rfl hw nofun) rfl rfl rfl rfl beq_iff_eq.2 (coeffChecks_pass h1 h16 hin hout) ht

/-! ### LOOP_COEFF_SWAP -/

/-- R93, R95: with no hand-over and no swap under way, and in reset mode no selected loop running, the swap is held. -/
theorem startSwap_of_free {mask : Nat} {isReset : Bool} (hh : s.pair.hand = 0) (hs : s.loops.swap = none)
    (hr : isReset = true → ((List.range 64).any (fun l => bitAt mask l && (s.loop l).running)) = false) :
    startSwap s h mask isReset = { s with loops := { s.loops with swap := some {
      hdr := some h, mask := mask, left := mask, isReset := isReset, epoch := s.epoch + 1, armed := false } } } := by
  have hb : (isReset && (List.range 64).any (fun l => bitAt mask l && (s.loop l).running)) = false := by
    cases isReset
    · rfl
    · exact hr rfl
  simp only [startSwap, hh, hs, hb, bne_self_eq_false, Option.isSome_none, Bool.or_self, Bool.false_eq_true, if_false]

/-- How `LOOP_COEFF_SWAP` is checked in both modes. -/
def swapReq (h : Hdr) : Req :=
  { op := 0x32, insts := 1, len := 16, lenOk := h.len == 12, checks := [(false, stBadParam)] }

theorem actLoopCoeffSwap_of_gate_none {mask : U64} (hg : gate s h (swapReq h) = none) :
    actLoopCoeffSwap h false mask s = startSwap s h mask.toNat false := by
  rw [swapReq] at hg
  simp only [actLoopCoeffSwap, hg]

theorem actLoopCoeffSwapReset_of_gate_none {mask : U64} (hg : gate s h (swapReq h) = none) :
    actLoopCoeffSwapReset h false mask s = startSwap s h mask.toNat true := by
  rw [swapReq] at hg
  simp only [actLoopCoeffSwapReset, hg]

/-- A `LOOP_COEFF_SWAP` that keeps the filter states and passes its checks starts a swap. -/
theorem loopCoeffSwap_runsAs {mask : U64} (ht : hasTurn s h 0x32 1 12 false) :
    runsAs (.loopCoeffSwap h false mask) h (fun s => startSwap s h mask.toNat false) s :=
  runsAs_of_gate_none (exec_host (i := .loopCoeffSwap h false mask) rfl rfl nofun) actLoopCoeffSwap_of_gate_none
    rfl rfl rfl beq_iff_eq.2 rfl ht

/-- A `LOOP_COEFF_SWAP` that resets the filter states and passes its checks starts a swap. -/
theorem loopCoeffSwapReset_runsAs {mask : U64} (ht : hasTurn s h 0x32 1 12 false) :
    runsAs (.loopCoeffSwapReset h false mask) h (fun s => startSwap s h mask.toNat true) s :=
  runsAs_of_gate_none (exec_host (i := .loopCoeffSwapReset h false mask) rfl rfl nofun)
    actLoopCoeffSwapReset_of_gate_none rfl rfl rfl beq_iff_eq.2 rfl ht

/-- What a request runs as may be written as any that agrees with it in the state in which it is executed. -/
theorem runsAs_congr {i : Instr} {f g : State → State} (hx : f (takenOn s h) = g (takenOn s h)) (hv : runsAs i h f s) :
    runsAs i h g s := by
  rwa [runsAs, hx] at hv

end

/-! ### The statement -/

/-- Settles O24 (R92, R93, R95, R103): each request is answered by its own action, which the conditions bring down to the
effect of its rule. -/
theorem loopRequestsServed : Obligations.LoopRequestsServed := by
  intro s h
  refine ⟨fun cfg xs hc hx ht => ?_, fun n uMin uMax slew ffGain secs hl h1 h16 hin hout hs hn hu hp ht => ?_,
    fun mask hh hs ht => ⟨?_, fun hr => ?_⟩⟩
  · exact servedBy_congr (writeLoopConfig_of_checked (by simpa using hc) hx) (loopConfigWrite_servedBy ht)
  · exact servedBy_congr (stageBank_of_fits (by simpa using hs) (by simpa using hn) hu hp)
      (loopCoeffStage_servedBy hl h1 h16 hin hout ht)
  · have hx : startSwap (takenOn s h) h mask.toNat false = _ :=
      startSwap_of_free (by simpa using hh) (by simpa using hs) nofun
    exact runsAs_congr hx (loopCoeffSwap_runsAs ht)
  · have hx : startSwap (takenOn s h) h mask.toNat true = _ :=
      startSwap_of_free (by simpa using hh) (by simpa using hs) fun _ => by simpa using hr
    exact runsAs_congr hx (loopCoeffSwapReset_runsAs ht)

end Sys2Proof.Machine
end

section
/-! PROOFS. Host requests of the hoist (R107, R112, R117, R118, R120, R121, R127): a trip, a jog, a stop, a learning run
and a brake test. -/

namespace Sys2Proof.Machine

section
variable {s : State} {h : Hdr} {c : Nat}

/-! ### What the state of a taken request reads -/

@[simp] theorem takenOn_hoist : (takenOn s h).hoist c = s.hoist c := by rw [takenOn_host]; rfl
@[simp] theorem takenOn_dcar : (takenOn s h).dcar c = s.dcar c := by rw [takenOn_host]; rfl
@[simp] theorem takenOn_par {key : Nat} : (takenOn s h).par key c = s.par key c := by rw [takenOn_host]; rfl
@[simp] theorem takenOn_torqueLoop : (takenOn s h).torqueLoop c = s.torqueLoop c := by rw [takenOn_host]; rfl
@[simp] theorem takenOn_startable : (takenOn s h).startable c = s.startable c := by rw [takenOn_host]; rfl
@[simp] theorem takenOn_standstill : (takenOn s h).standstill c = s.standstill c := by rw [takenOn_host]; rfl
@[simp] theorem takenOn_atSomeLanding : (takenOn s h).atSomeLanding c = s.atSomeLanding c := by rw [takenOn_host]; rfl
@[simp] theorem takenOn_doorsLocked : (takenOn s h).doorsLocked c = s.doorsLocked c := by rw [takenOn_host]; rfl
@[simp] theorem takenOn_fusedOk : (takenOn s h).fusedOk c = s.fusedOk c := by rw [takenOn_host]; rfl
@[simp] theorem hoistTaken_takenOn : hoistTaken (takenOn s h) c = hoistTaken s c := by rw [takenOn_host]; rfl
@[simp] theorem jogBusy_takenOn : jogBusy (takenOn s h) c = jogBusy s c := by rw [takenOn_host]; rfl
@[simp] theorem torqueBank_takenOn {l : Nat} {b : Bank} : torqueBank (takenOn s h) l b = torqueBank s l b := by
  rw [takenOn_host]; rfl
@[simp] theorem testTorque_latch'_takenOn {e : KeyEffect} {i : Option Nat} :
    testTorque ((takenOn s h).latch' e i) c = testTorque (s.latch' e i) c := by rw [takenOn_host]; rfl

/-! ### A hoist that nothing else holds -/

/-- R120, R121: the car can start; it stands, and no learning run, test, waiting start or stop holds its hoist. -/
structure HoistFree (s : State) (c : Nat) : Prop where
  startable : s.startable c = true
  standing : s.standstill c = true
  notTaken : hoistTaken s c = false
  notWaiting : (s.hoist c).waiting = false
  idle : (s.hoist c).phase = .idle
  notStopping : (s.hoist c).stopReq = none

theorem HoistFree.whenTaken (hf : HoistFree s c) : HoistFree (takenOn s h) c := by
  obtain ⟨hs, hv, ht, hw, hp, hq⟩ := hf
  exact ⟨by simpa using hs, by simpa using hv, by simpa using ht, by simpa using hw, by simpa using hp,
    by simpa using hq⟩

/-! ### TRIP_TARGET -/

/-- A car whose hoist is idle waits for the admission of a trip to a position that is no landing. -/
theorem takeTarget_of_idle {target : Int} {vLimit : Nat} (hp : (s.hoist c).phase = .idle) :
    takeTarget s c 0xFF target vLimit =
      let t := requestMove s c .trip 0xFF target vLimit
      (t, tripReply stOk 0xFF 0 (t.minStopPos c) (usOf (startPlan t c target).endAt)
        ((startPlan t c target).dir * (startPlan t c target).vPeak)) := by
  simp [takeTarget, starting, hp]

/-- R107, R127: a target by its position is taken in COMMISSION by a car that can start and that nothing else holds. -/
theorem tripTarget_position_of_free {position : Int} {vLimit : Nat} (hm : s.mode = .commission)
    (hs : s.startable c = true) (hc : (s.hoist c).stopClass = none) (hq : (s.hoist c).stopReq = none)
    (ht : hoistTaken s c = false) (hp : (s.hoist c).phase = .idle) :
    tripTarget s c 1 0 position vLimit = takeTarget s c 0xFF position vLimit := by
  simp [tripTarget, motionHostOk, hm, hs, hc, hq, ht, hp]

theorem tripTarget_servedBy {position vLimit : U32} (ht : hasTurn s h 0x20 8 12 false) :
    servedBy (.tripTarget h false 1 0 position vLimit) h 0x20 true
      (fun s => tripTarget s h.inst.toNat 1 0 position.toInt vLimit.toNat) s := by
  have he := exec_host (s := s) (i := .tripTarget h false 1 0 position vLimit) rfl rfl nofun
  exact served_done he rfl rfl rfl rfl beq_iff_eq.2 rfl ht

/-! ### JOG -/

/-- R118, R127: a jog is demanded in COMMISSION, or in the Inspection regime where the host may, of a car that can start
and that nothing else holds. -/
theorem hostJog_of_free {dir : Nat} (hm : s.mode = .commission ∨ (s.dcar c).regime = .inspection ∧ s.par 0x3034 c = 1)
    (hs : s.startable c = true) (hb : jogBusy s c = false) :
    hostJog s c dir =
      let t := jogDemand s c dir true
      (t, [0#8] ++ le 1 (t.hoist c).jogDir ++ le 2 0 ++ leI 4 (t.hoist c).refSpeed) := by
  have hm' : (s.mode == .commission || ((s.dcar c).regime == .inspection && s.par 0x3034 c == 1)) = true := by
    simpa using hm
  simp only [hostJog, hm', hs, hb, Bool.not_true, Bool.false_eq_true, if_false]
  rfl

theorem jog_servedBy {direction : U8} (hd : direction.toNat ≤ 2) (ht : hasTurn s h 0x21 8 4 false) :
    servedBy (.jog h false direction) h 0x21 true (fun s => hostJog s h.inst.toNat direction.toNat) s := by
  have he := exec_host (s := s) (i := .jog h false direction) rfl rfl nofun
  exact served_done he rfl rfl rfl rfl beq_iff_eq.2 (by simpa [firstFail] using hd) ht

/-! ### STOP -/

/-- R117: a stop of class 0 to 2 acts from the next hoist sample. -/
theorem hostStop_fst_of_ne {cls : Nat} (hc : cls ≠ 3) : (hostStop s c cls).1 = s.requestStop c cls :=
  if_neg (by simpa using hc)

theorem stop_servedBy {cls : U8} (hc : cls.toNat ≤ 3) (ht : hasTurn s h 0x22 8 4 false) :
    servedBy (.stop h false cls) h 0x22 true (fun s => hostStop s h.inst.toNat cls.toNat) s := by
  have he := exec_host (s := s) (i := .stop h false cls) rfl rfl nofun
  exact served_done he rfl rfl rfl rfl beq_iff_eq.2 (by simpa [firstFail] using hc) ht

/-! ### LEARN_RUN -/

/-- R121: a learning run starts with a good position, where nothing else holds the hoist. -/
theorem startLearn_of_free {dz : Nat} {sw : List Nat} (hf : HoistFree s c) (ho : s.fusedOk c = true) :
    startLearn s c dz sw =
      let t := (s.latch' .nextLearn (some c)).modHoist c (fun x =>
        { x with learn := { state := 1, dz := dz, switches := sw } })
      let t := requestMove t c .learn 0xFF (learnTarget t c 0) 0
      (t, learnReply t c stOk) := by
  obtain ⟨hs, hv, ht, hw, hp, hq⟩ := hf
  simp [startLearn, ho, hs, hv, ht, hw, hp, hq]

/-- R123: a run that the host aborts stops in class 1. -/
theorem abortLearn_of_host (hl : (s.hoist c).learn.state = 1) :
    abortLearn s c 5 = record
      ((s.modHoist c (fun x => { x with learn := { x.learn with state := 3, reason := 5 } })).requestStop c 1)
      { code := 0x3402, sev := 1, inst := c, car := some c, payload := le 1 5 } := by
  simp [abortLearn, hl]

/-- R121, R376: the switches in use and the door zone are inputs of the safety unit, and the others are 0xFF. -/
theorem learnChecks_pass {dz n : Nat} {sw : List Nat} (hd : dz ≤ 95) (hn : n ≤ 8)
    (hin : (sw.take n).all (· ≤ 95) = true) (hout : (sw.drop n).all (· == 0xFF) = true) :
    firstFail (learnChecks false dz n sw true) = none := by
  have hin' : (sw.take n).any (fun i => i > 95) = false := by simpa using hin
  have hout' : (sw.drop n).any (· != 0xFF) = false := by simpa using hout
  have hr : (decide (dz > 95) || decide (n > 8)) = false := by simp; omega
  simp [learnChecks, firstFail, hin', hout', hr]

section
variable {dz n : U8} {sw : List U8}

theorem learnRunStart_servedBy (hl : sw.length = 8)
    (hc : firstFail (learnChecks false dz.toNat n.toNat (sw.map (·.toNat)) true) = none)
    (ht : hasTurn s h 0x24 8 12 false) :
    servedBy (.learnRunStart h false dz n sw) h 0x24 true
      (fun s => startLearn s h.inst.toNat dz.toNat ((sw.map (·.toNat)).take n.toNat)) s := by
  have hw : Instr.wellFormed (.learnRunStart h false dz n sw) = true := by simp [Instr.wellFormed, hl]
  exact served_done (exec_host rfl hw nofun) rfl rfl rfl rfl beq_iff_eq.2 hc ht

theorem learnRunAbort_servedBy (hl : sw.length = 8) (ht : hasTurn s h 0x24 8 12 false) :
    servedBy (.learnRunAbort h false dz n sw) h 0x24 true
      (fun s => let s := abortLearn s h.inst.toNat 5; (s, learnReply s h.inst.toNat stOk)) s := by
  have hw : Instr.wellFormed (.learnRunAbort h false dz n sw) = true := by simp [Instr.wellFormed, hl]
  exact served_done (exec_host rfl hw nofun) rfl rfl rfl rfl beq_iff_eq.2 rfl ht

end

/-! ### BRAKE_TEST -/

theorem torqueLoop_of_startable (hs : s.startable c = true) : ∃ l, s.torqueLoop c = some l := by
  cases hl : s.torqueLoop c with
  | some l => exact ⟨l, rfl⟩
  | none => simp [State.startable, hl] at hs

/-- R120: a test starts in COMMISSION at a landing with the doors locked, where nothing else holds the hoist the torque
of the test is within the loop's limit. -/
theorem startTest_of_free {who : Chan × U16} {brakes dirs : Nat} (hf : HoistFree s c) (hm : s.mode = .commission)
    (ha : s.atSomeLanding c = true) (hd : s.doorsLocked c = true)
    (hu : ∀ l, s.torqueLoop c = some l →
      testTorque (s.latch' .nextBrakeTest (some c)) c ≤ (torqueBank s l (s.loop l).active).uMax) :
    startTest s who c brakes dirs =
      let t := (s.latch' .nextBrakeTest (some c)).modHoist c (fun x =>
        { x with bt := { state := 1, brakes := brakes, dirs := dirs, notify := [who] } })
      let t := requestMove t c .brakeTest 0xFF (t.fusedPos c) 0
      (t, btReply t c stPending) := by
  obtain ⟨hs, hv, ht, hw, hp, hq⟩ := hf
  obtain ⟨l, hl⟩ := torqueLoop_of_startable hs
  simp [startTest, motionHostOk, hm, hv, ha, hd, hs, ht, hw, hp, hq, hl, Int.not_lt.2 (hu l hl)]

theorem brakeTestStart_servedBy {brakes dirs : U8} (hb : 1 ≤ brakes.toNat ∧ brakes.toNat ≤ 3)
    (hd : 1 ≤ dirs.toNat ∧ dirs.toNat ≤ 3) (ht : hasTurn s h 0x25 8 4 false) :
    servedBy (.brakeTestStart h false brakes dirs) h 0x25 true
      (fun s => startTest s (h.chan, h.seq) h.inst.toNat brakes.toNat dirs.toNat) s := by
  have he := exec_host (s := s) (i := .brakeTestStart h false brakes dirs) rfl rfl nofun
  have hc : (false || decide (brakes.toNat > 3) || decide (dirs.toNat > 3) || brakes == 0 || dirs == 0) = false := by
    simp
    bv_omega
  exact served_done he rfl rfl rfl rfl beq_iff_eq.2 (by simp only [firstFail, hc]; rfl) ht

end

/-! ### The statement -/

/-- Settles O22 (R107, R112, R117, R118, R120, R121, R127): each request is answered by its own action, which the
conditions bring down to the effect of its rule. -/
theorem hoistRequestsServed : Obligations.HoistRequestsServed := by
  intro s h
  refine ⟨fun position vLimit hm hs hc hq hk hp ht => ?_, fun direction hd hm hs hb ht => ?_, fun cls hc ht => ?_,
    fun ht => ?_, fun dz n sw hl hz hn hin hout hf hs hv hk hw hp hq ht => ?_, fun dz n sw hl hr ht => ?_,
    fun brakes dirs hb1 hb3 hd1 hd3 hm hv ha hd hs hk hw hp hq hu ht => ?_⟩
  · refine servedBy_congr ?_ (tripTarget_servedBy ht)
    exact (tripTarget_position_of_free (by simpa using hm) (by simpa using hs) (by simpa using hc) (by simpa using hq)
      (by simpa using hk) (by simpa using hp)).trans (takeTarget_of_idle (by simpa using hp))
  · exact servedBy_congr (hostJog_of_free (by simpa using hm) (by simpa using hs) (by simpa using hb))
      (jog_servedBy hd ht)
  · exact servedBy_congr (Prod.ext (hostStop_fst_of_ne (by omega)) rfl) (stop_servedBy (by omega) ht)
  · -- a stop of class 3 has acted when it is answered
    exact stop_servedBy (by decide) ht
  · have hx : HoistFree (takenOn s h) h.inst.toNat := HoistFree.whenTaken ⟨hs, hv, hk, hw, hp, hq⟩
    exact servedBy_congr (startLearn_of_free hx (by simpa using hf))
      (learnRunStart_servedBy hl (learnChecks_pass hz hn hin hout) ht)
  · have ha : abortLearn (takenOn s h) h.inst.toNat 5 = _ := abortLearn_of_host (by simpa using hr)
    refine servedBy_congr ?_ (learnRunAbort_servedBy hl ht)
    simp only [ha]
  · have hx : HoistFree (takenOn s h) h.inst.toNat := HoistFree.whenTaken ⟨hs, hv, hk, hw, hp, hq⟩
    exact servedBy_congr (startTest_of_free hx (by simpa using hm) (by simpa using ha) (by simpa using hd)
      (by simpa using hu)) (brakeTestStart_servedBy ⟨hb1, hb3⟩ ⟨hd1, hd3⟩ ht)

end Sys2Proof.Machine
end

section
/-! PROOFS. The start of a trip (R110, R112, R113, R185): admission, pre-torque, brakes, start time-out and
reversal dwell. -/

namespace Sys2Proof.Machine

section
variable {s : State} {c : Fin 8}

/-! ### Pre-torque -/

/-- R110: a dwell that has not run out keeps the brakes applied. -/
theorem settleExpiry_of_dwell {c : Nat} (hp : (s.hoist c).phase = .settle) (hd : dwellBlocks s c = true) :
    settleExpiry s c = s.modHoist c (fun h => { h with settled := true }) := by
  simp [settleExpiry, hp, hd]

/-- R120: a test of both brakes lifts none of them. -/
theorem settleExpiry_of_bothTested {c : Nat} (hp : (s.hoist c).phase = .settle) (hd : dwellBlocks s c = false)
    (hk : (s.hoist c).kind = .brakeTest) (hb : (s.hoist c).bt.brakes = 3) : settleExpiry s c = beginRun s c := by
  simp [settleExpiry, hp, hd, hk, hb]

/-- R112 step 4. -/
theorem settleExpiry_of_lifting {c : Nat} (hp : (s.hoist c).phase = .settle) (hd : dwellBlocks s c = false)
    (hk : ¬((s.hoist c).kind = .brakeTest ∧ (s.hoist c).bt.brakes = 3)) : settleExpiry s c = liftBrakes s c := by
  simp [settleExpiry, hp, hd, hk]

theorem exec_pretorqueSettleExpiry (hr : s.hoistRuns = true) :
    exec (.pretorqueSettleExpiry c) s = .next (settleExpiry s c) := congrArg Host.Outcome.next (if_pos hr)

/-! ### The other events -/

theorem exec_tripAdmission (hr : s.hoistRuns = true) : exec (.tripAdmission c) s = .next (tripAdmission s c) :=
  congrArg Host.Outcome.next (if_pos hr)

theorem exec_brakesOpenConfirmed (hr : s.hoistRuns = true) (hp : (s.hoist c).phase = .brakesLifting) :
    exec (.brakesOpenConfirmed c) s = .next (beginRun s c) := congrArg Host.Outcome.next (if_pos (by simp [hr, hp]))

theorem starting_iff {h : Hoist} :
    starting h = true ↔ h.phase = .waitReady ∨ h.phase = .settle ∨ h.phase = .brakesLifting := by
  simp [starting, or_assoc]

theorem exec_startTimeout (hr : s.hoistRuns = true) (hs : starting (s.hoist c) = true) :
    exec (.startTimeout c) s = .next
      (raise (abandonStart s c) { code := 0x3120, sev := 2, inst := c, car := some (c : Nat) }) :=
  congrArg Host.Outcome.next (if_pos (by simp [hr, hs]))

/-- R110: the dwell is over; the brakes of a settled car lift. -/
theorem exec_reversalDwellExpiry (hr : s.hoistRuns = true) (hd : (s.hoist c).dwellRunning = true) :
    exec (.reversalDwellExpiry c) s = .next (let t := s.modHoist c (fun h => { h with dwellRunning := false })
      if (s.hoist c).phase == .settle && (s.hoist c).settled then liftBrakes t c else t) :=
  congrArg Host.Outcome.next (if_pos (by simp [hr, hd]))

end

/-! ### The statement -/

/-- Settles O46 (R110, R112, R113, R185): each event by its own effect, in the phase of the start that awaits it. -/
theorem startEvents : Obligations.StartEvents := by
  intro s c hr
  refine ⟨exec_tripAdmission hr, fun hp hd => ?_, fun hp hd hk hb => ?_, fun hp hd hk => ?_,
    exec_brakesOpenConfirmed hr, fun hp => exec_startTimeout hr (starting_iff.2 hp), fun hd hp hs => ?_,
    fun hd hs => ?_⟩
  · rw [exec_pretorqueSettleExpiry hr, settleExpiry_of_dwell hp hd]
  · rw [exec_pretorqueSettleExpiry hr, settleExpiry_of_bothTested hp hd hk hb]
  · rw [exec_pretorqueSettleExpiry hr, settleExpiry_of_lifting hp hd hk, liftBrakes]
  · rw [exec_reversalDwellExpiry hr hd]
    simp [hp, hs]
  · rw [exec_reversalDwellExpiry hr hd]
    simp [hs]

end Sys2Proof.Machine
end

section
/-! PROOFS. The end of a trip (R115), relevelling (R116), the end of a jog (R118, R119) and of a brake test (R120). -/

namespace Sys2Proof.Machine

section
variable {s : State} {c : Fin 8}

/-! ### The stop sequence -/

theorem exec_brakesClosedConfirmed (hr : s.hoistRuns = true) :
    exec (.brakesClosedConfirmed c) s = .next (brakesClosedConfirmed s c) := congrArg Host.Outcome.next (if_pos hr)

/-- R115: the car stands with its brakes applied, and goes on to a landing behind it if it was stopped between two. -/
theorem brakesClosedConfirmed_of_closing {c : Nat}
    (hp : (s.hoist c).phase = .brakesSetting ∨ (s.hoist c).phase = .emergency) :
    brakesClosedConfirmed s c =
      let t := (s.modHoist c (fun h => { h with
          phase := if h.phase = .emergency then .idle else .torqueHold
          dwellRunning := if h.ran then h.prevDir != 0 else h.dwellRunning, admitFlag := false, jogStop := false
          kind := if h.waiting then h.kind else .none
          stopClass := if h.stopBehind then h.stopClass else none })).modCarSaf c (fun k => { k with advReq := false, relReq := false })
      if (s.hoist c).stopBehind then goBehind t c else t := by
  have hc : ((s.hoist c).phase == .brakesSetting || (s.hoist c).phase == .emergency) = true := by simpa using hp
  simp only [brakesClosedConfirmed, hc, Bool.not_true, Bool.false_eq_true, if_false, beq_iff_eq]

theorem brakesClosedConfirmed_of_not_closing {c : Nat} (hs : (s.hoist c).phase ≠ .brakesSetting)
    (he : (s.hoist c).phase ≠ .emergency) : brakesClosedConfirmed s c = s := by
  simp [brakesClosedConfirmed, hs, he]

theorem exec_torqueHoldExpiry (hr : s.hoistRuns = true) (hp : (s.hoist c).phase = .torqueHold) :
    exec (.torqueHoldExpiry c) s = .next (s.modHoist c (fun h => { h with
      phase := .torqueRamp, rampFrom := h.torque, pretorque := h.torque, rampFrame := s.frame })) :=
  congrArg Host.Outcome.next (if_pos (by simp [hr, hp]))

theorem exec_torqueRampEnd (hr : s.hoistRuns = true) (hp : (s.hoist c).phase = .torqueRamp) :
    exec (.torqueRampEnd c) s = .next (serveHere (torqueRampEnd s c) c) :=
  congrArg Host.Outcome.next (if_pos (by simp [hr, hp]))

theorem exec_torqueRampEnd_of_ne (hp : (s.hoist c).phase ≠ .torqueRamp) : exec (.torqueRampEnd c) s = .next s :=
  congrArg Host.Outcome.next (if_neg (by simp [hp]))

/-! ### Relevelling -/

theorem exec_relevelDelayExpiry (hr : s.hoistRuns = true) :
    exec (.relevelDelayExpiry c) s = .next (relevelDemand s c) := congrArg Host.Outcome.next (if_pos hr)

/-- R116: the car stands at a landing whose position is known, with nothing else to do. -/
structure MayRelevel (s : State) (c : Nat) : Prop where
  standing : stopped (s.hoist c) = true
  notWaiting : (s.hoist c).waiting = false
  notLearning : (s.hoist c).learn.state ≠ 1
  notTesting : (s.hoist c).bt.state ≠ 1
  atLanding : s.landingHere c ≠ 0xFF
  positionSet : s.landingPos c (s.landingHere c) ≠ unset
  atRest : s.atRest c = true

section
variable {c : Nat}

theorem MayRelevel.demandHeard (hm : MayRelevel s c) :
    (!stopped (s.hoist c) || (s.hoist c).waiting || (s.hoist c).learn.state == 1 || (s.hoist c).bt.state == 1
      || s.landingHere c == 0xFF || s.landingPos c (s.landingHere c) == unset || !s.atRest c) = false := by
  obtain ⟨hs, hw, hl, hb, hn, hp, hr⟩ := hm
  simp [hs, hw, hl, hb, hn, hp, hr]

/-- Log entry 97: the limit is reported once at a stop. -/
theorem relevelDemand_of_limit (hm : MayRelevel s c) (hn : (s.hoist c).relevels = s.parN 0x3010 c) :
    relevelDemand s c = raise (s.modHoist c (fun h => { h with relevelPending := false, relevels := h.relevels + 1 }))
      { code := 0x3131, sev := 2, inst := c, car := some c } := by
  simp only [relevelDemand, hm.demandHeard, hn, Bool.false_eq_true, if_false, Nat.lt_irrefl, BEq.rfl, if_true]

theorem relevelDemand_of_past_limit (hm : MayRelevel s c) (hn : s.parN 0x3010 c < (s.hoist c).relevels) :
    relevelDemand s c = s := by
  simp only [relevelDemand, hm.demandHeard, hn, Bool.false_eq_true, if_false, if_true]

/-- R116: with its doors locked the car starts again for the landing where it stands. -/
theorem relevelDemand_of_below_limit (hm : MayRelevel s c) (hn : (s.hoist c).relevels < s.parN 0x3010 c)
    (hd : s.doorsLocked c = true) :
    relevelDemand s c =
      let u := (s.modHoist c (fun h => { h with relevelPending := true })).modHoist c
        (fun h => { h with relevels := h.relevels + 1 })
      requestMove u c .relevel (s.landingHere c) (u.landingPos c (s.landingHere c)) 0 := by
  have hd' : (s.modHoist c (fun h => { h with relevelPending := true })).doorsLocked c = true := hd
  have hne : ((s.hoist c).relevels == s.parN 0x3010 c) = false := beq_false_of_ne (Nat.ne_of_lt hn)
  simp only [relevelDemand, hm.demandHeard, Nat.lt_asymm hn, hne, hd', Bool.false_eq_true, if_false, Bool.true_or,
    if_true]

end

/-! ### Jog -/

/-- R118: the demand of a host that has gone silent is released. -/
theorem exec_jogKeepaliveExpiry (hr : s.hoistRuns = true) (hh : (s.hoist c).jogHost = true)
    (hj : (s.hoist c).jogDir ≠ 0 ∨ (s.hoist c).jogIgnored ≠ 0) :
    exec (.jogKeepaliveExpiry c) s = .next (jogDemand s c 0 true) :=
  congrArg Host.Outcome.next (if_pos (by simpa [hr, hh] using hj))

theorem exec_jogReversalHoldExpiry (hr : s.hoistRuns = true) (hs : s.standstill c = true) (hd : (s.hoist c).jogDir = 0)
    (hi : (s.hoist c).jogIgnored = 0) :
    exec (.jogReversalHoldExpiry c) s = .next (s.modHoist c (fun h => { h with jogHold := false, jogLast := 0 })) :=
  congrArg Host.Outcome.next (if_pos (by simp [hr, hs, hd, hi]))

/-! ### The brake test -/

theorem exec_brakeTestPhaseEnd (hr : s.hoistRuns = true) :
    exec (.brakeTestPhaseEnd c) s = .next (btPhaseEnd s c) := congrArg Host.Outcome.next (if_pos hr)

section
variable {c : Nat} (hb : (s.hoist c).bt.state = 1) (hk : (s.hoist c).kind = .brakeTest)
  (hp : (s.hoist c).phase = .running)
include hb hk hp

theorem btPhaseEnd_of_lt (hn : (s.hoist c).bt.phase < 3) :
    btPhaseEnd s c = s.modHoist c (fun h =>
      { h with bt := { h.bt with phase := h.bt.phase + 1, phaseFrame := s.frame } }) := by
  simp [btPhaseEnd, hb, hk, hp, hn]

/-- R120: with no direction left the brakes tested have passed. -/
theorem btPhaseEnd_of_last (hn : 3 ≤ (s.hoist c).bt.phase) (hd : nextTestDir (s.hoist c).bt = none) :
    btPhaseEnd s c = endTest (event (s.modCarSaf c (fun k => { k with
      btPassA := if bitAt (s.hoist c).bt.brakes 0 then s.opTime else k.btPassA
      btPassB := if bitAt (s.hoist c).bt.brakes 1 then s.opTime else k.btPassB })) 0x3301 [] c) c 2 := by
  simp [btPhaseEnd, hb, hk, hp, Nat.not_lt.2 hn, hd]

end

end

/-! ### The statement -/

/-- Settles O47 (R115, R116, R118 to R120; log entry 97): each event by its own effect in the phase that awaits it;
relevelling by the count of those at this stop. -/
theorem stopEvents : Obligations.StopEvents := by
  intro s c hr
  refine ⟨fun hp => ?_, fun hs he => ?_, exec_torqueHoldExpiry hr, exec_torqueRampEnd hr, exec_torqueRampEnd_of_ne,
    fun h1 h2 h3 h4 h5 h6 h7 => ?_, fun hh hj => ?_, exec_jogReversalHoldExpiry hr, fun hb hk hp hn => ?_,
    fun hb hk hp hn hd => ?_⟩
  · rw [exec_brakesClosedConfirmed hr, brakesClosedConfirmed_of_closing hp]
  · rw [exec_brakesClosedConfirmed hr, brakesClosedConfirmed_of_not_closing hs he]
  · have hm : MayRelevel s c := ⟨h1, h2, h3, h4, h5, h6, h7⟩
    have he := exec_relevelDelayExpiry (c := c) hr
    refine ⟨fun hn => ?_, fun hn => ?_, fun hn hd => ⟨_, he, relevelDemand_of_below_limit hm hn hd⟩⟩
    · rw [he, relevelDemand_of_limit hm hn]
    · rw [he, relevelDemand_of_past_limit hm hn]
  · rw [exec_jogKeepaliveExpiry hr hh hj]
    rfl
  · rw [exec_brakeTestPhaseEnd hr, btPhaseEnd_of_lt hb hk hp hn]
  · rw [exec_brakeTestPhaseEnd hr, btPhaseEnd_of_last hb hk hp hn hd]

end Sys2Proof.Machine
end

section
/-! PROOFS. Host requests of the door engine (R132, R149, R150, R152, R154): `DOOR_COMMAND` by its action, and
`DOOR_TABLE_WRITE`. -/

namespace Sys2Proof.Machine

section
variable {s : State} {h : Hdr} {d : Nat}

/-! ### What the state of a taken request reads -/

@[simp] theorem takenOn_door : (takenOn s h).door d = s.door d := by rw [takenOn_host]; rfl
@[simp] theorem takenOn_parN {key : Nat} : (takenOn s h).parN key d = s.parN key d := by rw [takenOn_host]; rfl
@[simp] theorem takenOn_doorPresent : (takenOn s h).doorPresent d = s.doorPresent d := by rw [takenOn_host]; rfl
@[simp] theorem takenOn_slotPhases : (takenOn s h).slotPhases d = s.slotPhases d := by rw [takenOn_host]; rfl
@[simp] theorem doorHostOk_takenOn {c : Nat} : doorHostOk (takenOn s h) c = doorHostOk s c := by rw [takenOn_host]; rfl
@[simp] theorem operatorReason_takenOn : operatorReason (takenOn s h) d = operatorReason s d := by
  rw [takenOn_host]; rfl

/-! ### What an operator does on demand -/

section
variable {target vLimit : Nat} (hr : operatorReason s d = 0)
include hr

/-- R150, R152: an operator that takes commands opens where it is referenced and may open. -/
theorem demandOpen_of_allowed (hf : (s.door d).referenced = true) (ho : openReason s d = 0) :
    demandOpen s d target vLimit = (openTo s d target vLimit, 0) := by
  simp [demandOpen, hr, hf, ho]

/-- R149: a close ends a hold and the dwell. -/
theorem demandClose_of_able {nudge : Bool} :
    demandClose s d vLimit nudge = (doClose (s.modDoor d (fun x =>
      { x with vLimit := vLimit, closeDemand := true, holdOpen := false, dwell := false })) d nudge, 0) := by
  simp [demandClose, hr]

theorem doorCommand_stop :
    doorCommand s d 0 target vLimit =
      let t := s.modDoor d (fun x => { x with holdOpen := false, closeDemand := false, openRetry := false })
      (if movingState (t.door d).state then turnByCommand t d .stop else t, 0) := by
  simp [doorCommand, hr]

/-- R149: an open door is held where it stands. -/
theorem doorCommand_holdOpen_of_opened (hs : (s.door d).state = .opened) :
    doorCommand s d 4 target vLimit = (s.modDoor d (fun x =>
      { x with holdOpen := true, closeDemand := false, dwell := false, next := x.next.keepOpen }), 0) := by
  simp [doorCommand, hr, hs]

/-- R149, R150: any other door opens first, if it is not opening already; then it must be referenced and may open. -/
theorem doorCommand_holdOpen_of_not_opened (hs : (s.door d).state ≠ .opened)
    (ho : (s.door d).state = .opening ∨ (s.door d).referenced = true ∧ openReason s d = 0) :
    doorCommand s d 4 target vLimit = ((openTo s d target vLimit).modDoor d (fun x =>
      { x with holdOpen := true, closeDemand := false, dwell := false, next := x.next.keepOpen }), 0) := by
  by_cases hg : (s.door d).state = .opening
  · simp [doorCommand, hr, hg]
  · obtain ⟨hf, ho⟩ := ho.resolve_left hg
    simp [doorCommand, hr, hs, hg, demandOpen_of_allowed hr hf ho]

theorem doorCommand_releaseHold :
    doorCommand s d 5 target vLimit =
      (s.modDoor d (fun x => { x with holdOpen := false, dwell := x.dwell || x.holdOpen }), 0) := by
  simp [doorCommand, hr]

/-- R139: a door that moves is brought to rest before it references. -/
theorem doorCommand_reference :
    doorCommand s d 6 target vLimit =
      (if (s.door d).state = .referencing then s
        else if movingState (s.door d).state = true then turnByCommand s d .doReference
        else startReferencing s d, 0) := by
  simp only [doorCommand, hr, bne_self_eq_false, Bool.false_eq_true, if_false, beq_iff_eq]
  split_ifs <;> rfl

end

/-! ### DOOR_COMMAND -/

/-- A request that runs as one served with `e` and passes its checks, where these depend on the state. -/
theorem servedBy_of_run {i : Instr} {r : Req} {op insts len len' : Nat} {isRead m : Bool} {run : State → State}
    {e : State → State × Bytes} (he : exec i s = hostRow s i h op len' run)
    (hx : run (takenOn s h) = serve (takenOn s h) h r e) (ho : r.op = op) (hi : r.insts = insts)
    (hr : r.isRead = isRead) (hm : r.mirrored = m) (hl : h.len = len → r.lenOk = true)
    (hc : firstFail r.checks = none) (ht : hasTurn s h op insts len isRead) : servedBy i h op m e s := by
  subst ho hm
  rw [servedBy, he, hostRow_taken ht.1, hx, serve_none (gate_hasTurn ht rfl hi hr hl hc)]

/-- The host may command operator `d`, which is present and takes commands (R129, R154). -/
structure DoorReady (s : State) (d : Nat) : Prop where
  hostOk : doorHostOk s (doorCar d) = true
  present : s.doorPresent d = true
  able : operatorReason s d = 0

theorem DoorReady.whenTaken (hd : DoorReady s d) : DoorReady (takenOn s h) d := by
  obtain ⟨hk, hp, hr⟩ := hd
  exact ⟨by simpa using hk, by simpa using hp, by simpa using hr⟩

/-- R154: an accepted `DOOR_COMMAND` is answered with the state of the door after it. A target goes with the two actions
that open. -/
theorem doorCommand_servedBy {i : Instr} (action : Nat) (target v : U32) {f : State → State}
    (he : exec i s = hostRow s i h 0x28 8 (actDoor action h false target v)) (hd : DoorReady s h.inst.toNat)
    (ht : hasTurn s h 0x28 16 12 false) (ha : (action != 1 && action != 4 && target != 0) = false)
    (hle : target.toNat ≤ s.parN 0x4006 h.inst.toNat)
    (hc : doorCommand (takenOn s h) h.inst.toNat action target.toNat v.toNat = (f (takenOn s h), 0)) :
    servedBy i h 0x28 true (fun s => (f s, doorReplyBytes (f s) h.inst.toNat stOk 0)) s := by
  refine servedBy_congr ?_ (servedBy_of_run he rfl rfl rfl rfl rfl beq_iff_eq.2 ?_ ht)
  · obtain ⟨hk, hp, -⟩ := hd.whenTaken (h := h)
    simp [hk, hp, hc]
  · simp only [takenOn_parN, Bool.false_or, ha, decide_eq_false (Nat.not_lt.2 hle)]
    rfl

/-! ### DOOR_TABLE_WRITE -/

/-- R132: the reply of a table that is taken carries its CRC. -/
theorem writeTable_reply_of_fits {n phases : Nat} {es : List Int} (hp : s.slotPhases n = phases)
    (ho : tableOkR132 phases es = true) :
    (writeTable s n phases es).2 = refusal 4 stOk ++ le 4 (crc32c (tableBytes es)).toNat := by
  simp [writeTable, hp, ho]

/-- R132, R376: two or three phases, with as many entries as these have. -/
theorem tableChecks_pass {phases : U8} {n : Nat} (hp : phases = 2 ∨ phases = 3) (hn : n = tableLen phases.toNat) :
    firstFail [(false || !(phases == 2 || phases == 3), stBadParam), (n != tableLen phases.toNat, stRange)] = none := by
  rcases hp with rfl | rfl <;> simp [firstFail, hn]

theorem doorTableWrite_servedBy {phases : U8} {count : U16} {es : List U16} (hp : phases = 2 ∨ phases = 3)
    (hn : count.toNat = tableLen phases.toNat) (hl : es.length = count.toNat)
    (ht : hasTurn s h 0x2A 4 (4 + 2 * count.toNat) false) :
    servedBy (.doorTableWrite h false phases count es) h 0x2A true
      (fun s => writeTable s h.inst.toNat phases.toNat (es.map (fun e => e.toInt))) s := by
  have hw : Instr.wellFormed (.doorTableWrite h false phases count es) = true := by simp [Instr.wellFormed, hl]
  exact served_done (exec_host rfl hw nofun) rfl rfl rfl rfl beq_iff_eq.2 (tableChecks_pass hp hn) ht

end

/-! ### The statement -/

/-- Settles O23 (R132, R139, R148 to R150, R152, R154): each command is accepted by its own action, which the conditions
bring down to the effect of its rule; a table that fits its slot is answered with its CRC. -/
theorem doorRequestsServed : Obligations.DoorRequestsServed := by
  intro s h
  refine ⟨fun ht hk hp hr => ?_, fun phases count es hp hn hl hs ho ht => ?_⟩
  · have hd : DoorReady s h.inst.toNat := ⟨hk, hp, hr⟩
    have hr' : operatorReason (takenOn s h) h.inst.toNat = 0 := hd.whenTaken.able
    refine ⟨fun v => ?_, fun target v hle hf ho => ?_, fun v => ?_, fun v => ?_, fun target v hle hs => ?_,
      fun target v hle hs ho => ?_, fun v => ?_, fun v => ?_⟩
    · exact doorCommand_servedBy 0 0 v rfl hd ht rfl (Nat.zero_le _) (doorCommand_stop hr')
    · exact doorCommand_servedBy 1 target v rfl hd ht rfl hle (demandOpen_of_allowed hr' (by simpa using hf) ho)
    · exact doorCommand_servedBy 2 0 v rfl hd ht rfl (Nat.zero_le _) (demandClose_of_able hr')
    · exact doorCommand_servedBy 3 0 v rfl hd ht rfl (Nat.zero_le _) (demandClose_of_able hr')
    · exact doorCommand_servedBy 4 target v rfl hd ht rfl hle
        (doorCommand_holdOpen_of_opened hr' (by simpa using hs))
    · exact doorCommand_servedBy 4 target v rfl hd ht rfl hle
        (doorCommand_holdOpen_of_not_opened hr' (by simpa using hs) (by simpa using ho))
    · exact doorCommand_servedBy 5 0 v rfl hd ht rfl (Nat.zero_le _) (doorCommand_releaseHold hr')
    · exact doorCommand_servedBy 6 0 v rfl hd ht rfl (Nat.zero_le _) (doorCommand_reference hr')
  · exact servedBy_congr (Prod.ext rfl (writeTable_reply_of_fits (by simpa using hs) ho))
      (doorTableWrite_servedBy hp hn hl ht)

end Sys2Proof.Machine
end

section
/-! PROOFS. Events of the door engine (R133, R138 to R140, R145, R146, R148, R149): samples, lock reports, time-outs,
retries, the two timers that close a door, and the confirmation of a table. -/

namespace Sys2Proof.Machine

section
variable {s : State} {d : Nat}

/-! ### An operator's entry -/

@[simp] theorem modDoor_parN {f : Door → Door} {key n : Nat} : (s.modDoor d f).parN key n = s.parN key n := rfl
@[simp] theorem modDoor_slotCrc {f : Door → Door} {n : Nat} : (s.modDoor d f).slotCrc n = s.slotCrc n := rfl

/-- Two updates that agree on the operator's entry have the same effect. -/
theorem modDoor_congr {f g : Door → Door} (h : f (s.door d) = g (s.door d)) : s.modDoor d f = s.modDoor d g := by
  have ht : tmod (dft {}) s.motion.doors d f = tmod (dft {}) s.motion.doors d g :=
    congrArg (tset (dft ({} : Door)) s.motion.doors d) h
  simp only [State.modDoor, ht]

/-! ### Lock reports -/

theorem lockConfirmed_of_awaitingLock (h : (s.door d).state = .awaitingLock) : lockConfirmed s d = lockNow s d := by
  simp only [lockConfirmed, h]

/-- R139: the report references an operator without a position. -/
theorem lockConfirmed_of_unreferenced (h : (s.door d).state = .unreferenced ∨ (s.door d).state = .referencing) :
    lockConfirmed s d = referenceNow s d := by
  rcases h with h | h <;> simp only [lockConfirmed, h]

/-- Log entry 4: a report that the door does not await changes nothing. -/
theorem lockConfirmed_of_not_awaited (h : (s.door d).state = .opening ∨ (s.door d).state = .opened ∨
    (s.door d).state = .closing ∨ (s.door d).state = .closedLocked) : lockConfirmed s d = s := by
  rcases h with h | h | h | h <;> simp only [lockConfirmed, h]

/-! ### The confirmation of a table -/

section
variable {crc : U32}

/-- R133: the first wrong CRC is answered by another download. -/
theorem crcConfirm_of_first_mismatch (hc : crc ≠ s.slotCrc (s.parN 0x4004 d)) (ht : (s.door d).tableTries = 0) :
    crcConfirm s d crc =
      (s.modDoor d (fun x => { x with tableCrc := crc })).modDoor d (fun x => { x with tableTries := 1 }) := by
  simp [crcConfirm, hc, ht]

/-- R133: after the second wrong CRC the operator has no table. -/
theorem crcConfirm_of_second_mismatch (hc : crc ≠ s.slotCrc (s.parN 0x4004 d)) (ht : (s.door d).tableTries ≠ 0) :
    crcConfirm s d crc = doorFault ((s.modDoor d (fun x => { x with tableCrc := crc })).modDoor d
      (fun x => { x with tableDown := false, tableOk := false, tableTries := 2, tableChange := false })) d 0x4140 := by
  simp [crcConfirm, hc, ht]

/-- R133: the right CRC of a table that has not changed leaves the door where it is. -/
theorem crcConfirm_of_match (hw : tblWf (dft {}) s.motion.doors = true) (hc : crc = s.slotCrc (s.parN 0x4004 d))
    (ht : (s.door d).tableChange = false) :
    crcConfirm s d crc = (s.modDoor d (fun x => { x with tableCrc := crc })).modDoor d
      (fun x => { x with tableOk := true, tableDown := false, tableTries := 0, tableChange := false }) := by
  have hu : ((s.modDoor d (fun x => { x with tableCrc := crc })).door d).tableChange = false := by
    rw [modDoor_self hw, ht]
  simp only [crcConfirm, modDoor_parN, modDoor_slotCrc, ← hc, BEq.rfl, if_true, ht, Bool.false_and,
    Bool.false_eq_true, if_false]
  exact modDoor_congr (by simp [hu])

end

end

/-! ### Each event, where the operator runs -/

section
variable {s : State} {d : Fin 16} (hr : s.doorsRun d = true)
include hr

/-- R140, R159: a sample of the operator; a door that comes to stand open, or locked, serves the car's stop. -/
theorem exec_doorSample (hu : s.suspended 0x0B = false) :
    exec (.doorSample d) s = .next (
      let u := doorSample s d
      let u := if (u.door d).state = .opened ∧ (s.door d).state ≠ .opened then doorsOpened u (doorCar d) else u
      settleUp (stopServed u (doorCar d))) := by
  have hg : (s.doorsRun d && !s.suspended 0x0B) = true := by simp [hr, hu]
  refine congrArg Host.Outcome.next ((if_pos hg).trans ?_)
  simp only [Bool.and_eq_true, beq_iff_eq, bne_iff_ne]

theorem exec_doorLockConfirmed : exec (.doorLockConfirmed d) s = .next (lockConfirmed s d) :=
  congrArg Host.Outcome.next (if_pos hr)

theorem exec_doorLockTimeout (hs : (s.door d).state = .awaitingLock) :
    exec (.doorLockTimeout d) s = .next (lockTimeout s d) := congrArg Host.Outcome.next (if_pos (by simp [hr, hs]))

theorem exec_referencingTimeout (hs : (s.door d).state = .referencing) :
    exec (.referencingTimeout d) s = .next (doorFault (decelerate s d .stop) d 0x4112) :=
  congrArg Host.Outcome.next (if_pos (by simp [hr, hs]))

theorem exec_openRetryExpiry (hq : (s.door d).openRetry = true) (hs : (s.door d).state = .stopped) :
    exec (.openRetryExpiry d) s = .next (startMove s d .opening) :=
  congrArg Host.Outcome.next (if_pos (by simp [hr, hq, hs]))

/-- R148: a referenced door that was to close and has not closed nudges, where nudging is on. -/
theorem exec_nudgeTimerExpiry (hc : (s.door d).closeDemand = true) (hh : (s.door d).holdOpen = false)
    (hs : (s.door d).state ≠ .closedLocked) (hf : (s.door d).referenced = true) (hn : s.parN 0x4051 d ≠ 0) :
    exec (.nudgeTimerExpiry d) s = .next (demandClose s d (s.door d).vLimit true).1 :=
  congrArg Host.Outcome.next (if_pos (by simp [hr, hc, hh, hs, hf, hn]))

theorem exec_doorDwellExpiry (hd : (s.door d).dwell = true) (hh : (s.door d).holdOpen = false)
    (hs : (s.door d).state = .opened) : exec (.doorDwellExpiry d) s = .next (demandClose s d 0 false).1 :=
  congrArg Host.Outcome.next (if_pos (by simp [hr, hd, hh, hs]))

theorem exec_tableCrcConfirm {crc : U32} (hd : (s.door d).tableDown = true) :
    exec (.tableCrcConfirm d crc) s = .next (crcConfirm s d crc) :=
  congrArg Host.Outcome.next (if_pos (by simp [hr, hd]))

end

/-! ### The statement -/

/-- Settles O48 (R133, R138 to R140, R146, R148, R149; log entry 4 for an event that is not awaited): each event by its
own effect where the operator awaits it; the two timers that close a door by the demand they make. -/
theorem doorEvents : Obligations.DoorEvents := by
  intro s d hr hw
  refine ⟨fun hu => ⟨_, exec_doorSample hr hu, rfl⟩, fun hs => ?_, fun hs => ?_, fun hs => ?_,
    exec_doorLockTimeout hr, fun hs => ?_, exec_referencingTimeout hr, exec_openRetryExpiry hr,
    fun hc hh hs hf hn ho => ?_, fun hn => ?_, fun hd hh hs ho => ?_, fun hd hh => ?_, fun crc hd hc ht => ?_,
    fun crc hd hc ht => ?_, fun crc hd hc ht => ?_⟩
  · rw [exec_doorLockConfirmed hr, lockConfirmed_of_awaitingLock hs]
  · rw [exec_doorLockConfirmed hr, lockConfirmed_of_unreferenced hs]
  · rw [exec_doorLockConfirmed hr, lockConfirmed_of_not_awaited hs]
  · exact congrArg Host.Outcome.next (if_neg (by simp [hs]))
  · rw [exec_nudgeTimerExpiry hr hc hh hs hf hn, demandClose_of_able ho]
  · exact congrArg Host.Outcome.next (if_neg (by simp [hn]))
  · rw [exec_doorDwellExpiry hr hd hh hs, demandClose_of_able ho]
  · exact congrArg Host.Outcome.next (if_neg (by simp [hh]))
  · rw [exec_tableCrcConfirm hr hd, crcConfirm_of_first_mismatch hc ht]
  · rw [exec_tableCrcConfirm hr hd, crcConfirm_of_second_mismatch hc ht, doorFault]
  · rw [exec_tableCrcConfirm hr hd, crcConfirm_of_match hw hc ht]

end Sys2Proof.Machine
end

section
/-! PROOFS. Host requests of dispatching (R156 to R159, R178, R180, R181, R183): entering and cancelling a call, the
regime and the group service of a car, and the power budget of a domain. -/

namespace Sys2Proof.Machine

section
variable {s : State} {h : Hdr}

/-! ### What the state of a taken request reads -/

@[simp] theorem takenOn_liveCalls : (takenOn s h).liveCalls = s.liveCalls := by rw [takenOn_host]; rfl
@[simp] theorem takenOn_pairNo : (takenOn s h).pairNo = s.pairNo := by rw [takenOn_host]; rfl
@[simp] theorem takenOn_disp : (takenOn s h).disp = s.disp := by rw [takenOn_host]
@[simp] theorem takenOn_freeId : (takenOn s h).freeId = s.freeId := by
  unfold State.freeId
  generalize List.range 4096 = ids
  rw [takenOn_pairNo, takenOn_disp]
@[simp] theorem takenOn_call? {id : Nat} : (takenOn s h).call? id = s.call? id := by rw [takenOn_host]; rfl
@[simp] theorem takenOn_heldCall? {id : Nat} : (takenOn s h).heldCall? id = s.heldCall? id := by rw [takenOn_host]; rfl
@[simp] theorem takenOn_configured {c : Nat} : (takenOn s h).configured c = s.configured c := by rw [takenOn_host]; rfl
@[simp] theorem mergeTarget_takenOn {k : Call} : mergeTarget (takenOn s h) k = mergeTarget s k := by
  rw [takenOn_host]; rfl

/-! ### A request that fails a check of its own -/

/-- R376: with checks 2 to 6 passed, the first of its own checks that fails refuses a request. -/
theorem gate_refused {r : Req} {op insts len st : Nat} {isRead : Bool} (ht : hasTurn s h op insts len isRead)
    (ho : r.op = op) (hi : r.insts = insts) (hr : r.isRead = isRead) (hl : h.len = len → r.lenOk = true)
    (hc : firstFail r.checks = some st) : gate (takenOn s h) h r = some (r.refused st) := by
  subst ho hi hr
  obtain ⟨-, hf, hm, hn, hz, hlt⟩ := ht
  have hi : ¬(r.insts = 1 ∧ ¬h.inst = 0#8) := fun ⟨h1, h0⟩ => h0 (hz h1)
  simp [gate, firstFail, hf, hm, hl hn, hi, Nat.not_le.2 hlt, hc]

/-- R377: a request that fails a check of its own is answered with that refusal, and changes the host unit alone. -/
theorem readsBack_of_refused {i : Instr} {r : Req} {op insts len len' st : Nat} {isRead : Bool} {p : Bytes}
    {run : State → State} {e : State → State × Bytes} (he : exec i s = hostRow s i h op len' run)
    (hx : run (takenOn s h) = serve (takenOn s h) h r e) (ho : r.op = op) (hi : r.insts = insts)
    (hr : r.isRead = isRead) (hl : h.len = len → r.lenOk = true) (hc : firstFail r.checks = some st)
    (hp : r.refused st = p) (ht : hasTurn s h op insts len isRead) : readsBack i h op (fun _ => p) s := by
  have hs : run (takenOn s h) = answer (takenOn s h) h op false p := by
    rw [hx, serve, gate_refused ht ho hi hr hl hc, hp, ← ho]
  refine ⟨_, (he.trans (hostRow_taken ht.1)).trans (congrArg Host.Outcome.next hs), ?_, answer_replied⟩
  rw [answer_host, takenOn_host]
  rfl

/-! ### CALL_ENTER -/

/-- Only a car call and a priority call name a car that may refuse them. -/
theorem namedRefusal_hallCall {k : Call} (hk : k.kind = 0) : namedRefusal s k = none := by
  simp only [namedRefusal, hk]

/-- R157, R158: a hall call without an equal is entered under the free identifier. -/
theorem enterCall_hallCall {k : Call} {id : Nat} (hk : k.kind = 0) (hm : mergeTarget s k = none)
    (hl : s.liveCalls < 4096) (hi : s.freeId = some id) :
    enterCall s k = (addCall s { k with id := id, born := s.frame }, .inl id) := by
  simp [enterCall, hm, hl, hi, hk]

/-- A call that is new joins no request to another. -/
theorem joinNotify_of_new {t : State} {id : Nat} (hc : s.call? id = none) : joinNotify s t h id = t := by
  simp only [joinNotify, hc]

/-- R376: the fields of a hall call from any landing pass their checks. -/
theorem callFields_hallCall {origin : Nat} : firstFail (callFields 0 origin 0xFF 0xFF 0 0 0xFF 0) = none := by
  simp [firstFail, callFields, bitAt]

/-- R156, R158: a call that passes its checks is answered with its identifier, or that of the call it joins. -/
theorem callEnter_servedBy {kind origin dest destGroup pax flags car level : U8} {k : Call} {t : State} {id : Nat}
    (hk : k = { newCall kind.toNat h.inst.toNat origin.toNat dest.toNat destGroup.toNat pax.toNat flags.toNat car.toNat
      level.toNat with notify := [(h.chan, h.seq)] })
    (hc : firstFail (callFields kind.toNat origin.toNat dest.toNat destGroup.toNat pax.toNat flags.toNat car.toNat
      level.toNat) = none)
    (hn : namedRefusal (takenOn s h) k = none) (he : enterCall (takenOn s h) k = (t, .inl id))
    (ht : hasTurn s h 0x10 4 8 false) :
    servedBy (.callEnter h false kind origin dest destGroup pax flags car level) h 0x10 true
      (fun s => (joinNotify s t h id, le 1 stPending ++ le 1 0 ++ le 2 id)) s := by
  subst hk
  refine served_as (exec_host (i := .callEnter h false kind origin dest destGroup pax flags car level) rfl rfl nofun)
    rfl rfl rfl rfl beq_iff_eq.2 hc ?_ ht
  simp only [hn, he]

/-! ### CALL_CANCEL -/

/-- R159: a call of the group that has not boarded is cancelled; one that has is left as it is. -/
theorem callCancel_servedBy {id : U16} {c : Call} (hc : s.heldCall? id.toNat = some c) (hg : c.group = h.inst.toNat)
    (ht : hasTurn s h 0x11 4 4 false) :
    servedBy (.callCancel h false id) h 0x11 true (fun s =>
      (if c.state ≤ 1 then cancelCall s c.id else s,
        le 1 stOk ++ le 1 (if c.state ≤ 1 then 4 else c.state) ++ le 2 0)) s := by
  refine served_as (exec_host (i := .callCancel h false id) rfl rfl nofun) rfl rfl rfl rfl beq_iff_eq.2 rfl ?_ ht
  simp [hc, hg]

/-! ### CAR_REGIME_SET and CAR_SERVICE_SET -/

/-- R178: the host may demand any regime but Inspection, and withdraw its demand, of a car that is configured. -/
theorem carRegimeSet_servedBy {regime : U8} (h2 : regime ≠ 2) (hr : regime.toNat ≤ 6 ∨ regime = 0xFF)
    (hc : s.configured h.inst.toNat = true) (ht : hasTurn s h 0x14 8 4 false) :
    servedBy (.carRegimeSet h false regime) h 0x14 true (fun s =>
      let t := s.modDcar h.inst.toNat (fun d => { d with hostDemand := regimeOf regime.toNat })
      (t, regimeReply t h.inst.toNat)) s := by
  have hx : 6 < regime.toNat → regime = 0xFF := hr.resolve_left ∘ Nat.not_le.2
  refine servedBy_of_run (exec_host (i := .carRegimeSet h false regime) rfl rfl nofun) rfl rfl rfl rfl rfl beq_iff_eq.2
    ?_ ht
  simpa [firstFail, hc] using ⟨h2, hx⟩

/-- R178: the host may not demand Inspection, of any car. -/
theorem carRegimeSet_inspection_readsBack (ht : hasTurn s h 0x14 8 4 false) :
    readsBack (.carRegimeSet h false 2) h 0x14 (fun _ => refusal 4 stBadParam) s := by
  have he : exec (.carRegimeSet h false 2) s = hostRow s _ h 0x14 4 (actCarRegimeSet h false 2) :=
    exec_host (i := .carRegimeSet h false 2) rfl rfl nofun
  exact readsBack_of_refused he rfl rfl rfl rfl beq_iff_eq.2 rfl rfl ht

theorem carServiceRemove_servedBy (hc : s.configured h.inst.toNat = true) (ht : hasTurn s h 0x15 8 4 false) :
    servedBy (.carServiceRemove h false) h 0x15 true (fun s =>
      let t := removeCar s h.inst.toNat
      (t.1, le 1 stOk ++ le 1 (keptStops t.1 h.inst.toNat) ++ le 2 t.2)) s :=
  servedBy_of_run (exec_host (i := .carServiceRemove h false) rfl rfl nofun) rfl rfl rfl rfl rfl beq_iff_eq.2
    (by simp [firstFail, hc]) ht

theorem carServiceAdd_servedBy (hc : s.configured h.inst.toNat = true) (ht : hasTurn s h 0x15 8 4 false) :
    servedBy (.carServiceAdd h false) h 0x15 true (fun s =>
      let t := s.modDcar h.inst.toNat (fun d => { d with
        inService := true, faultOut := false, leaving := false, joining := true, removedAt := none, removing := [] })
      (t, le 1 stOk ++ le 1 (keptStops t h.inst.toNat) ++ le 2 0)) s :=
  servedBy_of_run (exec_host (i := .carServiceAdd h false) rfl rfl nofun) rfl rfl rfl rfl rfl beq_iff_eq.2
    (by simp [firstFail, hc]) ht

/-! ### POWER_BUDGET_SET -/

section
variable {motorW regenW : U32} (ht : hasTurn s h 0x16 4 12 false)
include ht

theorem powerBudgetOverrideSet_servedBy :
    servedBy (.powerBudgetOverrideSet h false motorW regenW) h 0x16 true (fun s =>
      let t := budgetWatch (s.modDomain h.inst.toNat (fun d =>
        { d with hostBudget := some (motorW.toNat, regenW.toNat) }))
      (t, budgetReply t h.inst.toNat)) s :=
  served_done (exec_host (i := .powerBudgetOverrideSet h false motorW regenW) rfl rfl nofun) rfl rfl rfl rfl
    beq_iff_eq.2 rfl ht

theorem powerBudgetOverrideRelease_servedBy :
    servedBy (.powerBudgetOverrideRelease h false motorW regenW) h 0x16 true (fun s =>
      let t := budgetWatch (s.modDomain h.inst.toNat (fun d => { d with hostBudget := none }))
      (t, budgetReply t h.inst.toNat)) s :=
  served_done (exec_host (i := .powerBudgetOverrideRelease h false motorW regenW) rfl rfl nofun) rfl rfl rfl rfl
    beq_iff_eq.2 rfl ht

end

end

/-! ### The statements -/

/-- Settles O20 (R156 to R159, R178, R180, R181, R183): each request is answered by its own action. A hall call without an
equal is the case of an entered call that is new. -/
theorem dispatchRequestsServed : Obligations.DispatchRequestsServed := by
  intro s h
  refine ⟨fun origin id hm hl hi hn ht => ?_, fun kind origin dest destGroup pax flags car level t id hc hx ht => ?_,
    fun id c => callCancel_servedBy, fun regime => carRegimeSet_servedBy,
    fun hc ht => ⟨carServiceRemove_servedBy hc ht, carServiceAdd_servedBy hc ht⟩,
    fun motorW regenW ht => ⟨powerBudgetOverrideSet_servedBy ht, powerBudgetOverrideRelease_servedBy ht⟩⟩
  · have he := enterCall_hallCall (s := takenOn s h) rfl (by simpa using hm) (by simpa using hl) (by simpa using hi)
    have hj : ∀ t, joinNotify (takenOn s h) t h id = t := fun t => joinNotify_of_new (by simpa using hn)
    exact servedBy_congr (Prod.ext (hj _) rfl)
      (callEnter_servedBy rfl callFields_hallCall (namedRefusal_hallCall rfl) he ht)
  · obtain ⟨hn, he⟩ := hx
    exact callEnter_servedBy rfl hc hn he ht

/-- Settles O21 (R178): a request for Inspection fails a check of its own, whatever the car. -/
theorem inspectionRegimeRefused : Obligations.InspectionRegimeRefused := fun _ _ => carRegimeSet_inspection_readsBack

end Sys2Proof.Machine
end

section
/-! PROOFS. Regime changes (R176 to R178) and group epochs (R182, R184, R282). -/

namespace Sys2Proof.Machine

section
variable {s : State}

/-! ### The regime of a car -/

/-- R177: Inspection comes before every other regime. -/
theorem regimeWanted_of_inspection {c : Nat} (hi : regimeDemanded s c .inspection = true) :
    regimeWanted s c = .inspection := by
  simp [regimeWanted, hi]

/-- R177: Rescue comes next. -/
theorem regimeWanted_of_rescue {c : Nat} (hi : regimeDemanded s c .inspection = false)
    (hr : regimeDemanded s c .rescue = true) : regimeWanted s c = .rescue := by
  simp [regimeWanted, hi, hr]

section
variable {c : Fin 8}

/-- R177: a demanded regime comes into force when the car is ready for it. -/
theorem exec_regimeChange_of_ready (hp : s.power = .on) (hc : s.incharge = true)
    (hw : regimeWanted s c ≠ (s.dcar c).regime) (hr : regimeReady s c (regimeWanted s c) = true) :
    exec (.regimeChange c) s = .next (changeRegime s c (regimeWanted s c)) :=
  congrArg Host.Outcome.next (if_pos (by simp [hp, hc, hw, hr]))

theorem exec_regimeChange_of_in_force (hw : regimeWanted s c = (s.dcar c).regime) :
    exec (.regimeChange c) s = .next s := congrArg Host.Outcome.next (if_neg (by simp [hw]))

end

/-! ### The group epoch boundary -/

/-- R182, R184: group epoch `n` comes into force, with the members that the pairs publish and the shares of this epoch. -/
def beginGroupEpoch (s : State) (n : Nat) : State :=
  budgetWatch (setShares (regroup (forEach (List.range 4)
    (fun t p => t.modPairView p (fun v => { v with member := if v.inReach then v.heard else v.member, heard := [] }))
    { s with disp := { s.disp with groupEpoch := n % 2 ^ 32, groupNext := none, joined := true } })))

/-- The epoch that the timekeeper has given, or the present one. -/
def knownGroupEpoch (s : State) : Nat := s.disp.groupNext.getD s.disp.groupEpoch

/-- R282: with a lower-numbered pair in reach, that pair keeps the time. -/
theorem groupBoundary_of_lowerPair (hl : lowerPair s = true) :
    groupBoundary s =
      beginGroupEpoch { s with disp := { s.disp with timekeeper := false } } (knownGroupEpoch s) := by
  simp only [groupBoundary, hl, Bool.not_true, Bool.false_and, Bool.false_eq_true, if_false]
  rfl

/-- R282: the timekeeper advances the epoch. -/
theorem groupBoundary_of_timekeeper (hl : lowerPair s = false) (ht : s.disp.timekeeper = true) :
    groupBoundary s =
      beginGroupEpoch { s with disp := { s.disp with timekeeper := true } } (knownGroupEpoch s + 1) := by
  simp only [groupBoundary, hl, ht, Bool.not_true, Bool.and_false, Bool.false_eq_true, if_false]
  rfl

/-- R282: a pair without a lower one in reach takes the time over, with event 0x7160. -/
theorem groupBoundary_of_takeover (hl : lowerPair s = false) (ht : s.disp.timekeeper = false) :
    groupBoundary s =
      let t := event { s with disp := { s.disp with timekeeper := true } } 0x7160
      beginGroupEpoch t (knownGroupEpoch t + 1) := by
  simp only [groupBoundary, hl, ht, Bool.not_false, Bool.and_self, if_true]
  rfl

theorem exec_groupEpochBoundary (hd : s.dispatches = true) :
    exec .groupEpochBoundary s = .next (groupBoundary s) := congrArg Host.Outcome.next (if_pos hd)

end

/-! ### The statement -/

/-- Settles O50 (R177, R182, R184, R282; log entry 4 for a change that is not awaited): a regime by the order of the
demands, the boundary by who keeps the time. -/
theorem regimeAndGroupEvents : Obligations.RegimeAndGroupEvents := by
  intro s
  refine ⟨fun c => exec_regimeChange_of_ready, fun c => exec_regimeChange_of_in_force,
    fun c => regimeWanted_of_inspection, fun c => regimeWanted_of_rescue, fun hd hl => ?_, fun hd hl ht => ?_,
    fun hd hl ht => ?_⟩
  · exact (exec_groupEpochBoundary hd).trans (congrArg Host.Outcome.next (groupBoundary_of_lowerPair hl))
  · exact (exec_groupEpochBoundary hd).trans (congrArg Host.Outcome.next (groupBoundary_of_timekeeper hl ht))
  · exact (exec_groupEpochBoundary hd).trans (congrArg Host.Outcome.next (groupBoundary_of_takeover hl ht))

end Sys2Proof.Machine
end

section
/-! PROOFS. The sides of a car (R201): which inputs stand for a side, and when it is closed and locked. -/

namespace Sys2Proof.Machine

section
variable {s : State} {c side i : Nat}

theorem mem_inputsIdx {fn : Nat} : i ∈ s.inputsIdx fn c side ↔
    i < 96 ∧ s.sf 0x6100 i = fn ∧ s.sf 0x6101 i = c ∧ s.sf 0x6102 i = side := by
  simp only [State.inputsIdx, State.inputsOf, inputs96, List.mem_filter, List.mem_range, Bool.and_eq_true, beq_iff_eq,
    and_assoc]

theorem permBoth_iff : s.permBoth i = true ↔ s.permissive .a i = true ∧ s.permissive .b i = true :=
  Bool.and_eq_true_iff

/-- R201: a side has a contact and a lock, and its contacts (function 3) and locks (function 4) are all permissive. -/
theorem sideLocked_iff : s.sideLocked c side = true ↔
    (∃ i, i ∈ s.inputsIdx 3 c side) ∧ (∃ i, i ∈ s.inputsIdx 4 c side) ∧
      ∀ i, i ∈ s.inputsIdx 3 c side ∨ i ∈ s.inputsIdx 4 c side → s.permBoth i = true := by
  simp only [State.sideLocked, Bool.and_eq_true, Bool.not_eq_true', List.isEmpty_eq_false_iff_exists_mem, List.all_eq_true,
    or_imp, forall_and, and_assoc]

theorem sidesLocked_iff : s.sidesLocked c = true ↔
    ∀ side, side < 2 → bitAt (s.sfN 0x6002 c) side = true → s.sideLocked c side = true := by
  simp only [State.sidesLocked, List.all_eq_true, List.mem_range, Bool.or_eq_true, Bool.not_eq_true', ← Bool.not_eq_true,
    ← imp_iff_not_or]

end

/-- Settles O38 (R201; log entry 61): a side by its contacts and locks, the car by its sides. -/
theorem sidesClosedAndLocked : Obligations.SidesClosedAndLocked := by
  intro s c _
  refine ⟨fun side _ => ?_, sidesLocked_iff⟩
  have hside : ∀ i, i ∈ s.inputsIdx 3 c side ∨ i ∈ s.inputsIdx 4 c side ↔ i < 96 ∧
      (s.sf 0x6100 i = 3 ∨ s.sf 0x6100 i = 4) ∧ s.sf 0x6101 i = c ∧ s.sf 0x6102 i = side := by
    simp only [mem_inputsIdx, Nat.cast_ofNat, ← and_or_left, ← or_and_right, implies_true]
  rw [sideLocked_iff]
  simp only [hside, permBoth_iff, and_imp]
  simp only [mem_inputsIdx, Nat.cast_ofNat]

end Sys2Proof.Machine
end

section
/-! PROOFS. The trip of a car (R190, R220, R285): a finding of severity 3 latches it and opens the car's four outputs. -/

namespace Sys2Proof.Machine

/-- The set of all parts but `outputs`, `safetySet` and `safety`. -/
def besideSaf : Nat := 2 ^ 37 - 1 - (2 ^ 15 + 2 ^ 16 + 2 ^ 17)

section
variable {s t : State}

/-! ### What leaves the safety islands as they are -/

theorem saf_of_kept (h : Kept besideSaf false s t) : t.saf = s.saf := by
  have ho : t.saf.outs = s.saf.outs := h.same .outputs rfl
  have hq : t.saf.set = s.saf.set := h.same .safetySet rfl
  have hs : t.saf = { s.saf with outs := t.saf.outs, set := t.saf.set } := h.same .safety rfl
  rw [hs, ho, hq]

@[simp] theorem record_saf {f : Finding} : (record s f).saf = s.saf := saf_of_kept (record_kept .self rfl)

@[simp] theorem carReact_saf {c sev : Nat} : (carReact s c sev).saf = s.saf := saf_of_kept (carReact_kept .self rfl)

@[simp] theorem requestStop_saf {c cls : Nat} : (s.requestStop c cls).saf = s.saf :=
  saf_of_kept (State.requestStop_kept .self rfl)

@[simp] theorem faultRemove_saf {c : Nat} : (s.faultRemove c).saf = s.saf :=
  saf_of_kept (State.faultRemove_kept .self rfl)

@[simp] theorem repeatedTransient_saf {f : Finding} : (repeatedTransient s f).saf = s.saf :=
  saf_of_kept (repeatedTransient_kept .self rfl)

/-! ### The outputs of a car -/

theorem carOff_eq {c : Nat} : s.carOff c = forEach ((List.range 4).map (outOf c)) (fun s o => s.outOff o) s :=
  List.foldl_map.symm

@[simp] theorem carOff_saf_cars {c : Nat} : (s.carOff c).saf.cars = s.saf.cars := by
  obtain ⟨outs, hr⟩ := outsOff_rest (s := s) (l := (List.range 4).map (outOf c))
  rw [carOff_eq, hr]

/-- R231: de-energised, each of the car's outputs is still. -/
theorem carOff_still {c k : Nat} (hw : OutsCanonical s) (hk : k < 4) : outStill ((s.carOff c).out (outOf c k)) = true := by
  rw [carOff_eq]
  exact outsOff_still hw (.inr (List.mem_map_of_mem (List.mem_range.2 hk)))

/-! ### The trip -/

/-- R220, R244: in the islands a trip latches the car with its cause and opens its outputs, and no more. -/
theorem carTrip_saf {c code elem : Nat} : ∃ f : CarSaf → CarSaf,
    (∀ k, (f k).trip = true ∧ (code, elem) ∈ (f k).causes) ∧
    (carTrip s c code elem).saf = ((s.modCarSaf c f).carOff c).saf := by
  refine ⟨_, fun k => ⟨rfl, ?_⟩, by rw [carTrip, faultRemove_saf, requestStop_saf]⟩
  dsimp only
  split
  case isTrue h => exact List.contains_iff_mem.1 h
  case isFalse => simp

theorem carTrip_latches {c code elem : Nat} (hw : tblWf (dft {}) s.saf.cars = true) :
    ((carTrip s c code elem).carSaf c).trip = true ∧ (code, elem) ∈ ((carTrip s c code elem).carSaf c).causes := by
  obtain ⟨f, hf, ht⟩ := carTrip_saf (s := s) (c := c) (code := code) (elem := elem)
  have hc : (carTrip s c code elem).carSaf c = f (s.carSaf c) := by
    rw [State.carSaf, ht, carOff_saf_cars]
    exact modCarSaf_self hw
  exact hc ▸ hf _

theorem carTrip_still {c code elem k : Nat} (hw : OutsCanonical s) (hk : k < 4) :
    outStill ((carTrip s c code elem).out (outOf c k)) = true := by
  obtain ⟨f, -, ht⟩ := carTrip_saf (s := s) (c := c) (code := code) (elem := elem)
  rw [State.out, ht]
  exact carOff_still (s := s.modCarSaf c f) hw hk

/-- R285: a finding of severity 3 on a car is recorded, and what its reaction does in the islands is the car's trip. -/
theorem raise_saf_of_trip {f : Finding} {c : Nat} (hs : f.sev = 3) (hc : f.car = some c) :
    (raise s f).saf = (carTrip (carReact (record s f) c 3) c f.code f.inst).saf := by
  simp [raise, react, hs, scopeCars, hc, forEach]

end

/-! ### The statement -/

/-- Settles O51 (R220, R231, R285): the finding trips its car, whose outputs are opened by the trip. -/
theorem carTripTurnsOutputsOff : Obligations.CarTripTurnsOutputsOff := by
  intro s c code elem _ ho hc t
  have ht : t.saf = _ := raise_saf_of_trip (c := c) rfl rfl
  refine ⟨?_, ?_, fun k hk => ?_⟩
  all_goals simp only [State.carSaf, State.out, ht]
  · exact (carTrip_latches (by simpa using hc)).1
  · exact (carTrip_latches (by simpa using hc)).2
  · exact carTrip_still (by simpa [OutsCanonical] using ho) hk

end Sys2Proof.Machine
end

section
/-! PROOFS. Events of the safety islands (R197, R199, R218, R219, R225, R245, R246, R249, R398): inputs, brakes, windows,
operations of the key switch and the safety cycle. -/

namespace Sys2Proof.Machine

section
variable {s : State}

/-! ### Inputs -/

/-- R197: a level that the island has accepted already changes nothing. -/
theorem inputChange_of_accepted {isl : Island} {i ch : Nat} : inputChange s isl i ch (safLevel (s.safIn i) isl ch) = s := by
  cases isl <;> cases ch <;> exact if_pos BEq.rfl

section
variable (hw : s.working = true)
include hw

theorem exec_safetyInputChange_accepted {isl : Island} {i : Fin 96} {ch : Fin 2} {level : Bool} :
    exec (.safetyInputChange isl i ch (.accepted level)) s = .next (inputChange s isl i ch level) :=
  congrArg Host.Outcome.next (if_neg (by simp [hw]))

theorem exec_safetyInputChange_rawEdge_b {i : Fin 96} {ch : Fin 2} {t : Nat} :
    exec (.safetyInputChange .b i ch (.rawEdge t)) s = .next (switchEdge s i .b t) :=
  congrArg Host.Outcome.next (if_neg (by simp [hw]))

/-- R122: island A's raw edges also feed a learning run. -/
theorem exec_safetyInputChange_rawEdge_a {i : Fin 96} {ch : Fin 2} {t : Nat} :
    exec (.safetyInputChange .a i ch (.rawEdge t)) s =
      .next (forEach cars8 (fun s c => learnRawEdge s c i ch t) (switchEdge s i .a t)) :=
  congrArg Host.Outcome.next (if_neg (by simp [hw]))

theorem exec_safetyInputChatterEnd {i : Fin 96} :
    exec (.safetyInputChatterEnd i) s = .next (s.modSafIn i (fun q => { q with
      chatter := false, aa := { q.aa with times := [] }, ab := { q.ab with times := [] }
      ba := { q.ba with times := [] }, bb := { q.bb with times := [] } })) :=
  congrArg Host.Outcome.next (if_pos hw)

/-! ### Brakes -/

section
variable {c : Fin 8} (he : s.safEnabled c = true)
include he

/-- R218: a brake that has not opened in time takes the car's outputs off. -/
theorem exec_brakeOpenTimeout {b : Fin 2} (ht : (brakeSup (s.carSaf c) b).timed = true)
    (hb : (brakeSup (s.carSaf c) b).energised = true) :
    exec (.brakeOpenTimeout c b) s =
      .next (raise ((modBrake s c b (fun x => { x with timed := false })).dropCar c)
        { code := 0x6130, sev := 2, inst := outOf c (1 + b), car := some (c : Nat) }) :=
  congrArg Host.Outcome.next (if_pos (by simp [hw, he, ht, hb]))

/-- R218, R220: a brake that has not closed in time trips the car. -/
theorem exec_brakeCloseTimeout {b : Fin 2} (ht : (brakeSup (s.carSaf c) b).timed = true)
    (hb : (brakeSup (s.carSaf c) b).energised = false) :
    exec (.brakeCloseTimeout c b) s =
      .next (tripFor (modBrake s c b (fun x => { x with timed := false })) c 0x6131 ((s.monitor c b).getD 0xFF) 0) :=
  congrArg Host.Outcome.next (if_pos (by simp [hw, he, ht, hb]))

/-- R219: a brake test that is overdue is recorded. -/
theorem exec_brakeTestOverdue (hh : s.sfN 0x6034 c ≠ 0) (hn : (s.carSaf c).btNagged = none)
    (ho : min (s.carSaf c).btPassA (s.carSaf c).btPassB + s.sfN 0x6034 c * 57600 < s.opTime) :
    exec (.brakeTestOverdue c) s =
      .next (record (s.modCarSaf c (fun k => { k with btNagged := some s.opTime }))
        { code := 0x6133, sev := 1, inst := c, car := some (c : Nat) }) :=
  congrArg Host.Outcome.next (if_pos (by simp [hw, he, hh, hn, ho]))

end

/-! ### The safety cycle -/

theorem exec_safetyCycle {n : Nat} {hsfb lsfb ld : U32} :
    exec (.safetyCycle n hsfb lsfb ld) s = .next (safetyCycle s n hsfb lsfb ld) :=
  congrArg Host.Outcome.next (if_pos hw)

/-! ### Operations of the key switch -/

theorem exec_lrstOperationEnd_void {op : LrstOp} (ho : lrstKind op = .void) :
    exec (.lrstOperationEnd op) s = .next (voidOperation s) :=
  congrArg Host.Outcome.next ((if_neg (by simp [hw])).trans (by rw [ho]))

theorem exec_lrstOperationEnd_reset {op : LrstOp} (ho : lrstKind op = .reset) :
    exec (.lrstOperationEnd op) s = .next (resetOperation s) :=
  congrArg Host.Outcome.next ((if_neg (by simp [hw])).trans (by rw [ho]))

theorem exec_lrstOperationEnd_confirm {op : LrstOp} (ho : lrstKind op = .confirm) :
    exec (.lrstOperationEnd op) s = .next (confirmOperation s) :=
  congrArg Host.Outcome.next ((if_neg (by simp [hw])).trans (by rw [ho]))

end

/-- R245: with no window armed a reset operation does nothing. -/
theorem resetOperation_of_no_window (ht : s.saf.tripWin.state ≠ 1) (hl : s.saf.lockWin.state ≠ 1) :
    resetOperation s = s := by
  simp [resetOperation, ht, hl]

/-- R246: in an armed trip window it resets trips; a lockout window is looked at after that. -/
theorem resetOperation_of_trip_window (ht : s.saf.tripWin.state = 1) (hm : s.mode = .service)
    (hl : (resetTrips s).saf.lockWin.state ≠ 1) : resetOperation s = resetTrips s := by
  simp [resetOperation, ht, hm, hl]

/-- R225: with no key to enrol, a confirmation operation confirms the staged set. -/
theorem confirmOperation_of_staged (hs : s.saf.staged.isSome = true) (he : s.saf.enrolWin.state ≠ 1) :
    confirmOperation s = { s with saf := { s.saf with confirmedAt := some s.frame } } := by
  simp [confirmOperation, hs, enrolKey, he]

/-! ### Windows -/

theorem img_enrolKey_of_kept {t : State} (h : Kept (partsMask [.journal]) false s t) :
    t.img.enrolKey = s.img.enrolKey := by
  have hi : t.img = { s.img with
      slots := t.img.slots, floors := t.img.floors, policyNext := t.img.policyNext, keys := t.img.keys,
      keysLoaded := t.img.keysLoaded } := h.same .images rfl
  rw [hi]

@[simp] theorem event_img_enrolKey {code : Nat} {payload : Bytes} {inst : Nat} :
    (event s code payload inst).img.enrolKey = s.img.enrolKey := img_enrolKey_of_kept (event_kept .self rfl)

/-- R398, R380: an enrolment window that ends is answered to the requester whose key waits. -/
theorem closeEnrol_of_armed {state id : Nat} {key : Bytes} {ch : Chan} {seq : U16} (hw : s.saf.enrolWin.state = 1)
    (hk : s.img.enrolKey = some (id, key, ch, seq)) :
    closeEnrol s state =
      let t := event { s with saf := { s.saf with enrolWin := { s.saf.enrolWin with state := state } } } 0xB111
      notifyOn t ch 0 0x86 0 seq.toNat (enrolReply t stOk) := by
  simp [closeEnrol, hw, hk]

theorem expireWindow_of_armed {w : Window} (hw : w.state = 1) : expireWindow w = { w with state := 3 } :=
  if_pos (by simp [hw])

section
variable (hr : s.running = true)
include hr

theorem exec_confirmWindowExpiry (hs : s.saf.staged.isSome = true) :
    exec .confirmWindowExpiry s =
      .next (event { s with saf := { s.saf with staged := none, confirmedAt := none, setExpired := true } } 0x6152) :=
  congrArg Host.Outcome.next (if_pos (by simp [hr, hs]))

theorem exec_tripResetWindowExpiry :
    exec .tripResetWindowExpiry s = .next { s with saf := { s.saf with tripWin := expireWindow s.saf.tripWin } } :=
  congrArg Host.Outcome.next (if_pos hr)

theorem exec_lockoutResetWindowExpiry :
    exec .lockoutResetWindowExpiry s = .next { s with saf := { s.saf with lockWin := expireWindow s.saf.lockWin } } :=
  congrArg Host.Outcome.next (if_pos hr)

theorem exec_enrolWindowExpiry : exec .enrolWindowExpiry s = .next (closeEnrol s 3) :=
  congrArg Host.Outcome.next (if_pos hr)

end
end

/-! ### The statement -/

/-- Settles O52 (R190, R197, R199, R218, R219, R225, R245, R246, R249, R398; log entries 4 and 66): each event by its own
effect where the device runs; the windows and operations by what is armed. -/
theorem safetyEvents : Obligations.SafetyEvents := by
  intro s
  refine ⟨fun isl i ch level hw hl => ?_, fun isl i ch level hw => ?_, fun i hw => exec_safetyInputChatterEnd hw,
    fun c b hw he ht => ⟨exec_brakeOpenTimeout hw he ht, exec_brakeCloseTimeout hw he ht⟩,
    fun c hw he hh hn ho => exec_brakeTestOverdue hw he hh hn ho, fun hp hm => ?_, fun op hw => ?_,
    fun n hsfb lsfb ld hw => exec_safetyCycle hw⟩
  · rw [exec_safetyInputChange_accepted hw, ← hl, inputChange_of_accepted]
  · exact ⟨exec_safetyInputChange_accepted hw, fun t => exec_safetyInputChange_rawEdge_b hw,
      fun t => exec_safetyInputChange_rawEdge_a hw⟩
  · have hr := running_iff.2 ⟨hp, hm⟩
    refine ⟨exec_confirmWindowExpiry hr, fun ht => ?_, fun hl => ?_, fun he id key ch seq hk => ?_⟩
    · rw [exec_tripResetWindowExpiry hr, expireWindow_of_armed ht]
    · rw [exec_lockoutResetWindowExpiry hr, expireWindow_of_armed hl]
    · rw [exec_enrolWindowExpiry hr, closeEnrol_of_armed he hk]
  · refine ⟨exec_lrstOperationEnd_void hw, fun ho ht hl => ?_, fun ho ht _ hm => ?_, fun ho hs he => ?_⟩
    · rw [exec_lrstOperationEnd_reset hw ho, resetOperation_of_no_window ht hl]
    · exact ⟨_, exec_lrstOperationEnd_reset hw ho, resetOperation_of_trip_window ht hm⟩
    · rw [exec_lrstOperationEnd_confirm hw ho, confirmOperation_of_staged hs he]

end Sys2Proof.Machine
end

section
/-! PROOFS. The invariant of the device (R232, R306, R373): it holds after reset and every step keeps it. -/

namespace Sys2Proof.Machine

section
variable {F : Nat} {b : Bool} {o s : State}

/-- What a command does: it keeps the invariant and every part of the device that it is not said to change. -/
theorem exec_kept (h : Kept F b o s) : ∀ i : Instr, Fits (partsMask (changes i)) F → KeptO F b o (exec i s)
  | .ping .., hF => execPing_kept h hF
  | .identityRead .., hF => execIdentityRead_kept h hF
  | .modeRequest .., hF => execModeRequest_kept h hF
  | .healthRead .., hF => execHealthRead_kept h hF
  | .slackRead .., hF => execSlackRead_kept h hF
  | .timeMark .., hF => execTimeMark_kept h hF
  | .paramRead .., hF => execParamRead_kept h hF
  | .paramWrite .., hF => execParamWrite_kept h hF
  | .paramCommit .., hF => execParamCommit_kept h hF
  | .paramCommitRead .., hF => execParamCommitRead_kept h hF
  | .paramDiscard .., hF => execParamDiscard_kept h hF
  | .provingReport .., hF => execProvingReport_kept h hF
  | .callEnter .., hF => execCallEnter_kept h hF
  | .callCancel .., hF => execCallCancel_kept h hF
  | .callQuery .., hF => execCallQuery_kept h hF
  | .itineraryRead .., hF => execItineraryRead_kept h hF
  | .carRegimeSet .., hF => execCarRegimeSet_kept h hF
  | .carServiceRemove .., hF => execCarServiceRemove_kept h hF
  | .carServiceAdd .., hF => execCarServiceAdd_kept h hF
  | .powerBudgetOverrideSet .., hF => execPowerBudgetOverrideSet_kept h hF
  | .powerBudgetOverrideRelease .., hF => execPowerBudgetOverrideRelease_kept h hF
  | .groupStatus .., hF => execGroupStatus_kept h hF
  | .tripTarget .., hF => execTripTarget_kept h hF
  | .jog .., hF => execJog_kept h hF
  | .stop .., hF => execStop_kept h hF
  | .motionStatus .., hF => execMotionStatus_kept h hF
  | .learnRunRead .., hF => execLearnRunRead_kept h hF
  | .learnRunStart .., hF => execLearnRunStart_kept h hF
  | .learnRunAbort .., hF => execLearnRunAbort_kept h hF
  | .brakeTestRead .., hF => execBrakeTestRead_kept h hF
  | .brakeTestStart .., hF => execBrakeTestStart_kept h hF
  | .positionRead .., hF => execPositionRead_kept h hF
  | .doorStop .., hF => execDoorStop_kept h hF
  | .doorOpen .., hF => execDoorOpen_kept h hF
  | .doorClose .., hF => execDoorClose_kept h hF
  | .doorNudgeClose .., hF => execDoorNudgeClose_kept h hF
  | .doorHoldOpen .., hF => execDoorHoldOpen_kept h hF
  | .doorReleaseHold .., hF => execDoorReleaseHold_kept h hF
  | .doorReference .., hF => execDoorReference_kept h hF
  | .doorStatus .., hF => execDoorStatus_kept h hF
  | .doorTableWrite .., hF => execDoorTableWrite_kept h hF
  | .doorTableRead .., hF => execDoorTableRead_kept h hF
  | .loopConfigWrite .., hF => execLoopConfigWrite_kept h hF
  | .loopCoeffStage .., hF => execLoopCoeffStage_kept h hF
  | .loopCoeffSwap .., hF => execLoopCoeffSwap_kept h hF
  | .loopCoeffSwapReset .., hF => execLoopCoeffSwapReset_kept h hF
  | .injectStart .., hF => execInjectStart_kept h hF
  | .injectStop .., hF => execInjectStop_kept h hF
  | .captureArm .., hF => execCaptureArm_kept h hF
  | .captureRead .., hF => execCaptureRead_kept h hF
  | .loopStatus .., hF => execLoopStatus_kept h hF
  | .safetyStatus .., hF => execSafetyStatus_kept h hF
  | .safetySetStage .., hF => execSafetySetStage_kept h hF
  | .safetySetConfirm .., hF => execSafetySetConfirm_kept h hF
  | .tripResetRead .., hF => execTripResetRead_kept h hF
  | .tripResetArm .., hF => execTripResetArm_kept h hF
  | .tripResetDisarm .., hF => execTripResetDisarm_kept h hF
  | .lockoutResetRead .., hF => execLockoutResetRead_kept h hF
  | .lockoutResetArm .., hF => execLockoutResetArm_kept h hF
  | .outputTestReport .., hF => execOutputTestReport_kept h hF
  | .pairStatus .., hF => execPairStatus_kept h hF
  | .handoverRead .., hF => execHandoverRead_kept h hF
  | .handoverRequest .., hF => execHandoverRequest_kept h hF
  | .handoverActivateTadpoles .., hF => execHandoverActivateTadpoles_kept h hF
  | .partnerReleaseRead .., hF => execPartnerReleaseRead_kept h hF
  | .partnerRelease .., hF => execPartnerRelease_kept h hF
  | .partnerAdmitRead .., hF => execPartnerAdmitRead_kept h hF
  | .partnerAdmit .., hF => execPartnerAdmit_kept h hF
  | .mirrorStatus .., hF => execMirrorStatus_kept h hF
  | .portConfig .., hF => execPortConfig_kept h hF
  | .portStatus .., hF => execPortStatus_kept h hF
  | .nodeList .., hF => execNodeList_kept h hF
  | .pointRead .., hF => execPointRead_kept h hF
  | .pointWriteOutput .., hF => execPointWriteOutput_kept h hF
  | .pointForce .., hF => execPointForce_kept h hF
  | .pointForceRelease .., hF => execPointForceRelease_kept h hF
  | .pointMapWrite .., hF => execPointMapWrite_kept h hF
  | .nodeMessageSend .., hF => execNodeMessageSend_kept h hF
  | .nodeMessageRead .., hF => execNodeMessageRead_kept h hF
  | .logCursorOpen .., hF => execLogCursorOpen_kept h hF
  | .logRead .., hF => execLogRead_kept h hF
  | .logCursorClose .., hF => execLogCursorClose_kept h hF
  | .logStatus .., hF => execLogStatus_kept h hF
  | .logClearChallenge .., hF => execLogClearChallenge_kept h hF
  | .logClear .., hF => execLogClear_kept h hF
  | .rateLimitRead .., hF => execRateLimitRead_kept h hF
  | .rateLimitSet .., hF => execRateLimitSet_kept h hF
  | .rateLimitRemove .., hF => execRateLimitRemove_kept h hF
  | .imageBegin .., hF => execImageBegin_kept h hF
  | .imageChunk .., hF => execImageChunk_kept h hF
  | .imageEnd .., hF => execImageEnd_kept h hF
  | .imageActivate .., hF => execImageActivate_kept h hF
  | .imageStatus .., hF => execImageStatus_kept h hF
  | .authChallenge .., hF => execAuthChallenge_kept h hF
  | .keyEnrolRead .., hF => execKeyEnrolRead_kept h hF
  | .keyEnrol .., hF => execKeyEnrol_kept h hF
  | .unknownOpcodePacket .., hF => execUnknownOpcodePacket_kept h hF
  | .badCrcPacket .., hF => execBadCrcPacket_kept h hF
  | .hqStatus, hF => execHqStatus_kept h hF
  | .hqWrite .., hF => execHqWrite_kept h hF
  | .hqRead .., hF => execHqRead_kept h hF
  | .hqFlush, hF => execHqFlush_kept h hF
  | .hqUnknownCommand .., hF => execHqUnknownCommand_kept h hF
  | .partialPacketTimeout, hF => execPartialPacketTimeout_kept h hF
  | .vaonEntersRange, hF => execVaonEntersRange_kept h hF
  | .wakeHigh, hF => execWakeHigh_kept h hF
  | .wakeLow, hF => execWakeLow_kept h hF
  | .heldWakeDemandTaken, hF => execHeldWakeDemandTaken_kept h hF
  | .modeTransitionBegin, hF => execModeTransitionBegin_kept h hF
  | .rstNLow, hF => execRstNLow_kept h hF
  | .resetRelease, hF => execResetRelease_kept h hF
  | .supplyLoss .., hF => execSupplyLoss_kept h hF
  | .suppliesRestored, hF => execSuppliesRestored_kept h hF
  | .provingUnitComplete .., hF => execProvingUnitComplete_kept h hF
  | .bgSliceStart .., hF => execBgSliceStart_kept h hF
  | .bgSliceComplete .., hF => execBgSliceComplete_kept h hF
  | .bgCycleOverdue, hF => execBgCycleOverdue_kept h hF
  | .healthPublish .., hF => execHealthPublish_kept h hF
  | .healthRecordReceived .., hF => execHealthRecordReceived_kept h hF
  | .posStrapChange .., hF => execPosStrapChange_kept h hF
  | .sampleFrameTick .., hF => execSampleFrameTick_kept h hF
  | .epochBoundary, hF => execEpochBoundary_kept h hF
  | .shedEvaluation, hF => execShedEvaluation_kept h hF
  | .epochMarkReceived .., hF => execEpochMarkReceived_kept h hF
  | .safetyCycle .., hF => execSafetyCycle_kept h hF
  | .timebaseMarkMissing, hF => execTimebaseMarkMissing_kept h hF
  | .encoderSample .., hF => execEncoderSample_kept h hF
  | .referenceMark .., hF => execReferenceMark_kept h hF
  | .hoistSample .., hF => execHoistSample_kept h hF
  | .auxObserverSample .., hF => execAuxObserverSample_kept h hF
  | .ssiFrameReceived .., hF => execSsiFrameReceived_kept h hF
  | .ssiClockAbsent .., hF => execSsiClockAbsent_kept h hF
  | .loopSample .., hF => execLoopSample_kept h hF
  | .injectionTimeout .., hF => execInjectionTimeout_kept h hF
  | .captureTimeout, hF => execCaptureTimeout_kept h hF
  | .persistentAnomaly .., hF => execPersistentAnomaly_kept h hF
  | .tripAdmission .., hF => execTripAdmission_kept h hF
  | .pretorqueSettleExpiry .., hF => execPretorqueSettleExpiry_kept h hF
  | .brakesOpenConfirmed .., hF => execBrakesOpenConfirmed_kept h hF
  | .startTimeout .., hF => execStartTimeout_kept h hF
  | .brakesClosedConfirmed .., hF => execBrakesClosedConfirmed_kept h hF
  | .torqueHoldExpiry .., hF => execTorqueHoldExpiry_kept h hF
  | .torqueRampEnd .., hF => execTorqueRampEnd_kept h hF
  | .relevelDelayExpiry .., hF => execRelevelDelayExpiry_kept h hF
  | .reversalDwellExpiry .., hF => execReversalDwellExpiry_kept h hF
  | .jogKeepaliveExpiry .., hF => execJogKeepaliveExpiry_kept h hF
  | .jogReversalHoldExpiry .., hF => execJogReversalHoldExpiry_kept h hF
  | .brakeTestPhaseEnd .., hF => execBrakeTestPhaseEnd_kept h hF
  | .doorSample .., hF => execDoorSample_kept h hF
  | .doorLockConfirmed .., hF => execDoorLockConfirmed_kept h hF
  | .doorLockTimeout .., hF => execDoorLockTimeout_kept h hF
  | .referencingTimeout .., hF => execReferencingTimeout_kept h hF
  | .openRetryExpiry .., hF => execOpenRetryExpiry_kept h hF
  | .nudgeTimerExpiry .., hF => execNudgeTimerExpiry_kept h hF
  | .doorDwellExpiry .., hF => execDoorDwellExpiry_kept h hF
  | .tableCrcConfirm .., hF => execTableCrcConfirm_kept h hF
  | .callEvaluation, hF => execCallEvaluation_kept h hF
  | .carSummaryReceived .., hF => execCarSummaryReceived_kept h hF
  | .forwardedCallReceived .., hF => execForwardedCallReceived_kept h hF
  | .decisionReceived .., hF => execDecisionReceived_kept h hF
  | .transferItemReceived .., hF => execTransferItemReceived_kept h hF
  | .transferLegReceived .., hF => execTransferLegReceived_kept h hF
  | .groupEpochReceived .., hF => execGroupEpochReceived_kept h hF
  | .groupEpochBoundary, hF => execGroupEpochBoundary_kept h hF
  | .pairOutOfReach .., hF => execPairOutOfReach_kept h hF
  | .refinePeriod, hF => execRefinePeriod_kept h hF
  | .regimeChange .., hF => execRegimeChange_kept h hF
  | .safetyInputChange .., hF => execSafetyInputChange_kept h hF
  | .safetyInputChatterEnd .., hF => execSafetyInputChatterEnd_kept h hF
  | .brakeOpenTimeout .., hF => execBrakeOpenTimeout_kept h hF
  | .brakeCloseTimeout .., hF => execBrakeCloseTimeout_kept h hF
  | .brakeTestOverdue .., hF => execBrakeTestOverdue_kept h hF
  | .confirmWindowExpiry, hF => execConfirmWindowExpiry_kept h hF
  | .lrstOperationEnd .., hF => execLrstOperationEnd_kept h hF
  | .tripResetWindowExpiry, hF => execTripResetWindowExpiry_kept h hF
  | .lockoutResetWindowExpiry, hF => execLockoutResetWindowExpiry_kept h hF
  | .enrolWindowExpiry, hF => execEnrolWindowExpiry_kept h hF
  | .outputConfirmTimeout .., hF => execOutputConfirmTimeout_kept h hF
  | .darkTestStart .., hF => execDarkTestStart_kept h hF
  | .darkTestJudge .., hF => execDarkTestJudge_kept h hF
  | .darkTestPulseEnd .., hF => execDarkTestPulseEnd_kept h hF
  | .darkTestSettleEnd .., hF => execDarkTestSettleEnd_kept h hF
  | .darkTestRepeat .., hF => execDarkTestRepeat_kept h hF
  | .releaseCheckStart, hF => execReleaseCheckStart_kept h hF
  | .releaseCheckEnd .., hF => execReleaseCheckEnd_kept h hF
  | .vetoReceived, hF => execVetoReceived_kept h hF
  | .vetoAssert .., hF => execVetoAssert_kept h hF
  | .twinLaneLost .., hF => execTwinLaneLost_kept h hF
  | .commitReceived .., hF => execCommitReceived_kept h hF
  | .commitAckReceived .., hF => execCommitAckReceived_kept h hF
  | .commitMissing, hF => execCommitMissing_kept h hF
  | .resyncComplete .., hF => execResyncComplete_kept h hF
  | .partnerFindingReceived .., hF => execPartnerFindingReceived_kept h hF
  | .croakSlot, hF => execCroakSlot_kept h hF
  | .croakReceived .., hF => execCroakReceived_kept h hF
  | .croakLineFault .., hF => execCroakLineFault_kept h hF
  | .ownCroakNotReadBack, hF => execOwnCroakNotReadBack_kept h hF
  | .partnerSilent, hF => execPartnerSilent_kept h hF
  | .claimPeriodsElapsed, hF => execClaimPeriodsElapsed_kept h hF
  | .soloWaitExpiry, hF => execSoloWaitExpiry_kept h hF
  | .arbitrationDeadline, hF => execArbitrationDeadline_kept h hF
  | .yieldReceived .., hF => execYieldReceived_kept h hF
  | .yieldTakeover, hF => execYieldTakeover_kept h hF
  | .silentPartnerTakeover, hF => execSilentPartnerTakeover_kept h hF
  | .scrubRead .., hF => execScrubRead_kept h hF
  | .scrubPassComplete .., hF => execScrubPassComplete_kept h hF
  | .bankCopyComplete .., hF => execBankCopyComplete_kept h hF
  | .operatingTimeSave, hF => execOperatingTimeSave_kept h hF
  | .flushStart, hF => execFlushStart_kept h hF
  | .flushTimer, hF => execFlushTimer_kept h hF
  | .flushComplete .., hF => execFlushComplete_kept h hF
  | .pfailFall, hF => execPfailFall_kept h hF
  | .pfailRise, hF => execPfailRise_kept h hF
  | .rateTokenRefill .., hF => execRateTokenRefill_kept h hF
  | .cursorIdleClose .., hF => execCursorIdleClose_kept h hF
  | .portCycleStart .., hF => execPortCycleStart_kept h hF
  | .nodeReply .., hF => execNodeReply_kept h hF
  | .discoveryReply .., hF => execDiscoveryReply_kept h hF
  | .ringHeaderCheck .., hF => execRingHeaderCheck_kept h hF
  | .ringProbe .., hF => execRingProbe_kept h hF
  | .hostChannelFrame .., hF => execHostChannelFrame_kept h hF
  | .hostChannelDown .., hF => execHostChannelDown_kept h hF
  | .nodeLost .., hF => execNodeLost_kept h hF
  | .pointStuck .., hF => execPointStuck_kept h hF
  | .imageVerifyComplete, hF => execImageVerifyComplete_kept h hF
  | .imageSessionIdle, hF => execImageSessionIdle_kept h hF
  | .baseImageRestart, hF => execBaseImageRestart_kept h hF
  | .tapInstructionUpdate .., hF => execTapInstructionUpdate_kept h hF
  | .secretReload, hF => execSecretReload_kept h hF
  | .temperatureExcursion .., hF => execTemperatureExcursion_kept h hF
  | .overtemperatureLockout .., hF => execOvertemperatureLockout_kept h hF
  | .twinLaneRestored .., hF => execTwinLaneRestored_kept h hF
  | .dormantOrderReceived, hF => execDormantOrderReceived_kept h hF

/-- The queue is no part of the invariant. -/
theorem inv_pending {l : List Instr} : Inv { s with pending := l } ↔ Inv s := Iff.rfl

/-- A command keeps the invariant. -/
theorem inv_of_exec {i : Instr} {t : State} (hi : Inv s) (e : exec i s = .next t) : Inv t :=
  (exec_kept (Kept.of_inv hi) i (Nat.or_self _) t e).inv

end

/-! ### The statements -/

/-- Settles O4 (R232, R306, R373): after reset no output is demanded, nothing waits and nothing is buffered. -/
theorem resetHasInv : Obligations.ResetHasInv := by
  have hgates : GatesStatic State.reset := .inr fun _ _ => rfl
  have hqueues : QueuesBounded State.reset := ⟨by decide, by decide, by decide⟩
  have houts : OutsCanonical State.reset := rfl
  exact ⟨hgates, hqueues, houts⟩

/-- Settles O3 (R232, R306, R373): a step idles or runs the command at the front of the queue, which keeps the
invariant. -/
theorem everyStepKeepsInv : Obligations.EveryStepKeepsInv := by
  intro s t hi hs
  unfold step at hs
  split at hs
  case h_1 => cases hs; exact hi
  case h_2 c rest _ => exact inv_of_exec (inv_pending.2 hi) hs

end Sys2Proof.Machine
end

section
/-! PROOFS. Reads of safety, outputs, pair, ports, nodes and points (R250, R283, R343, R365). -/

namespace Sys2Proof.Machine

section
variable {s : State} {h : Hdr}

/-- A read request of fixed length that passes the checks of its own is answered with what its row gives. -/
theorem readsBack_of_row {i : Instr} {r : Req} {op insts len len' : Nat} {isRead : Bool} {p : State → Bytes}
    (hi : hostOf i = some ⟨h, op, len', fun s => serve s h r (fun s => (s, p s))⟩)
    (hr : r = { r with op := op, insts := insts, isRead := isRead, lenOk := h.len == len, mirrored := false })
    (hc : firstFail r.checks = none) (hw : i.wellFormed = true) (hu : ∀ k o, i ≠ .unknownOpcodePacket k o)
    (ht : hasTurn s h op insts len isRead) : readsBack i h op p s :=
  read_done (exec_host hi hw hu) (congrArg Req.op hr) (congrArg Req.insts hr) (congrArg Req.isRead hr)
    (congrArg Req.mirrored hr) (fun hl => (congrArg Req.lenOk hr).trans (beq_iff_eq.2 hl)) hc ht

theorem ne_zero_of_one_le_toNat {w : Nat} {n : BitVec w} (hn : 1 ≤ n.toNat) : n ≠ 0#w := by
  rintro rfl
  simp at hn

/-- R365: `NODE_LIST` takes up to 128 entries. -/
theorem nodeList_readsBack {first n : U8} (h1 : 1 ≤ n.toNat) (h2 : n.toNat ≤ 128) (ht : hasTurn s h 0x62 64 4 false) :
    readsBack (.nodeList h false first n) h 0x62 (fun s => nodeListReply s h.inst.toNat first.toNat n.toNat) s := by
  refine readsBack_of_row rfl rfl ?_ rfl nofun ht
  simp [firstFail, ne_zero_of_one_le_toNat h1, h2]

/-- R365: `POINT_READ` takes up to 1,016 points of one port. -/
theorem pointRead_readsBack {k : U32} {n : U16} (h1 : 1 ≤ n.toNat) (h2 : n.toNat ≤ 1016)
    (hx : crossesPort k.toNat n.toNat = false) (ht : hasTurn s h 0x63 1 8 false) :
    readsBack (.pointRead h false k n) h 0x63 (fun s => [0#8, 0, 0, 0] ++ le 4 k.toNat ++ le 2 n.toNat ++ [0#8, 0]
      ++ ((List.range n.toNat).map (fun i => le 4 (s.pointWord (k.toNat + i)))).flatten) s := by
  refine readsBack_of_row rfl rfl ?_ rfl nofun ht
  simp [firstFail, ne_zero_of_one_le_toNat h1, h2, hx]

end

/-! ### The statement -/

/-- Settles O13 (R250, R283, R343, R365): no check of their own refuses these reads, and each answers with its layout. A
token of 32 zero bytes is complete, whatever the length of its packet. -/
theorem safetyAndLinkReadsAnswered : Obligations.SafetyAndLinkReadsAnswered := by
  intro s h
  exact ⟨readsBack_of_row rfl rfl rfl rfl nofun, readsBack_of_row rfl rfl rfl rfl nofun,
    readsBack_of_row rfl rfl rfl rfl nofun, readsBack_of_row rfl rfl rfl (Bool.or_true _) nofun,
    readsBack_of_row rfl rfl rfl rfl nofun, readsBack_of_row rfl rfl rfl rfl nofun,
    readsBack_of_row rfl rfl rfl rfl nofun, readsBack_of_row rfl rfl rfl (Bool.or_true _) nofun,
    readsBack_of_row rfl rfl rfl rfl nofun, fun _ _ => nodeList_readsBack, fun _ _ => pointRead_readsBack,
    fun _ => readsBack_of_row rfl rfl rfl rfl nofun⟩

end Sys2Proof.Machine
end

section
/-! PROOFS. The release check of a hand-over (R240, R273, Table 11.8): where it fails on a device that must also leave for
a lasting fault of its own, the device does not resume. -/

namespace Sys2Proof.Machine

section
variable {s : State}

/-! ### A failed check -/

/-- A record enters the journal: what it changes of the pair are the findings that wait for the active. -/
theorem record_pair {f : Finding} : Part.pair.same s (record s f) :=
  have hk : Kept (partsMask [.journal]) false s (record s f) := record_kept .self rfl
  hk.same .pair rfl

theorem record_pair_yielding {f : Finding} : (record s f).pair.yielding = s.pair.yielding := by rw [record_pair]

theorem record_pair_yieldSent {f : Finding} : (record s f).pair.yieldSent = s.pair.yieldSent := by rw [record_pair]

/-- The release check fails on a device that is yielding: it is recorded, and the hand-over ends all the same. -/
theorem exec_releaseCheckEnd_failed_of_yielding (hc : s.pair.checking = true) (hs : s.pair.yieldSent = false)
    (hy : s.pair.yielding = true) :
    exec (.releaseCheckEnd false) s = .next (drain (completeHand (record s { code := 0x6224, sev := 1 }))) := by
  have he : releaseCheckEnd s false = completeHand (record s { code := 0x6224, sev := 1 }) := by
    simp [releaseCheckEnd, hc, record_pair_yieldSent, hs, record_pair_yielding, hy]
  exact congrArg (Host.Outcome.next ∘ drain) he

end

/-! ### The statement -/

/-- A device in SERVICE mode after h1 of a hand-over, whose partner croaks standby. -/
def handingOver : State :=
  { State.reset with
    mode := .service, proving := {}, entryRecs := []
    pair := { hand := 2, slots := [(1, { heard := true, now := true, role := 0 })] } }

/-- The same with its release check under way, after a fault of its own that requires LOCKOUT by tail-drop (R270). -/
def faultedInCheck : State := releaseCheckStart (lockoutBy handingOver 0x7142 6 false)

/-- The check that fails on it ends the hand-over, in LOCKOUT. -/
theorem completeHand_faultedInCheck_mode :
    (drain (completeHand (record faultedInCheck { code := 0x6224, sev := 1 }))).mode = .lockout := by decide

/-- Had it resumed, it would be in SERVICE still. -/
theorem resumeHand_faultedInCheck_mode :
    (drain (resumeHand (record faultedInCheck { code := 0x6224, sev := 1 }) 7)).mode = .service := by decide

/-- Refutes O53: the clause that a failed release check resumes leaves out a device that is yielding after h1. On
`faultedInCheck` the check ends the hand-over in LOCKOUT, where resuming would leave the device in SERVICE. -/
theorem not_outputEvents : ¬ Obligations.OutputEvents := by
  intro hall
  obtain ⟨-, -, -, -, -, -, -, -, hcheck, -⟩ := hall faultedInCheck 0
  have hresume := (hcheck rfl rfl).2 _ rfl rfl
  have hend := exec_releaseCheckEnd_failed_of_yielding (s := faultedInCheck) rfl rfl rfl
  have hmode := congrArg State.mode (Host.Outcome.next.inj (hend.symm.trans hresume))
  rw [completeHand_faultedInCheck_mode, resumeHand_faultedInCheck_mode] at hmode
  cases hmode

end Sys2Proof.Machine
end

section
/-! PROOFS. Reads whose layouts hold a value that the spec leaves open (R283; log entry 12). -/

namespace Sys2Proof.Machine

section
variable {s : State} {h : Hdr}

theorem mirrorStatus_servedBy (ht : hasTurn s h 0x54 1 0 false) :
    servedBy (.mirrorStatus h false) h 0x54 false mirrorReply s := by
  have he := exec_host (s := s) (i := .mirrorStatus h false) rfl rfl nofun
  exact served_done he rfl rfl rfl rfl beq_iff_eq.2 rfl ht

/-- Action 0 takes unit 0 and the zero token, which is complete whatever the length of its packet. -/
theorem partnerAdmitRead_servedBy (ht : hasTurn s h 0x53 1 44 true) :
    servedBy (.partnerAdmitRead h false 0 (zeros 32)) h 0x53 false (fun s => admitReply s stOk 0) s := by
  have hw : Instr.wellFormed (.partnerAdmitRead h false 0 (zeros 32)) = true := Bool.or_true _
  exact served_done (exec_host rfl hw nofun) rfl rfl rfl rfl beq_iff_eq.2 rfl ht

/-- A `MIRROR_STATUS` reply takes one free value, for the bytes of the largest commit. -/
theorem mirrorReply_state : (mirrorReply s).1 = { s with free := s.free + 1 } := rfl

/-- A `PARTNER_ADMIT` reply takes one free value, for the progress of a resync. -/
theorem admitReply_state {st reason : Nat} : (admitReply s st reason).1 = { s with free := s.free + 1 } := rfl

end

/-! ### The statement -/

/-- Settles O14 (R283; log entry 12): each read passes the checks of its own and is answered with its layout, which takes
one free value. -/
theorem openReadsAnswered : Obligations.OpenReadsAnswered :=
  fun _ _ => ⟨mirrorStatus_servedBy, partnerAdmitRead_servedBy, fun _ => ⟨mirrorReply_state, admitReply_state⟩⟩

end Sys2Proof.Machine
end

section
/-! PROOFS. Claims, arbitration and takeovers of a standby (R263, R265, R267, R271): each event by its effect where it is
awaited, and without one where it is not (log entry 4). -/

namespace Sys2Proof.Machine

section
variable {s : State}

/-! ### A claim -/

section
variable (hp : s.power = .on) (hm : s.mode = .shadow) (hc : s.pair.claiming = true) (ha : s.pair.arbRequest = false)
  (hw : s.pair.won = false) (hl : s.pair.claimLeft = 0)
include hp hm hc ha hw hl

/-- R263: a claim that ran its periods is decided by what the partner croaks. -/
theorem exec_claimPeriodsElapsed_of_elapsed :
    exec .claimPeriodsElapsed s = .next
      (if s.com 0x7001 0 == 0 || s.partnerRole == 0 || s.partnerRole == 3 then serviceStart s
        else settle { s with pair := { s.pair with claiming := false } }) :=
  congrArg Host.Outcome.next (if_pos (by simp [hp, hm, hc, ha, hw, hl]))

/-- R263: a claim that nothing opposes ends in service. -/
theorem exec_claimPeriodsElapsed_of_unopposed
    (hu : s.com 0x7001 0 = 0 ∨ s.partnerRole = 0 ∨ s.partnerRole = 3) :
    exec .claimPeriodsElapsed s = .next (serviceStart s) :=
  (exec_claimPeriodsElapsed_of_elapsed hp hm hc ha hw hl).trans
    (congrArg Host.Outcome.next (if_pos (by simpa [or_assoc] using hu)))

/-- R263: an opposed claim ends, and the role is settled anew. -/
theorem exec_claimPeriodsElapsed_of_opposed (hn : s.com 0x7001 0 ≠ 0) (h0 : s.partnerRole ≠ 0)
    (h3 : s.partnerRole ≠ 3) :
    exec .claimPeriodsElapsed s = .next (settle { s with pair := { s.pair with claiming := false } }) :=
  (exec_claimPeriodsElapsed_of_elapsed hp hm hc ha hw hl).trans
    (congrArg Host.Outcome.next (if_neg (by simp [hn, h0, h3])))

end

theorem exec_claimPeriodsElapsed_of_no_claim (hc : s.pair.claiming = false) :
    exec .claimPeriodsElapsed s = .next s := congrArg Host.Outcome.next (if_neg (by simp [hc]))

/-! ### The solo wait -/

/-- R263, R267: at the end of the solo wait the arbiters are asked; with none to count, the claim ends in service. -/
theorem exec_soloWaitExpiry_of_silent (hp : s.power = .on) (hm : s.mode = .shadow) (hs : s.pair.settleWait = true)
    (hh : s.partner.heard = false) {t : State}
    (ht : requestArb { s with pair := { s.pair with settleWait := false, claiming := true, claimLeft := 1 } } 1 = t) :
    exec .soloWaitExpiry s = .next (if t.pair.arbCounted.isEmpty then serviceStart t else t) :=
  congrArg Host.Outcome.next ((if_pos (by simp [hp, hm, hs, hh])).trans (by rw [ht]))

theorem exec_soloWaitExpiry_of_heard (hh : s.partner.heard = true) : exec .soloWaitExpiry s = .next s :=
  congrArg Host.Outcome.next (if_neg (by simp [hh]))

/-! ### The vote -/

section
variable (hw : s.working = true) (ha : s.pair.arbRequest = true)
include hw ha

/-- R267: at the deadline a majority decides. -/
theorem exec_arbitrationDeadline_of_majority {won : Bool} (hv : majority s = some won) :
    exec .arbitrationDeadline s = .next (if won then arbWon s else arbLost s) :=
  congrArg Host.Outcome.next ((if_pos (by simp [hw, ha])).trans (by cases won <;> rw [hv] <;> rfl))

/-- R267: without a majority the request is made once more; the second time, it is settled without one. -/
theorem exec_arbitrationDeadline_of_no_majority (hv : majority s = none) :
    exec .arbitrationDeadline s = .next
      (if s.pair.arbTries == 0 then
        { s with pair := { s.pair with arbTries := 1, arbCounted := arbiters s, arbVotes := [] } }
      else arbOpen s) :=
  congrArg Host.Outcome.next ((if_pos (by simp [hw, ha])).trans (by rw [hv]))

end

theorem exec_arbitrationDeadline_of_no_request (ha : s.pair.arbRequest = false) :
    exec .arbitrationDeadline s = .next s := congrArg Host.Outcome.next (if_neg (by simp [ha]))

/-! ### Takeovers -/

/-- R265: a standby notes a yield over the twin link, with the epoch of the fault's onset. -/
theorem exec_yieldReceived_of_standby {n : Nat} (hp : s.power = .on) (hm : s.mode = .shadow)
    (hw : s.pair.awaiting = false) (hl : s.twinLost = false) :
    exec (.yieldReceived n) s =
      .next { s with pair := { s.pair with yieldHeard := some n, lastSign := s.frame } } :=
  congrArg Host.Outcome.next (if_pos (by simp [hp, hm, hw, hl]))

theorem exec_yieldReceived_of_twinLost {n : Nat} (hl : s.twinLost = true) : exec (.yieldReceived n) s = .next s :=
  congrArg Host.Outcome.next (if_neg (by simp [hl]))

/-- R265: a yield that was heard is taken over without arbitration. -/
theorem exec_yieldTakeover_of_heard {n : Nat} (hp : s.power = .on) (hm : s.mode = .shadow)
    (hw : s.pair.awaiting = false) (hy : s.pair.yieldHeard = some n) :
    exec .yieldTakeover s = .next (takeOver s 2 (satN 32 (s.usSince (4 * s.pair.lastCommit)))
      (s.follows && decide (s.epoch ≤ n + 8)) 0x7111 0) := by
  have he : exec .yieldTakeover s = execYieldTakeover s := rfl
  rw [he, execYieldTakeover, hy]
  exact congrArg Host.Outcome.next (if_pos (by simp [hp, hm, hw]))

theorem exec_yieldTakeover_of_no_yield (hy : s.pair.yieldHeard = none) : exec .yieldTakeover s = .next s := by
  have he : exec .yieldTakeover s = execYieldTakeover s := rfl
  rw [he, execYieldTakeover, hy]

/-- R271: a won arbitration takes over from the silent partner. -/
theorem exec_silentPartnerTakeover_of_won (hp : s.power = .on) (hm : s.mode = .shadow) (hw : s.pair.won = true) :
    exec .silentPartnerTakeover s = .next
      (takeOver s (if s.pair.arbWhy = 3 then 4 else 3) (satN 32 (s.usSince s.pair.lastSign))
        (s.follows && s.pair.cleanSilence && !s.pair.staleWin) 0x7112 1) :=
  congrArg Host.Outcome.next ((if_pos (by simp [hp, hm, hw])).trans (by simp only [beq_iff_eq]))

theorem exec_silentPartnerTakeover_of_not_won (hw : s.pair.won = false) :
    exec .silentPartnerTakeover s = .next s := congrArg Host.Outcome.next (if_neg (by simp [hw]))

end

/-! ### The statement -/

/-- Settles O56 (R263, R265, R267, R271; log entry 4 for an event that is not awaited): a claim by what the partner
croaks, the solo wait by the arbiters there are, the deadline by the votes, a takeover by what called for it. -/
theorem takeoverEvents : Obligations.TakeoverEvents := by
  intro s
  refine ⟨fun hp hm hc ha hw hl => ⟨exec_claimPeriodsElapsed_of_unopposed hp hm hc ha hw hl,
      exec_claimPeriodsElapsed_of_opposed hp hm hc ha hw hl⟩,
    exec_claimPeriodsElapsed_of_no_claim, fun hp hm hs hh t ht => ?_, exec_soloWaitExpiry_of_heard, fun hw ha => ?_,
    exec_arbitrationDeadline_of_no_request,
    fun _ hp hm hw hl => exec_yieldReceived_of_standby hp hm hw (beq_eq_false_iff_ne.2 hl),
    fun _ hl => exec_yieldReceived_of_twinLost (beq_iff_eq.2 hl), fun _ => exec_yieldTakeover_of_heard,
    exec_yieldTakeover_of_no_yield, exec_silentPartnerTakeover_of_won, exec_silentPartnerTakeover_of_not_won⟩
  · have he := exec_soloWaitExpiry_of_silent hp hm hs hh ht
    exact ⟨fun hn => by rw [he, if_pos (List.isEmpty_iff.2 hn)],
      fun hn => by rw [he, if_neg (mt List.isEmpty_iff.1 hn)]⟩
  · refine ⟨exec_arbitrationDeadline_of_majority hw ha, exec_arbitrationDeadline_of_majority hw ha,
      fun hv ht => ?_, fun hv ht => ?_⟩
    · rw [exec_arbitrationDeadline_of_no_majority hw ha hv, if_pos (beq_iff_eq.2 ht)]
    · rw [exec_arbitrationDeadline_of_no_majority hw ha hv, if_neg (mt beq_iff_eq.1 ht)]

end Sys2Proof.Machine
end

section
/-! PROOFS. Memory integrity and the recorder (R290, R292, R293, R304, R305, R307, R308, R310, R313): what a read of a
codeword raises, how a flush starts and ends, and each event by its effect. -/

namespace Sys2Proof.Machine

section
variable {s : State}

/-! ### The scrub (R290, R292 to R294) -/

section
variable {mram : Bool} {bank : Nat} {held : Region}

theorem memRead_clean : memRead s mram bank .clean held = s := by cases mram <;> rfl

/-- R290: a corrected word that reads clean again is a transient finding. -/
theorem memRead_corrected : memRead s mram bank (.corrected false) held =
    raise (s.modMem (countFind mram (.corrected false)))
      { code := if mram then 0xA311 else 0xA301, sev := 0, cls := 1, inst := if mram then 0xFF else bank } := rfl

theorem memRead_transient : memRead s mram bank .transient held =
    raise (s.modMem (countFind mram .transient))
      { code := if mram then 0xA313 else 0xA303, sev := 0, cls := 1, inst := if mram then 0xFF else bank } := by
  cases mram <;> rfl

theorem memRead_lost : memRead s mram bank .lost held =
    loseWord (s.modMem (countFind mram .lost)) mram bank held := rfl

/-- R293: a word of SRAM that stays wrong after its rewrite is stuck. -/
theorem memRead_stuck : memRead s false bank (.corrected true) held =
    stuckWord (raise (s.modMem (countFind false (.corrected true)))
      { code := 0xA302, sev := 1, cls := 2, inst := bank }) bank := rfl

end

theorem exec_scrubRead_of_working {mram : Bool} {bank : Fin 26} {found : MemFind} {held : Region}
    (hw : s.working = true) :
    exec (.scrubRead mram bank found held) s = .next (drain (memRead s mram bank found held)) :=
  congrArg Host.Outcome.next (if_pos hw)

/-- R292: the time of the pass is kept, and the next one takes the target set for it. -/
def passTimed (s : State) (ms : Nat) : State :=
  (s.latch' .nextPass none).modMem (fun m => { m with scrubLast := ms, scrubMax := max m.scrubMax ms })

/-- R292: a pass longer than 4 s is recorded. -/
theorem exec_scrubPassComplete_of_working {ms : Nat} (hw : s.working = true) (hm : ms < 2 ^ 16) :
    exec (.scrubPassComplete ms) s = .next
      (if 4000 < ms then record (passTimed s ms) { code := 0xA321, sev := 1 } else passTimed s ms) := by
  have hs : satN 16 ms = ms := if_pos hm
  refine congrArg Host.Outcome.next ((if_pos hw).trans ?_)
  rw [hs]
  rfl

/-! ### Sparing (R293) -/

theorem exec_bankCopyComplete_of_copying {bank : Fin 26} (hw : s.working = true)
    (hc : s.mem.copying.contains (bank : Nat) = true) :
    exec (.bankCopyComplete bank) s = .next (s.modMem (fun m => { m with
      copying := m.copying.filter (· != (bank : Nat)), takeover := m.takeover ++ [(bank : Nat)] })) :=
  congrArg Host.Outcome.next (if_pos (by rw [hw, hc]; rfl))

theorem exec_bankCopyComplete_of_not_copying {bank : Fin 26} (hc : s.mem.copying.contains (bank : Nat) = false) :
    exec (.bankCopyComplete bank) s = .next s :=
  congrArg Host.Outcome.next (if_neg (by rw [hc, Bool.and_false]; exact Bool.false_ne_true))

/-! ### A flush starts (R304, R436) -/

section
variable {pfail : Bool}

theorem beginFlush_of_idle (hf : s.flushable = true) (hn : s.log.flushing = none) :
    beginFlush s pfail = { s with log := { s.log with
      flushing := some s.log.buffer.length, flushDue := false, heldTrigger := false, flushPfail := pfail } } := by
  simp [beginFlush, hf, hn]

/-- A flush under way is followed by one more, a power-fail flush where one is asked for. -/
theorem beginFlush_of_flushing (hf : s.flushable = true) (hn : s.log.flushing ≠ none) :
    beginFlush s pfail = { s with log := { s.log with
      flushAgain := true, pfailAgain := s.log.pfailAgain || pfail } } := by
  simp [beginFlush, hf, Option.isSome_iff_ne_none.2 hn]

/-- R436: while PROVING still tests the MRAM, the trigger is held. -/
theorem beginFlush_of_not_flushable (hf : s.flushable = false) :
    beginFlush s pfail = { s with log := { s.log with heldTrigger := true } } := by
  simp [beginFlush, hf]

end

theorem exec_flushStart_of_trigger (hr : s.running = true)
    (hd : s.log.flushDue = true ∨ s.log.heldTrigger = true) :
    exec .flushStart s = .next (beginFlush s false) :=
  congrArg Host.Outcome.next (if_pos (by simp [hr, hd]))

theorem exec_flushTimer_of_running (hr : s.running = true) :
    exec .flushTimer s = .next { s with log := { s.log with
      flushDue := s.log.flushDue || s.flushable, heldTrigger := s.log.heldTrigger || !s.flushable } } := by
  refine congrArg Host.Outcome.next ((if_neg (by simp [hr])).trans ?_)
  cases hf : s.flushable <;> simp

/-! ### A flush ends (R304, R307, R313, R314) -/

/-- R304: the records flushed are in the log as far as it has room, and the operating time is saved. -/
theorem endFlush_of_flushing {us n : Nat} (hn : s.log.flushing = some n) :
    ∃ t, endFlush s us = warnLog (notKept t ((s.log.buffer.take n).drop (32767 - s.log.log.length))) ∧
      t.log.log = s.log.log ++ (s.log.buffer.take n).take (32767 - s.log.log.length) ∧
      t.log.buffer = s.log.buffer.drop n ∧
      t.log.flushing = (if s.log.pfailAgain then some (s.log.buffer.drop n).length else none) ∧
      t.log.lastFlush = s.opTime ∧ t.opSaved = s.opTime := by
  rw [endFlush, hn]
  exact ⟨_, rfl, rfl, rfl, rfl, rfl, rfl⟩

/-- R313: once the flush is over and none follows it, a clear that waited for it is done and answered. -/
def clearAfterFlush (t : State) : State :=
  match t.log.clearing with
  | some h =>
    if t.log.flushing.isNone && t.running then drain (answer (clearLog t).1 h 0x75 true (clearLog t).2) else t
  | none => t

theorem clearAfterFlush_of_none (hc : s.log.clearing = none) : clearAfterFlush s = s := by
  rw [clearAfterFlush, hc]

theorem clearAfterFlush_of_some {h : Hdr} (hc : s.log.clearing = some h) (hf : s.log.flushing = none)
    (hr : s.running = true) :
    clearAfterFlush s = drain (answer (clearLog s).1 h 0x75 true (clearLog s).2) := by
  rw [clearAfterFlush, hc]
  exact if_pos (by simp [hf, hr])

theorem exec_flushComplete {us : Nat} :
    exec (.flushComplete us) s = .next (clearAfterFlush (tryRelease (endFlush s us))) := rfl

/-! ### Power failure (R305) -/

theorem exec_pfailFall_of_running (hr : s.running = true) (hp : s.pins.pfailN = true) :
    exec .pfailFall s = .next (beginFlush (event { s with pins := { s.pins with pfailN := false } } 0x9120) true) :=
  congrArg Host.Outcome.next (if_pos (by simp [hr, hp]))

theorem exec_pfailRise_of_running (hr : s.running = true) (hp : s.pins.pfailN = false)
    (hs : s.pins.supplies = true) :
    exec .pfailRise s = .next (event { s with pins := { s.pins with pfailN := true } } 0x9121) :=
  congrArg Host.Outcome.next (if_pos (by simp [hr, hp, hs]))

theorem exec_pfailFall_of_not_running (hr : s.running = false) :
    exec .pfailFall s = .next { s with pins := { s.pins with pfailN := false } } :=
  congrArg Host.Outcome.next (if_neg (by simp [hr]))

theorem exec_pfailRise_of_not_running (hr : s.running = false) :
    exec .pfailRise s = .next { s with pins := { s.pins with pfailN := true } } :=
  congrArg Host.Outcome.next (if_neg (by simp [hr]))

/-! ### Rate limits and cursors (R308, R310) -/

/-- R308: a token that was spent is free again. -/
def refillToken (b : Bucket) : Bucket := { b with spent := b.spent - 1 }

theorem exec_rateTokenRefill_of_running {code : U16} (hr : s.running = true) :
    exec (.rateTokenRefill code) s = .next { s with log := { s.log with
      buckets := tmod (dft {}) s.log.buckets code.toNat refillToken } } :=
  congrArg Host.Outcome.next (if_pos hr)

theorem exec_cursorIdleClose_of_running {c : Fin 8} (hr : s.running = true) :
    exec (.cursorIdleClose c) s = .next (s.modCursor c (fun _ => {})) :=
  congrArg Host.Outcome.next (if_pos hr)

end

/-! ### The statement -/

/-- Settles O57 (R290, R292 to R294, R304, R305, R307, R308, R310, R313; log entry 31 for the instance of the memory
events): a read by what the code found, a flush by whether one is under way, each other event by its own effect. -/
theorem memoryAndRecorderEvents : Obligations.MemoryAndRecorderEvents := by
  intro s
  refine ⟨fun mram bank held hw => ⟨?_, ?_, ?_, ?_, ?_⟩, fun ms hw hm => ?_, fun ms hw hl hm => ?_,
    fun _ => exec_bankCopyComplete_of_copying, fun _ => exec_bankCopyComplete_of_not_copying,
    fun hr hd hf => ⟨fun hn => ?_, fun hn => ?_⟩, fun hr hh hf => ?_, exec_flushTimer_of_running,
    fun us n hn => endFlush_of_flushing hn, fun us t ht hc => ?_, fun us h t ht hc hf hr => ?_,
    exec_pfailFall_of_running, exec_pfailRise_of_running,
    fun hr => ⟨exec_pfailFall_of_not_running hr, exec_pfailRise_of_not_running hr⟩,
    fun code hr => ⟨_, exec_rateTokenRefill_of_running hr, fun hb => ?_⟩, fun _ => exec_cursorIdleClose_of_running⟩
  · rw [exec_scrubRead_of_working hw, memRead_clean]
  · rw [exec_scrubRead_of_working hw, memRead_corrected]
  · rw [exec_scrubRead_of_working hw, memRead_transient]
  · rw [exec_scrubRead_of_working hw, memRead_lost]
  · rw [exec_scrubRead_of_working hw, memRead_stuck]
  · rw [exec_scrubPassComplete_of_working hw (by omega), if_neg (by omega)]
    rfl
  · rw [exec_scrubPassComplete_of_working hw hm, if_pos hl]
    rfl
  · rw [exec_flushStart_of_trigger hr hd, beginFlush_of_idle hf hn]
  · rw [exec_flushStart_of_trigger hr hd, beginFlush_of_flushing hf hn, Bool.or_false]
  · -- the trigger held is held already
    rw [exec_flushStart_of_trigger hr (.inr hh), beginFlush_of_not_flushable hf, ← hh]
  · rw [exec_flushComplete, ht, clearAfterFlush_of_none hc]
  · rw [exec_flushComplete, ht, clearAfterFlush_of_some hc hf hr]
  · exact congrArg Bucket.spent (tget_tmod_self (f := refillToken) hb)

end Sys2Proof.Machine
end

section
/-! PROOFS. The block (log entries 2 and 3): what a step does with the queue, and which commands complete. -/

namespace Sys2Proof.Machine

variable {s t : State}

/-! ### Which commands complete -/

/-- A command that can occur completes, and one that cannot stops as ill-formed. -/
def CompletesIffOccurs (occ : Bool) (x : Host.Outcome State Fault Refusal) : Prop :=
  (occ = true ∧ ∃ t, x = .next t) ∨ (occ = false ∧ x = .fault .illFormed)

theorem completes_next : CompletesIffOccurs true (.next t) := .inl ⟨rfl, _, rfl⟩

theorem completes_if_wellFormed {w : Bool} : CompletesIffOccurs w (if w then .next t else .fault .illFormed) := by
  cases w
  · exact .inr ⟨rfl, rfl⟩
  · exact completes_next

theorem completes_unless {w : Bool} : CompletesIffOccurs (!w) (if w then .fault .illFormed else .next t) := by
  cases w
  · exact completes_next
  · exact .inr ⟨rfl, rfl⟩

theorem imageVerifyComplete_completes : CompletesIffOccurs true (exec .imageVerifyComplete s) := by
  have he : exec .imageVerifyComplete s = execImageVerifyComplete s := rfl
  rw [he, execImageVerifyComplete]
  split <;> exact completes_next

theorem unknownOpcodePacket_completes {h : Hdr} {op : U8} :
    CompletesIffOccurs (occurs (.unknownOpcodePacket h op)) (exec (.unknownOpcodePacket h op) s) := by
  have ho : occurs (.unknownOpcodePacket h op) = !(findOp op.toNat).isSome := (Option.not_isSome _).symm
  rw [ho]
  exact completes_unless

/-- Only the commands whose operands are checked can stop: a request or an event by its well-formedness, the packet of an
unknown opcode and the transaction of an unknown command by what names them. -/
theorem exec_completes (c : Instr) : CompletesIffOccurs (occurs c) (exec c s) := by
  cases c
  case identityRead | modeRequest | paramWrite | learnRunRead | learnRunStart | learnRunAbort | doorTableWrite
      | loopCoeffStage | captureArm | safetySetConfirm | lockoutResetRead | lockoutResetArm | partnerReleaseRead
      | partnerRelease | partnerAdmitRead | partnerAdmit | pointMapWrite | nodeMessageSend | logClear | imageChunk
      | keyEnrolRead | keyEnrol | hqWrite | encoderSample | sampleFrameTick => exact completes_if_wellFormed
  case unknownOpcodePacket => exact unknownOpcodePacket_completes
  case hqUnknownCommand => exact completes_unless
  case imageVerifyComplete => exact imageVerifyComplete_completes
  all_goals exact completes_next

/-! ### The statements -/

/-- Settles O1: the command at the front of the queue is what a step runs. -/
theorem stepRunsFrontCommand : Obligations.StepRunsFrontCommand := fun _ _ => rfl

/-- Settles O2 (log entry 2). -/
theorem stepIdlesOnEmptyQueue : Obligations.StepIdlesOnEmptyQueue := by
  intro s hp
  rw [step, hp]

/-- Settles O31: a command that can occur completes, and what it keeps is what every command keeps of the parts outside its
list. -/
theorem everyCommandCompletes : Obligations.EveryCommandCompletes := by
  intro c s ho
  obtain ⟨-, t, ht⟩ | ⟨hn, -⟩ := exec_completes (s := s) c
  · have hk : KeptO (partsMask (changes c)) false s (exec c s) := exec_kept .self c (Nat.or_self _)
    exact ⟨t, ht, (hk t ht).pend, fun _ hp => hk.frame ht hp⟩
  · exact absurd ho (by simp [hn])

/-- Settles O32 (log entry 3). -/
theorem impossibleCommandsStop : Obligations.ImpossibleCommandsStop := by
  intro c s hn
  obtain ⟨ho, -⟩ | ⟨-, hf⟩ := exec_completes (s := s) c
  · exact absurd ho (by simp [hn])
  · exact hf

end Sys2Proof.Machine
end

section
/-! PROOFS. A device without power, in reset or DORMANT (Tables 03.1 and 03.2, R370): its channels are down, none of its
units runs, and what reaches it changes nothing. -/

namespace Sys2Proof.Machine

/-! ### What does not run -/

/-- No power, reset, or DORMANT mode. -/
def Asleep (s : State) : Prop := s.power ≠ .on ∨ s.mode = .dormant

section
variable {s : State} (ha : Asleep s)
include ha

theorem Asleep.running : s.running = false := by rcases ha with h | h <;> simp [State.running, h]

theorem Asleep.working : s.working = false := by rcases ha with h | h <;> simp [State.working, h]

theorem Asleep.hears : s.hears = false := by rcases ha with h | h <;> simp [State.hears, h]

theorem Asleep.dispatches : s.dispatches = false := by rcases ha with h | h <;> simp [State.dispatches, h]

theorem Asleep.listening : s.listening = false := by simp [State.listening, ha.running]

theorem Asleep.chan_down {c : Chan} : s.chanUp c = false := by cases c <;> simp [State.chanUp, ha.running]

theorem Asleep.not_shadow : (s.power == .on && s.mode == .shadow) = false := by rcases ha with h | h <;> simp [h]

theorem Asleep.not_incharge : (s.power == .on && s.incharge) = false := by
  rcases ha with h | h <;> simp [h, State.incharge, State.activeCom]

theorem Asleep.not_inStepActive : (s.power == .on && s.inStepActive) = false := by
  rw [State.inStepActive, ← Bool.and_assoc, ha.not_incharge, Bool.false_and]

theorem Asleep.hoistRuns : s.hoistRuns = false := by
  rcases ha with h | h <;> simp [h, State.hoistRuns, State.incharge, State.activeCom, State.follows]

theorem Asleep.doorsRun {d : Nat} : s.doorsRun d = false := by
  have hh := ha.hoistRuns
  rw [State.hoistRuns] at hh
  rw [State.doorsRun, hh, Bool.false_and]

/-! ### What reaches it -/

omit ha in
theorem wellFormed_of_occurs {i : Instr} (ho : occurs i = true) : i.wellFormed = true := by
  unfold occurs at ho
  split at ho
  · rfl
  · rfl
  · exact ho

/-- R370: a request on a channel that is down is not taken. -/
theorem Asleep.hostRow_stays {i : Instr} {h : Hdr} {op len : Nat} {run : State → State} :
    hostRow s i h op len run = .next s := by simp [hostRow, complete, ha.chan_down]

theorem Asleep.exec_host_stays {i : Instr} {r : HostReq} (e : hostOf i = some r) (ho : occurs i = true) :
    exec i s = .next s := by
  by_cases hu : ∃ k o, i = .unknownOpcodePacket k o
  · obtain ⟨k, o, rfl⟩ := hu
    have hf : (findOp o.toNat).isSome = false := by simpa [occurs] using ho
    exact (if_neg (by simp [hf])).trans ha.hostRow_stays
  · exact (exec_host e (wellFormed_of_occurs ho) (by simpa using hu)).trans ha.hostRow_stays

theorem Asleep.carSummaryReceived_stays {pair : Fin 4} {hd : IpHdr} {x : CarSummary} :
    exec (.carSummaryReceived pair hd x) s = .next s := by
  have he : exec (.carSummaryReceived pair hd x) s = execCarSummaryReceived pair hd x s := rfl
  rw [he, execCarSummaryReceived]
  simp [onItem, ha.dispatches]

theorem Asleep.pointStuck_stays {k : BitVec 20} : exec (.pointStuck k) s = .next s := by
  have he : exec (.pointStuck k) s = execPointStuck k s := rfl
  rw [he, execPointStuck]
  simp only [ha.hears, Bool.false_and, Bool.false_eq_true, if_false]
  split <;> rfl

theorem Asleep.darkTestRepeat_stays {o : Fin 32} : exec (.darkTestRepeat o) s = .next s := by
  have he : exec (.darkTestRepeat o) s = execDarkTestRepeat o s := rfl
  rw [he, execDarkTestRepeat]
  simp only [ha.not_incharge, Bool.false_and, Bool.false_eq_true, if_false]
  split <;> rfl

theorem Asleep.yieldTakeover_stays : exec .yieldTakeover s = .next s := by
  have he : exec .yieldTakeover s = execYieldTakeover s := rfl
  rw [he, execYieldTakeover]
  simp only [ha.not_shadow, Bool.false_and, Bool.false_eq_true, if_false]
  split <;> rfl

theorem Asleep.imageVerifyComplete_stays : exec .imageVerifyComplete s = .next s := by
  have he : exec .imageVerifyComplete s = execImageVerifyComplete s := rfl
  rw [he, execImageVerifyComplete]
  simp only [ha.running, Bool.false_eq_true, if_false]

theorem Asleep.modeTransitionBegin_stays : exec .modeTransitionBegin s = .next s := by
  have he : exec .modeTransitionBegin s = execModeTransitionBegin s := rfl
  rw [he, execModeTransitionBegin]
  simp only [ha.running, Bool.false_eq_true, if_false]

/-- An event that a device takes note of only where it runs meets a guard that does not hold. -/
theorem Asleep.exec_event_stays (c : Instr) (hc : hostOf c = none) (ho : occurs c = true) (hs : stirsAsleep c = false) :
    exec c s = .next s := by
  cases c
  all_goals cases hs
  all_goals cases hc
  case sampleFrameTick => exact (if_pos ho).trans (congrArg _ (tick_of_not_running ha.running))
  case carSummaryReceived => exact ha.carSummaryReceived_stays
  case pointStuck => exact ha.pointStuck_stays
  case darkTestRepeat => exact ha.darkTestRepeat_stays
  case yieldTakeover => exact ha.yieldTakeover_stays
  case imageVerifyComplete => exact ha.imageVerifyComplete_stays
  case modeTransitionBegin => exact ha.modeTransitionBegin_stays
  case encoderSample => exact (if_pos ho).trans (congrArg _ (if_neg (by simp [ha.working])))
  case hqWrite => exact (if_pos ho).trans (congrArg _ (if_neg (by simp [ha.chan_down])))
  case hqUnknownCommand b =>
    have hb : ¬(b == 0x11 || b == 0x22 || b == 0x33 || b == 0x44) = true := by simpa [occurs] using ho
    exact (if_neg hb).trans (congrArg _ (if_neg (by simp [ha.chan_down])))
  case badCrcPacket => exact congrArg _ (if_pos (by simp [ha.chan_down]))
  case hqStatus | hqRead | hqFlush | partialPacketTimeout => exact congrArg _ (if_neg (by simp [ha.chan_down]))
  case provingUnitComplete | bgSliceComplete | flushTimer | croakSlot | tapInstructionUpdate | temperatureExcursion =>
    exact congrArg _ (if_pos (by simp [ha.running]))
  case bgSliceStart | bgCycleOverdue | epochMarkReceived | injectionTimeout | captureTimeout | persistentAnomaly
      | confirmWindowExpiry | tripResetWindowExpiry | lockoutResetWindowExpiry | enrolWindowExpiry | vetoReceived
      | operatingTimeSave | flushStart | rateTokenRefill | cursorIdleClose | imageSessionIdle | baseImageRestart
      | secretReload | overtemperatureLockout | dormantOrderReceived => exact congrArg _ (if_neg (by simp [ha.running]))
  case healthRecordReceived | safetyInputChange | lrstOperationEnd | hoistSample =>
    exact congrArg _ (if_pos (by simp [ha.working]))
  case healthPublish | epochBoundary | shedEvaluation | safetyCycle | timebaseMarkMissing | referenceMark
      | auxObserverSample | ssiFrameReceived | ssiClockAbsent | safetyInputChatterEnd | brakeOpenTimeout
      | brakeCloseTimeout | brakeTestOverdue | outputConfirmTimeout | twinLaneLost | commitMissing | resyncComplete
      | partnerSilent | arbitrationDeadline | scrubRead | scrubPassComplete | bankCopyComplete | hostChannelFrame
      | twinLaneRestored => exact congrArg _ (if_neg (by simp [ha.working]))
  case tripAdmission | pretorqueSettleExpiry | brakesOpenConfirmed | startTimeout | brakesClosedConfirmed
      | torqueHoldExpiry | torqueRampEnd | relevelDelayExpiry | reversalDwellExpiry | jogKeepaliveExpiry
      | jogReversalHoldExpiry | brakeTestPhaseEnd | loopSample => exact congrArg _ (if_neg (by simp [ha.hoistRuns]))
  case doorSample | doorLockConfirmed | doorLockTimeout | referencingTimeout | openRetryExpiry | nudgeTimerExpiry
      | doorDwellExpiry | tableCrcConfirm => exact congrArg _ (if_neg (by simp [ha.doorsRun]))
  case forwardedCallReceived | decisionReceived | transferItemReceived | transferLegReceived | groupEpochReceived =>
    exact congrArg _ (if_pos (by simp [ha.dispatches]))
  case callEvaluation | groupEpochBoundary | pairOutOfReach | refinePeriod =>
    exact congrArg _ (if_neg (by simp [ha.dispatches]))
  case regimeChange | darkTestStart | ownCroakNotReadBack => exact congrArg _ (if_neg (by simp [ha.not_incharge]))
  case commitReceived | claimPeriodsElapsed | soloWaitExpiry | yieldReceived | silentPartnerTakeover =>
    exact congrArg _ (if_neg (by simp [ha.not_shadow]))
  case commitAckReceived | partnerFindingReceived => exact congrArg _ (if_neg (by simp [ha.not_inStepActive]))
  case croakReceived => exact congrArg _ (if_pos (by simp [ha.listening]))
  case croakLineFault => exact congrArg _ (if_neg (by simp [ha.listening]))
  case portCycleStart | nodeReply | discoveryReply => exact congrArg _ (if_pos (by simp [ha.hears]))
  case ringHeaderCheck | ringProbe | hostChannelDown | nodeLost => exact congrArg _ (if_neg (by simp [ha.hears]))
  case heldWakeDemandTaken | vetoAssert => exact congrArg _ (if_neg (by rcases ha with h | h <;> simp [h]))

end

/-! ### The statement -/

/-- Settles O60 (R370, R431, Tables 03.1 and 03.2): a request finds its channel down, and any other command that is not
one of those that stir the device finds the unit that would carry it out at rest. -/
theorem nothingHappensWithoutPower : Obligations.NothingHappensWithoutPower := by
  intro s c ha ho hs
  rcases hc : hostOf c with _ | r
  · exact Asleep.exec_event_stays ha c hc ho hs
  · exact Asleep.exec_host_stays ha hc ho

end Sys2Proof.Machine
end

section
/-! PROOFS. Requests before their own checks (R371, R373, R374, R376, R377, R382, R383): one that waits, one beyond the
window, and the refusals of flags, mode, opcode and CRC. -/

namespace Sys2Proof.Machine

variable {s : State} {h : Hdr}

/-! ### The window and the queue (R373, R374) -/

theorem contains_eq_false_of_seq {l : List (U16 × U32)} {a : U16} {b : U32} (hs : (l.any fun w => w.1 == a) = false) :
    l.contains (a, b) = false := by
  rw [List.any_eq_false] at hs
  rw [← Bool.not_eq_true, List.contains_iff_mem]
  exact fun hm => hs _ hm (by simp)

/-- A request beyond the window leaves its mark on the host port alone (R373). -/
def overWindow (s : State) (h : Hdr) : State :=
  match h.chan with
  | .port => s.hqError 2
  | .link => s

theorem hostRow_of_full {i : Instr} {op len : Nat} {run : State → State} (hc : s.chanUp h.chan = true)
    (hl : 16 ≤ (s.chan h.chan).waiting.length) :
    hostRow s i h op len run = .next (event (overWindow s h) 0xA410) := by
  simp only [hostRow, complete, hc, hl, Bool.not_true, Bool.false_eq_true, if_false, if_true]
  rfl

theorem hostRow_of_busy {i : Instr} {op len : Nat} {run : State → State} (hc : s.chanUp h.chan = true)
    (hl : (s.chan h.chan).waiting.length < 16) (hs : ((s.chan h.chan).waiting.any fun w => w.1 == h.seq) = false)
    (hb : s.hostBusy = true ∨ s.host.waiting ≠ []) :
    ∃ t, hostRow s i h op len run = .next t ∧ waitsLast s t h (.cmd i h op len) := by
  refine ⟨{ takenOn s h with host := { (takenOn s h).host with
    waiting := s.host.waiting ++ [.cmd i h op len] } }, ?_, rfl⟩
  have hw : (s.hostBusy || !s.host.waiting.isEmpty) = true := by simpa using hb
  have ht : (takenOn s h).host.waiting = s.host.waiting := by unfold takenOn; cases h.chan <;> rfl
  rw [← ht]
  simp only [hostRow, complete, hc, hs, hw, contains_eq_false_of_seq hs, Bool.not_true, Bool.false_eq_true, if_false,
    if_true, Nat.not_le.2 hl, takenOn]

/-! ### How a request row is served -/

/-- What follows the status in a refusal of an opcode's layout (R377). -/
def fixedAfter (op : Nat) : Bytes :=
  if op = 0x07 ∨ op = 0x20 then [0xFF] else if op = 0x22 then [0, 0xFF] else []

/-- `t` is what a request with header `h` leads to in `s` where one of the checks 2 to 9 of R376 refuses it. -/
def Gated (t s : State) (h : Hdr) (op len : Nat) : Prop :=
  ∃ q : Req, (∀ p, gate s h q = some p → t = answer s h op false p) ∧ q.op = op ∧ q.len = len ∧ q.fixed = fixedAfter op

theorem serve_gated {q : Req} {e : State → State × Bytes} (hf : q.fixed = fixedAfter q.op) :
    Gated (serve s h q e) s h q.op q.len := by
  refine ⟨q, fun p hg => ?_, rfl, rfl, hf⟩
  simp only [serve, hg]

theorem actParamCommit_gated {rsv : Bool} : Gated (actParamCommit h rsv s) s h 0x08 16 :=
  ⟨commitReq h rsv false, fun p hg => by simp only [actParamCommit, hg], rfl, rfl, rfl⟩

/-- How both kinds of coefficient swap are checked. -/
def swapChecks (h : Hdr) (rsv : Bool) : Req :=
  { op := 0x32, insts := 1, len := 16, lenOk := h.len == 12, checks := [(rsv, stBadParam)] }

theorem actLoopCoeffSwap_gated {rsv : Bool} {mask : U64} : Gated (actLoopCoeffSwap h rsv mask s) s h 0x32 16 :=
  ⟨swapChecks h rsv, fun p hg => by rw [swapChecks] at hg; simp only [actLoopCoeffSwap, hg], rfl, rfl, rfl⟩

theorem actLoopCoeffSwapReset_gated {rsv : Bool} {mask : U64} :
    Gated (actLoopCoeffSwapReset h rsv mask s) s h 0x32 16 :=
  ⟨swapChecks h rsv, fun p hg => by rw [swapChecks] at hg; simp only [actLoopCoeffSwapReset, hg], rfl, rfl, rfl⟩

theorem actLogClear_gated {rsv : Bool} {token : Bytes} : Gated (actLogClear h rsv token s) s h 0x75 12 :=
  ⟨{ op := 0x75, insts := 1, len := 12, lenOk := h.len == 32
     checks := [(rsv, stBadParam), (zeroToken token, stAuthRequired)] },
    fun p hg => by simp only [actLogClear, hg], rfl, rfl, rfl⟩

theorem actDoor_gated {action : Nat} {rsv : Bool} {target v : U32} :
    Gated (actDoor action h rsv target v s) s h 0x28 8 := by
  unfold actDoor
  exact serve_gated rfl

/-- Every request but `MODE_REQUEST`, which names the mode in its refusals, is answered with what the checks refuse it
by. -/
theorem hostOf_gated {i : Instr} {r : HostReq} (e : hostOf i = some r) (hu : ∀ k o, i ≠ .unknownOpcodePacket k o)
    (hm : r.op ≠ 0x02) : Gated (r.act s) s r.hdr r.op r.len := by
  cases i
  all_goals cases e
  case unknownOpcodePacket h op => exact absurd rfl (hu h op)
  case modeRequest => exact absurd rfl hm
  all_goals dsimp only
  case paramCommit => exact actParamCommit_gated
  case loopCoeffSwap => exact actLoopCoeffSwap_gated
  case loopCoeffSwapReset => exact actLoopCoeffSwapReset_gated
  case logClear => exact actLogClear_gated
  case doorStop | doorOpen | doorClose | doorNudgeClose | doorHoldOpen | doorReleaseHold | doorReference =>
    exact actDoor_gated
  case provingReport => unfold actProvingReport; exact serve_gated rfl
  case loopCoeffStage => unfold actLoopCoeffStage; exact serve_gated rfl
  case injectStart => unfold actInjectStart; exact serve_gated rfl
  case captureArm => unfold actCaptureArm; exact serve_gated rfl
  case keyEnrol => unfold actKeyEnrol; exact serve_gated rfl
  all_goals refine serve_gated ?_
  all_goals exact rfl

/-! ### Refusals of flags and mode (R376, R377, R382, R383) -/

/-- Check 2 of R376. -/
theorem gate_of_flags {q : Req} (hf : h.flags ≠ 0) : gate s h q = some (refusal 4 stBadParam) :=
  if_pos (bne_iff_ne.2 hf)

/-- Check 4 of R376. -/
theorem gate_of_mode {q : Req} {st : Nat} (hf : h.flags = 0) (hc : modeCheck s q.op q.isRead = some st)
    (hs : st ≠ stBadOpcode) : gate s h q = some (q.refused st) := by
  simp only [gate, hf, hc, beq_eq_false_iff_ne.2 hs, bne_self_eq_false, Bool.false_eq_true, if_false]

/-- R377: the layout's own values and zeros follow the status. -/
theorem refused_eq_refusedWith {r : HostReq} {q : Req} (hm : r.op ≠ 0x02) (hl : q.len = r.len)
    (hx : q.fixed = fixedAfter r.op) (st : Nat) : q.refused st = refusedWith s r st := by
  rw [Req.refused, refusedWith, if_neg hm, hl, hx, fixedAfter]
  split_ifs <;> simp [refusal, Nat.sub_sub]

/-- What the checks of flags and mode make of a request, where they refuse it. -/
structure Refuses (t s : State) (r : HostReq) : Prop where
  flags : r.hdr.flags ≠ 0 → t = answer s r.hdr r.op false (refusal 4 stBadParam)
  mode : ∀ st, st < 256 → st ≠ stBadOpcode → r.hdr.flags = 0 → (∀ b, modeCheck s r.op b = some st) →
    t = answer s r.hdr r.op false (refusedWith s r st)

theorem Gated.refuses {t : State} {r : HostReq} (hg : Gated t s r.hdr r.op r.len) (hm : r.op ≠ 0x02) : Refuses t s r := by
  obtain ⟨q, hp, ho, hl, hx⟩ := hg
  refine ⟨fun hf => hp _ (gate_of_flags hf), fun st _ hs hf hc => ?_⟩
  rw [← refused_eq_refusedWith hm hl hx]
  exact hp _ (gate_of_mode hf (ho ▸ hc _) hs)

/-- The refusals of `MODE_REQUEST` name the mode. -/
theorem actModeRequest_refuses {rsv : Bool} {target : U8} {token : Bytes} :
    Refuses (actModeRequest h rsv target token s) s ⟨h, 0x02, 4, actModeRequest h rsv target token⟩ := by
  refine ⟨fun hf => ?_, fun st hb hs hf hc => ?_⟩
  · simp only [actModeRequest, gate_of_flags hf, bne_iff_ne.2 hf, if_true]
  · simp only [actModeRequest]
    rw [gate_of_mode hf (hc _) hs]
    have hf' : (h.flags != 0) = false := by simpa using hf
    simp only [Req.refused, List.append_assoc, statusOf_le_append hb, hf', Bool.false_eq_true, if_false]
    rfl

theorem hostOf_modeRequest {i : Instr} {r : HostReq} (e : hostOf i = some r) (hu : ∀ k o, i ≠ .unknownOpcodePacket k o)
    (hm : r.op = 0x02) : ∃ h rsv target token, r = ⟨h, 0x02, 4, actModeRequest h rsv target token⟩ := by
  cases i
  all_goals cases e
  case modeRequest => exact ⟨_, _, _, _, rfl⟩
  case unknownOpcodePacket h op => exact absurd rfl (hu h op)
  all_goals exact absurd hm (by dsimp only; decide)

theorem hostOf_refuses {i : Instr} {r : HostReq} (e : hostOf i = some r) (hu : ∀ k o, i ≠ .unknownOpcodePacket k o) :
    Refuses (r.act s) s r := by
  by_cases hm : r.op = 0x02
  · obtain ⟨h, rsv, target, token, rfl⟩ := hostOf_modeRequest e hu hm
    exact actModeRequest_refuses
  · exact (hostOf_gated e hu hm).refuses hm

/-! ### Answered at once -/

/-- A request that has its turn at once and is answered changes the host unit alone, where its reply stands last. -/
theorem hostRow_answered {i : Instr} {op len : Nat} {run : State → State} {p : Bytes} (ht : turnAtOnce s h)
    (hr : run (takenOn s h) = answer (takenOn s h) h op false p) :
    ∃ t, hostRow s i h op len run = .next t ∧ onlyHost s t ∧ replied t h op p := by
  refine ⟨_, hostRow_taken ht, ?_, ?_⟩
  · rw [hr, answer_host, takenOn_host]
    rfl
  · rw [hr]
    exact answer_replied

theorem refusedWith_takenOn {r : HostReq} {st : Nat} : refusedWith (takenOn s h) r st = refusedWith s r st := by
  simp [refusedWith, modeReply]

/-- A request that check 4 refuses, whatever its action. -/
theorem exec_of_mode_refused {i : Instr} {r : HostReq} {st : Nat} (e : hostOf i = some r) (hw : i.wellFormed = true)
    (ht : turnAtOnce s r.hdr) (hf : r.hdr.flags = 0) (hu : ∀ k o, i ≠ .unknownOpcodePacket k o)
    (hb : st < 256) (hs : st ≠ stBadOpcode) (hc : ∀ b, modeCheck s r.op b = some st) :
    ∃ t, exec i s = .next t ∧ onlyHost s t ∧ replied t r.hdr r.op (refusedWith s r st) := by
  rw [exec_host e hw hu]
  refine hostRow_answered ht ?_
  rw [(hostOf_refuses e hu).mode st hb hs hf (by simpa using hc), refusedWith_takenOn]

/-! ### Packets without a row (R371, R376) -/

theorem refuseAtOnce_of_turn {op st : Nat} (ht : turnAtOnce s h) :
    refuseAtOnce s h op st = sendReply (takenOn s h) { hdr := h, opcode := op, payload := refusal 4 st, epoch := 0 } := by
  obtain ⟨hc, hl, -, hb, hw, -⟩ := ht
  have hb' : (takenOn s h).hostBusy = false := by unfold takenOn; cases h.chan <;> exact hb
  have hw' : (takenOn s h).host.waiting = [] := by unfold takenOn; cases h.chan <;> exact hw
  simp only [refuseAtOnce, hc, ge_iff_le, Nat.not_le.2 hl, Bool.not_true, Bool.false_eq_true, if_false]
  exact if_neg (by rw [← takenOn, hb', hw']; decide)

theorem sendReply_replied {r : HeldReply} : replied (sendReply s r) r.hdr r.opcode r.payload := by
  simp only [replied, sendReply, modChan_out, List.getLast?_append, List.getLast?_singleton, Option.some_or]
  rfl

/-- R371: a packet with a bad CRC is answered with its header as received. -/
theorem badCrcPacket_answered {op : U8} (ht : turnAtOnce s h) :
    ∃ t, exec (.badCrcPacket h op) s = .next t ∧ onlyHost s t ∧ replied t h op.toNat (refusal 4 stBadCrc) := by
  have he : exec (.badCrcPacket h op) s = .next (refuseAtOnce s h op.toNat stBadCrc) := rfl
  rw [refuseAtOnce_of_turn ht] at he
  refine ⟨_, he, ?_, sendReply_replied⟩
  rw [sendReply_host, takenOn_host]
  rfl

/-- R376, check 3: an opcode absent from Table 16.6. -/
theorem unknownOpcodePacket_answered {op : U8} (hn : findOp op.toNat = none) (hf : h.flags = 0) (ht : turnAtOnce s h) :
    ∃ t, exec (.unknownOpcodePacket h op) s = .next t ∧ onlyHost s t ∧ replied t h op.toNat (refusal 4 stBadOpcode) := by
  have he : exec (.unknownOpcodePacket h op) s =
      hostRow s (.unknownOpcodePacket h op) h op.toNat 4 (unknownOpcode h op.toNat) := if_neg (by simp [hn])
  rw [he]
  refine hostRow_answered ht ?_
  simp only [unknownOpcode, hf, bne_self_eq_false, Bool.false_eq_true, if_false]

/-! ### The statements -/

/-- Settles O5 (R373, R374, R378; log entry 75 for what makes the host unit busy). -/
theorem requestsWaitTheirTurn : Obligations.RequestsWaitTheirTurn := by
  intro i r s e hw hc hl hs _ hb hu
  rw [exec_host e hw hu]
  exact hostRow_of_busy hc hl hs hb

/-- Settles O6 (R373). -/
theorem fullWindowDiscards : Obligations.FullWindowDiscards := by
  intro i r s e hw hc hl hu
  rw [exec_host e hw hu]
  exact hostRow_of_full hc hl

/-- Settles O7 (R376, R377): check 2 comes before all others of the request, whatever its opcode. -/
theorem flagsRefused : Obligations.FlagsRefused := by
  intro i r s e hw ht hf hu
  rw [exec_host e hw hu]
  exact hostRow_answered ht ((hostOf_refuses e hu).flags hf)

/-- Settles O33 (R376, R377, R382, R383): check 4 refuses by what Table 16.6 has for the mode, whether the request reads
or not. -/
theorem wrongModeRefused : Obligations.WrongModeRefused := by
  intro i r s x e hw ht hf hu hx
  refine ⟨fun hp ha => ?_, fun hp hn => ?_, fun hp hn => ?_⟩
  · refine exec_of_mode_refused e hw ht hf hu (by decide) (by decide) fun b => ?_
    simp [modeCheck, hx, hp, ha b]
  · refine exec_of_mode_refused e hw ht hf hu (by decide) (by decide) fun b => ?_
    simp [modeCheck, hx, hp, hn]
  · refine exec_of_mode_refused e hw ht hf hu (by decide) (by decide) fun b => ?_
    simp [modeCheck, hx, hp, hn]

/-- Settles O9 (R371, R374, R376, R377). -/
theorem packetsWithoutRowAnswered : Obligations.PacketsWithoutRowAnswered :=
  fun _ _ _ ht => ⟨fun hn hf => unknownOpcodePacket_answered hn hf ht, badCrcPacket_answered ht⟩

end Sys2Proof.Machine
end

section
/-! PROOFS. The host port (R368, R369, R371, R381): what each transaction drives and what it leaves in the output queue. -/

namespace Sys2Proof.Machine

section
variable {s : State}

/-! ### Packets as bytes -/

theorem le_length {n v : Nat} : (le n v).length = n := by
  induction n generalizing v with
  | zero => rfl
  | succ n ih => simp [le, ih]

theorem packetBytes_length {p : OutPkt} : (packetBytes p).length = packetLen p := by
  simp only [packetBytes, packetLen, List.length_append, le_length]
  omega

theorem fit_of_lt {n : Nat} {b : Bytes} (h : n < b.length) : fit n b = b.take n :=
  List.take_append_of_le_length h.le

theorem sync_notMem_zeros {n : Nat} : 0xE7#8 ∉ zeros n := fun h => absurd (List.eq_of_mem_replicate h) (by decide)

/-! ### The output queue -/

/-- R381: space for a NOTIFY takes the one that tells how many were dropped. -/
theorem reportDropped_port : ∃ new, (reportDropped s .port).host.port.out = s.host.port.out ++ new
    ∧ (reportDropped s .port).host.errors = s.host.errors ∧ (reportDropped s .port).host.sent = s.host.sent := by
  by_cases h : ((s.chan .port).dropped != 0 && notifies (s.chan .port) < 32) = true
  · have hn : ¬ notifies ((s.modChan .port (fun c => { c with dropped := 0 })).chan .port) ≥ 32 := by
      have hlt : notifies (s.chan .port) < 32 := by simpa using (Bool.and_eq_true_iff.1 h).2
      exact Nat.not_le.2 hlt
    simp only [reportDropped, h, if_true, pushNotify, hn, if_false]
    exact ⟨_, rfl, rfl, rfl⟩
  · simp only [reportDropped, h, Bool.false_eq_true, if_false]
    exact ⟨[], (List.append_nil _).symm, trivial, trivial⟩

theorem reportDropped_of_none {ch : Chan} (hd : (s.chan ch).dropped = 0) : reportDropped s ch = s := by
  simp [reportDropped, hd]

/-- R369: the head packet has left, and its request with it. -/
def headTaken (s : State) (p : OutPkt) (rest : List OutPkt) : State :=
  s.modChan .port (fun c => { c with
    out := rest, waiting := match p.req with | some r => c.waiting.erase r | none => c.waiting })

theorem popOut_port {p : OutPkt} {rest : List OutPkt} (ho : s.host.port.out = p :: rest) :
    popOut s .port = reportDropped (headTaken s p rest) .port := by
  have hc : (s.chan .port).out = p :: rest := ho
  simp only [popOut, hc]
  rfl

/-! ### Transactions -/

theorem discardPartial_of_begun (ha : s.host.asm ≠ []) :
    discardPartial s = event ((s.setAsm []).hqError 0) 0xA410 := if_neg (by simpa using ha)

section
variable (hu : s.chanUp .port = true)
include hu

theorem exec_hqStatus : exec .hqStatus s = .next { s with host := { s.host with sent := statusWord s, errors := 0 } } :=
  congrArg _ (if_pos hu)

theorem exec_hqRead_of_empty {n : Nat} (ho : s.host.port.out = []) : exec (.hqRead n) s = .next (s.drove (zeros n)) := by
  have he : exec (.hqRead n) s = execHqRead n s := rfl
  rw [he, execHqRead, if_pos hu, ho]

theorem exec_hqRead_of_queued {n : Nat} {p : OutPkt} {rest : List OutPkt} (ho : s.host.port.out = p :: rest) :
    exec (.hqRead n) s = .next (if n < packetLen p then (s.drove (fit n (packetBytes p))).hqError 3
      else popOut (s.drove (fit n (packetBytes p))) .port) := by
  have he : exec (.hqRead n) s = execHqRead n s := rfl
  rw [he, execHqRead, if_pos hu, ho]

theorem exec_hqRead_of_short {n : Nat} {p : OutPkt} {rest : List OutPkt} (ho : s.host.port.out = p :: rest)
    (hn : n < packetLen p) : exec (.hqRead n) s = .next ((s.drove (fit n (packetBytes p))).hqError 3) := by
  rw [exec_hqRead_of_queued hu ho, if_pos hn]

theorem exec_hqRead_of_whole {n : Nat} {p : OutPkt} {rest : List OutPkt} (ho : s.host.port.out = p :: rest)
    (hn : packetLen p ≤ n) : exec (.hqRead n) s =
      .next (reportDropped (headTaken (s.drove (fit n (packetBytes p))) p rest) .port) := by
  rw [exec_hqRead_of_queued hu ho, if_neg (Nat.not_lt.2 hn), popOut_port (rest := rest)]
  exact ho

/-- Whatever `HQ_READ` clocks of the head packet begins with the packet's byte 0. -/
theorem exec_hqRead_sent {n : Nat} {p : OutPkt} {rest : List OutPkt} (ho : s.host.port.out = p :: rest) :
    ∃ t, exec (.hqRead n) s = .next t ∧ t.host.sent = fit n (packetBytes p) := by
  rcases Nat.lt_or_ge n (packetLen p) with hn | hn
  · exact ⟨_, exec_hqRead_of_short hu ho hn, rfl⟩
  · obtain ⟨new, -, -, hs⟩ := reportDropped_port (s := headTaken (s.drove (fit n (packetBytes p))) p rest)
    exact ⟨_, exec_hqRead_of_whole hu ho hn, hs⟩

/-- R371: the beginning of a packet is kept. -/
theorem exec_hqWrite_of_begun {b : Bytes} (hw : Instr.wellFormed (.hqWrite b) = true) (ha : s.host.asm = [])
    (hl : b.length < 4) (hb : b.head? = some 0xE7#8) : exec (.hqWrite b) s = .next ((s.drove []).setAsm b) := by
  obtain ⟨rest, rfl⟩ := List.head?_eq_some_iff.1 hb
  refine (if_pos hw).trans (congrArg _ ((if_pos hu).trans ?_))
  simp only [ha, List.nil_append, assemble, bne_self_eq_false, Bool.false_eq_true, if_false, hl, if_true]

theorem exec_hqFlush_of_begun (ha : s.host.asm ≠ []) :
    exec .hqFlush s = .next (event (((s.drove []).setAsm []).hqError 0) 0xA410) := by
  have he : exec .hqFlush s = execHqFlush s := rfl
  rw [he, execHqFlush, if_pos hu, discardPartial_of_begun]
  exact ha

theorem exec_partialPacketTimeout_of_begun (ha : s.host.asm ≠ []) :
    exec .partialPacketTimeout s = .next (event ((s.setAsm []).hqError 0) 0xA410) := by
  have he : exec .partialPacketTimeout s = execPartialPacketTimeout s := rfl
  rw [he, execPartialPacketTimeout, if_pos hu, discardPartial_of_begun ha]

theorem exec_hqUnknownCommand {b : U8} (h1 : b ≠ 0x11) (h2 : b ≠ 0x22) (h3 : b ≠ 0x33) (h4 : b ≠ 0x44) :
    exec (.hqUnknownCommand b) s = .next ((s.drove []).hqError 5) :=
  (if_neg (by simpa using ⟨⟨⟨h1, h2⟩, h3⟩, h4⟩)).trans (congrArg _ (if_pos hu))

end

end

/-! ### The statements -/

/-- Settles O10 (R368, R369, R371): each transaction by what it drives and what it leaves. -/
theorem hostPortTransactions : Obligations.HostPortTransactions := by
  intro s hu
  refine ⟨exec_hqStatus hu, fun _ => exec_hqRead_of_empty hu, fun _ _ _ => exec_hqRead_of_short hu,
    fun n p rest ho hn hd => ?_, fun _ => exec_hqWrite_of_begun hu, exec_hqFlush_of_begun hu,
    exec_partialPacketTimeout_of_begun hu, fun _ => exec_hqUnknownCommand hu⟩
  have he := exec_hqRead_of_whole hu ho hn
  have hd' : ((headTaken (s.drove (fit n (packetBytes p))) p rest).chan .port).dropped = 0 := hd
  rw [reportDropped_of_none hd'] at he
  exact ⟨_, he, rfl, rfl, rfl, rfl⟩

/-- Settles O36 (R369): a packet whose last byte was clocked leaves; another stays at the head and is sent again. -/
theorem hqReadTakesWholePackets : Obligations.HqReadTakesWholePackets := by
  intro s n hu
  refine ⟨fun p rest ho => ⟨fun hn => ?_, fun hn => ?_⟩, fun ho => ?_⟩
  · obtain ⟨new, hq, he, hs⟩ := reportDropped_port (s := headTaken (s.drove (fit n (packetBytes p))) p rest)
    exact ⟨_, new, exec_hqRead_of_whole hu ho hn, hq, he, hs⟩
  · have ht : ∀ t, t = (s.drove (fit n (packetBytes p))).hqError 3 → t.chanUp .port = true := by rintro _ rfl; exact hu
    refine ⟨_, exec_hqRead_of_short hu ho hn, ho, rfl, fit_of_lt (packetBytes_length ▸ hn), fun m => ?_⟩
    exact exec_hqRead_sent (ht _ rfl) ho
  · exact ⟨_, exec_hqRead_of_empty hu ho, ho, rfl, sync_notMem_zeros⟩

end Sys2Proof.Machine
end

section
/-! PROOFS. The quality of a point (R346, Table 15.2). -/

namespace Sys2Proof.Machine

section
variable {s : State} {k : Nat}

theorem pointGood_eq {q : Nat} (hq : s.pointQuality k = q) : s.pointGood k = (q == 0 || q == 4) := by
  rw [State.pointGood, hq]

/-- R346: the qualities in their order. -/
theorem pointQuality_eq : s.pointQuality k =
    if (s.point k).forced.isSome = true then 4
    else if s.nodeState (k / 16384) (k / 64 % 256) = 2 ∨ s.nodeState (k / 16384) (k / 64 % 256) = 3 then 3
    else if (s.point k).stuck = true then 5
    else if s.inChatter k = true then 6
    else if (s.point k).range = true then 2
    else if s.nodeState (k / 16384) (k / 64 % 256) = 1 ∨ (s.point k).accepted = false then 1
    else 0 := by
  simp only [State.pointQuality, Bool.or_eq_true, beq_iff_eq, Bool.not_eq_true']

end

/-! ### The statement -/

/-- Settles O37 (R346). -/
theorem pointQualityOrder : Obligations.PointQualityOrder := by
  intro s k
  have hg : ∀ q, s.pointQuality k = q → s.pointQuality k = q ∧ s.pointGood k = (q == 0 || q == 4) :=
    fun q hq => ⟨hq, pointGood_eq hq⟩
  refine ⟨fun h1 => hg _ ?_, fun h1 h2 => hg _ ?_, fun h1 h2 h3 => hg _ ?_, fun h1 h2 h3 h4 => hg _ ?_,
    fun h1 h2 h3 h4 h5 => hg _ ?_, fun h1 h2 h3 h4 h5 h6 => hg _ ?_, fun h1 h2 h3 h4 h5 h6 => hg _ ?_⟩
  · rw [pointQuality_eq, if_pos h1]
  · rw [pointQuality_eq, if_neg (by simp [h1]), if_pos h2]
  · rw [pointQuality_eq, if_neg (by simp [h1]), if_neg h2, if_pos h3]
  · rw [pointQuality_eq, if_neg (by simp [h1]), if_neg h2, if_neg (by simp [h3]), if_pos h4]
  · rw [pointQuality_eq, if_neg (by simp [h1]), if_neg h2, if_neg (by simp [h3]), if_neg (by simp [h4]), if_pos h5]
  · rw [pointQuality_eq, if_neg (by simp [h1]), if_neg h2, if_neg (by simp [h3]), if_neg (by simp [h4]),
      if_neg (by simp [h5]), if_pos h6]
  · rw [pointQuality_eq, if_neg (by simp [h1]), if_neg h2, if_neg (by simp [h3]), if_neg (by simp [h4]),
      if_neg (by simp [h5]), if_neg h6]

end Sys2Proof.Machine
end

section
/-! PROOFS. TIME_MARK (R306, R309): the record that a mark admits, after the record of discarded ones where there are
some. -/

namespace Sys2Proof.Machine

section
variable {s t : State} {h : Hdr} {f : Finding} {extra mode wall source accuracy : Nat}

@[simp] theorem takenOn_log : (takenOn s h).log = s.log := by rw [takenOn_host]
@[simp] theorem takenOn_opTime : (takenOn s h).opTime = s.opTime := by rw [takenOn_host]

/-! ### A record enters the buffer -/

/-- `t` is `s` with record `r` of `f` admitted last, under the next sequence. Bits 0 to 2 and 4 up of its flags are its own
(Table 13.2). -/
structure Admits (s t : State) (f : Finding) (extra : Nat) (r : Record) : Prop where
  frame : t = { s with log := t.log }
  buffer : t.log.buffer = s.log.buffer ++ [r]
  mram : t.log.log = s.log.log
  discarded : t.log.discarded = s.log.discarded
  nextSeq : t.log.nextSeq = (s.log.nextSeq + 1) % 2 ^ 32
  code : r.code = f.code
  seq : r.seq = s.log.nextSeq
  opTime : r.opTime = s.opTime
  payload : r.payload = fit 40 f.payload
  flags : ∃ low high, low < 8 ∧ r.flags = extra + low + 16 * high

theorem b2n_le_one {b : Bool} : b2n b ≤ 1 := by cases b <;> decide

theorem flags_split {m a b c d e : Nat} (hd : d ≤ 1) (he : e ≤ 1) : ∃ low high, low < 8 ∧
    extra + m * 256 + a * 64 + b * 32 + c * 16 + d * 2 + e = extra + low + 16 * high :=
  ⟨d * 2 + e, m * 16 + a * 4 + b * 2 + c, by omega, by omega⟩

theorem admitNow_admits : ∃ r, Admits s (admitNow s f extra mode) f extra r :=
  ⟨_, rfl, rfl, rfl, rfl, rfl, rfl, rfl, rfl, rfl, flags_split b2n_le_one b2n_le_one⟩

theorem Admits.bit3 {b : Bool} {r : Record} (ha : Admits s t f (8 * b2n b) r) : bitAt r.flags 3 = b := by
  obtain ⟨low, high, hl, hf⟩ := ha.flags
  have hb : r.flags / 2 ^ 3 % 2 = b2n b := by
    have := b2n_le_one (b := b)
    omega
  rw [bitAt, hb]
  cases b <;> rfl

theorem Admits.recording {r : Record} (ha : Admits s t f extra r) : t.recording = s.recording := by rw [ha.frame]; rfl

theorem Admits.opTime_eq {r : Record} (ha : Admits s t f extra r) : t.opTime = s.opTime := by rw [ha.frame]

@[simp] theorem countFinding_log : (countFinding s f).log = s.log := rfl
@[simp] theorem countFinding_opTime : (countFinding s f).opTime = s.opTime := rfl
@[simp] theorem countFinding_recording : (countFinding s f).recording = s.recording := rfl

/-- R306: what `pushOverflow` leaves is a recorder that has discarded nothing, with `l` in front of the next record. -/
structure Overflowed (s t : State) (l : List Record) : Prop where
  buffer : t.log.buffer = s.log.buffer ++ l
  length : l.length = if s.log.discarded = 0 then 0 else 1
  mram : t.log.log = s.log.log
  discarded : t.log.discarded = 0
  nextSeq : t.log.nextSeq = if s.log.discarded = 0 then s.log.nextSeq else (s.log.nextSeq + 1) % 2 ^ 32
  recording : t.recording = s.recording
  opTime : t.opTime = s.opTime

theorem pushOverflow_of_none (hd : s.log.discarded = 0) : pushOverflow s = s := by simp [pushOverflow, hd]

theorem pushOverflow_overflowed : ∃ l, Overflowed s (pushOverflow s) l := by
  by_cases hd : s.log.discarded = 0
  · rw [pushOverflow_of_none hd]
    exact ⟨[], by simp, by simp [hd], rfl, hd, by simp [hd], rfl, rfl⟩
  · have he : (s.log.discarded == 0) = false := beq_eq_false_iff_ne.2 hd
    simp only [pushOverflow, he, Bool.false_eq_true, if_false]
    obtain ⟨r, ha⟩ := admitNow_admits (extra := 0) (mode := modeCode s.mode)
      (s := countFinding { s with log := { s.log with discarded := 0, gapNext := true } }
        { code := 0x9130, sev := 1, payload := le 4 s.log.discarded })
      (f := { code := 0x9130, sev := 1, payload := le 4 s.log.discarded })
    exact ⟨[r], ha.buffer, by simp [hd], ha.mram, ha.discarded, by simpa [hd] using ha.nextSeq, ha.recording,
      ha.opTime_eq⟩

/-- R308, R309: a mark is no event that a rate limit holds back. -/
theorem admitRec_of_mark (hc : f.code = 0x9140) (hr : s.recording = true) (hd : s.log.discarded = 0)
    (hb : s.log.buffer.length < 1024) : admitRec s f extra mode = admitNow s f extra mode := by
  simp only [admitRec, hr, hc, pushOverflow_of_none hd, Nat.not_le.2 hb, Bool.not_true, Bool.false_eq_true, if_false,
    beq_self_eq_true, Bool.or_true, Bool.true_or, ge_iff_le]

/-! ### The mark -/

theorem timeMark_of_recent {w t : Nat} (hm : s.log.lastMark = some (w, t)) (ht : s.opTime < t + 16) :
    timeMark s wall source accuracy = (s, refusal 16 stBusy) := by
  simp [timeMark, hm, ht]

theorem timeMark_of_due (hm : ∀ w t, s.log.lastMark = some (w, t) → t + 16 ≤ s.opTime) :
    timeMark s wall source accuracy = timeMark.place s wall source accuracy (s.log.lastMark.map (·.1)) := by
  rcases hl : s.log.lastMark with _ | ⟨w, t⟩
  · simp [timeMark, hl]
  · simp [timeMark, hl, Nat.not_lt.2 (hm w t hl)]

/-- The mark's finding (Table 13.5). -/
def markFinding (wall source accuracy : Nat) (prev : Option Nat) : Finding :=
  { code := 0x9140, sev := 0
    payload := le 8 wall ++ le 1 source ++ le 1 accuracy ++ zeros 6 ++ le 8 (prev.getD 0) }

/-- The mark is kept as the latest one. -/
def keepMark (s : State) (wall : Nat) : State := { s with log := { s.log with lastMark := some (wall, s.opTime) } }

theorem timeMark_place_of_room {prev : Option Nat} (hb : s.log.buffer.length + 1 < 1024) :
    (timeMark.place s wall source accuracy prev).1 =
      keepMark (admitRec (countFinding (pushOverflow s) (markFinding wall source accuracy prev))
        (markFinding wall source accuracy prev) (8 * b2n (goesBack prev wall)) (modeCode (pushOverflow s).mode)) wall := by
  have hf : ¬ s.log.buffer.length + b2n (s.log.discarded != 0) ≥ 1024 := by
    have := b2n_le_one (b := s.log.discarded != 0)
    omega
  simp only [timeMark.place, hf, if_false]
  rfl

theorem goesBack_iff {prev : Option Nat} : goesBack prev wall = true ↔ ∃ w, prev = some w ∧ wall < w := by
  cases prev <;> simp [goesBack]

/-- R309: with room in the buffer a mark enters it last, after the record of discarded ones. -/
theorem timeMark_place_admits {prev : Option Nat} (hr : s.recording = true) (hb : s.log.buffer.length + 1 < 1024) :
    let t := (timeMark.place s wall source accuracy prev).1
    ∃ (l : List Record) (r : Record), t.log.buffer = s.log.buffer ++ l ++ [r] ∧ t.log.log = s.log.log
      ∧ l.length = (if s.log.discarded = 0 then 0 else 1)
      ∧ r.code = 0x9140 ∧ r.seq = (if s.log.discarded = 0 then s.log.nextSeq else (s.log.nextSeq + 1) % 2 ^ 32)
      ∧ r.opTime = s.opTime
      ∧ r.payload = fit 40 (markFinding wall source accuracy prev).payload
      ∧ (bitAt r.flags 3 = true ↔ ∃ w, prev = some w ∧ wall < w)
      ∧ t.log.lastMark = some (wall, s.opTime) := by
  obtain ⟨l, ho⟩ := pushOverflow_overflowed (s := s)
  have hl : (countFinding (pushOverflow s) (markFinding wall source accuracy prev)).log.buffer.length < 1024 := by
    have hlen := ho.length
    rw [countFinding_log, ho.buffer, List.length_append]
    split_ifs at hlen <;> omega
  have hx := admitRec_of_mark (s := countFinding (pushOverflow s) (markFinding wall source accuracy prev))
    (f := markFinding wall source accuracy prev) (extra := 8 * b2n (goesBack prev wall))
    (mode := modeCode (pushOverflow s).mode) rfl (ho.recording.trans hr) ho.discarded hl
  rw [timeMark_place_of_room hb, hx]
  obtain ⟨r, ha⟩ := admitNow_admits (s := countFinding (pushOverflow s) (markFinding wall source accuracy prev))
    (f := markFinding wall source accuracy prev) (extra := 8 * b2n (goesBack prev wall))
    (mode := modeCode (pushOverflow s).mode)
  have ht : (pushOverflow s).opTime = s.opTime := ho.opTime
  refine ⟨l, r, ?_, ha.mram.trans ho.mram, ho.length, ha.code, ha.seq.trans ho.nextSeq, ha.opTime.trans ht, ha.payload, ?_,
    congrArg (fun x => some (wall, x)) (ha.opTime_eq.trans ht)⟩
  · rw [← ho.buffer]
    exact ha.buffer
  · rw [ha.bit3, goesBack_iff]

/-! ### The request -/

/-- Table 16.6: a device that serves `TIME_MARK` records. -/
theorem recording_of_timeMark (ht : hasTurn s h 0x05 1 12 false) : s.recording = true := by
  obtain ⟨⟨hc, -⟩, -, hm, -⟩ := ht
  have hr : s.running = true := by
    cases hh : h.chan <;> rw [hh] at hc <;> simp only [State.chanUp, Bool.and_eq_true] at hc
    · exact hc.1
    · exact hc.1.1
  obtain ⟨hp, hd⟩ := running_iff.1 hr
  have hn : s.mode ≠ .proving := by
    intro hx
    rw [modeCheck, hx] at hm
    revert hm
    have ho : findOp 0x05 = some ⟨0x05, .no, .yes, .yes, .na, .yes⟩ := rfl
    rw [ho]
    simp [OpRow.entry]
  simp [State.recording, hp, hd, hn]

theorem timeMark_servedBy {wall : U64} {source accuracy : U8} (ht : hasTurn s h 0x05 1 12 false) :
    servedBy (.timeMark h false wall source accuracy) h 0x05 true
      (fun s => timeMark s wall.toNat source.toNat accuracy.toNat) s :=
  served_done (exec_host (i := .timeMark h false wall source accuracy) rfl rfl nofun) rfl rfl rfl rfl beq_iff_eq.2 rfl ht

end

/-! ### The statement -/

/-- Settles O19 (R306, R309): a mark too soon is refused; any other finds room for itself and for the record of discarded
ones. -/
theorem timeMarkAdmitsOneRecord : Obligations.TimeMarkAdmitsOneRecord := by
  intro s h wall source accuracy ht
  refine ⟨timeMark_servedBy ht, fun w t hm hlt => ?_, fun hb hm => ?_⟩
  · exact timeMark_of_recent (by simpa using hm) (by simpa using hlt)
  · have hr : (takenOn s h).recording = true := by
      have hs := recording_of_timeMark ht
      rw [takenOn_host]
      exact hs
    rw [timeMark_of_due (by simpa using hm)]
    simpa [markFinding] using timeMark_place_admits (wall := wall.toNat) (source := source.toNat)
      (accuracy := accuracy.toNat) (prev := s.log.lastMark.map (·.1)) hr (by simpa using hb)

end Sys2Proof.Machine
end

section
/-! PROOFS. Cursors, the clear of the log and its challenge, and the rate limits (R308, R310, R312, R313, R315). -/

namespace Sys2Proof.Machine

section
variable {s : State} {h : Hdr}

@[simp] theorem takenOn_cursor {n : Nat} : (takenOn s h).cursor n = s.cursor n := by rw [takenOn_host]; rfl
@[simp] theorem takenOn_freeCursor : freeCursor (takenOn s h) = freeCursor s := by rw [takenOn_host]; rfl
@[simp] theorem takenOn_ratesPending : (takenOn s h).ratesPending = s.ratesPending := by rw [takenOn_host]; rfl

/-- A request of fixed length that passes the checks of its own is answered by `e` where its row's effect gives the same. -/
theorem servedBy_of_row {i : Instr} {r : Req} {op insts len len' : Nat} {isRead m : Bool} {a e : State → State × Bytes}
    (hi : hostOf i = some ⟨h, op, len', fun s => serve s h r a⟩)
    (hr : r = { r with op := op, insts := insts, isRead := isRead, lenOk := h.len == len, mirrored := m })
    (hc : firstFail r.checks = none) (hw : i.wellFormed = true) (hu : ∀ k o, i ≠ .unknownOpcodePacket k o)
    (hx : a (takenOn s h) = e (takenOn s h)) (ht : hasTurn s h op insts len isRead) : servedBy i h op m e s :=
  served_as (exec_host hi hw hu) (congrArg Req.op hr) (congrArg Req.insts hr) (congrArg Req.isRead hr)
    (congrArg Req.mirrored hr) (fun hl => (congrArg Req.lenOk hr).trans (beq_iff_eq.2 hl)) hc hx ht

/-! ### Cursors (R310, R315) -/

theorem openCursor_of_free {from_ : U8} {seq : U32} {n : Nat} (hn : freeCursor s = some n) :
    openCursor s from_ seq =
      (s.modCursor n (fun _ => { isOpen := true, next := cursorStart s from_.toNat seq.toNat, lastRead := s.frame }),
        le 1 stOk ++ le 1 n ++ le 2 0 ++ le 4 (cursorStart s from_.toNat seq.toNat) ++ le 4 s.firstSeq
          ++ le 4 s.lastSeq) := by
  simp only [openCursor, hn]

theorem logCursorOpen_checks {from_ : U8} {seq : U32} (hf : from_.toNat ≤ 2) (hs : from_ = 0 → seq = 0) :
    firstFail [(false || decide (from_.toNat > 2) || (from_ == 0 && seq != 0), stBadParam)] = none := by
  simpa [firstFail, hf] using hs

theorem logRead_checks {n : U8} (h1 : 1 ≤ n.toNat) (h2 : n.toNat ≤ 63) :
    firstFail [(false, stBadParam), (n == 0 || decide (n.toNat > 63), stRange)] = none := by
  simp [firstFail, ne_zero_of_one_le_toNat h1, h2]

/-- A cursor that `LOG_READ` and `LOG_CURSOR_CLOSE` take. -/
theorem cursor_taken {n : U8} (hn : n.toNat < 8) (ho : (s.cursor n.toNat).isOpen = true) :
    (decide (n.toNat < 8) && ((takenOn s h).cursor n.toNat).isOpen) = true := by
  simp [hn, ho]

/-! ### The clear (R312, R313) -/

theorem issueClearChallenge_of_free (hb : s.log.clearCh.blockedUntil ≤ s.opTime) :
    issueClearChallenge s =
      let b := fit 16 (Config.nonce s.free) ++ le 8 Config.unitNumber.toNat ++ le 4 s.log.nextSeq ++ le 4 s.opTime
      ({ s with free := s.free + 1
                log := { s.log with clearCh := { s.log.clearCh with bytes := some b, issuedAt := s.frame } } },
        [0#8, 0, 0, 0] ++ b) := by
  rw [issueClearChallenge, if_neg (Nat.not_lt.2 hb)]
  rfl

/-- The checks of `LOG_CLEAR`. -/
def clearReq (h : Hdr) (token : Bytes) : Req :=
  { op := 0x75, insts := 1, len := 12, lenOk := h.len == 32
    checks := [(false, stBadParam), (zeroToken token, stAuthRequired)] }

/-- R312: with a right token the log is cleared and the request answered; while a flush goes on, the clear waits. -/
theorem actLogClear_of_token {token : Bytes} (hg : gate s h (clearReq h token) = none)
    (hk : tokenOk s s.log.clearCh [0x75] token = true) :
    actLogClear h false token s =
      if s.log.flushing.isSome then
        { s with log := { s.log with clearing := some h, clearCh := { s.log.clearCh with bytes := none } } }
      else answer (clearLog s).1 h 0x75 true (clearLog s).2 := by
  rw [clearReq] at hg
  simp only [actLogClear, hg, hk, Bool.not_true, Bool.false_eq_true, if_false]

theorem exec_logClear {token : Bytes} (hl : token.length = 32) (hz : zeroToken token = false)
    (hk : tokenOk (takenOn s h) s.log.clearCh [0x75] token = true) (ht : hasTurn s h 0x75 1 32 false) :
    exec (.logClear h false token) s = .next (
      if s.log.flushing.isSome then
        { takenOn s h with log := { s.log with clearing := some h, clearCh := { s.log.clearCh with bytes := none } } }
      else answer (clearLog (takenOn s h)).1 h 0x75 true (clearLog (takenOn s h)).2) := by
  have he : exec (.logClear h false token) s = hostRow s (.logClear h false token) h 0x75 12 (actLogClear h false token) :=
    exec_host (i := .logClear h false token) rfl (by simp [Instr.wellFormed, bytesLen, hl]) nofun
  have hg : gate (takenOn s h) h (clearReq h token) = none :=
    gate_hasTurn ht rfl rfl rfl beq_iff_eq.2 (by simp [clearReq, firstFail, hz])
  rw [he, hostRow_taken ht.1, actLogClear_of_token hg (by simpa using hk), takenOn_log]

/-! ### The rate limits (R308) -/

theorem rateLimitSet_checks {refill : U32} (h1 : 100 ≤ refill.toNat) (h2 : refill.toNat ≤ 3600000) :
    firstFail [(false, stBadParam), (decide (refill.toNat < 100) || decide (refill.toNat > 3600000), stRange)] = none := by
  simp [firstFail, h1, h2]

/-- An entry is set in the pending list while there is room for it. -/
theorem setRate_of_room {code : Nat} {e : RateEntry}
    (hr : e.listed = true → s.ratesPending.length < 256 ∨ (tget (dft {}) s.ratesPending code).listed = true) :
    setRate s code e =
      let l := tset (dft {}) s.ratesPending code e
      let t := if l = s.ratesPending then s else { s with log := { s.log with ratesNext := some l } }
      (t, rateReply t code) := by
  refine if_neg ?_
  simp only [Bool.and_eq_true, Bool.not_eq_true', decide_eq_true_eq]
  rintro ⟨⟨hl, hn⟩, hm⟩
  rcases hr hl with hr | hr
  · omega
  · simp [hn] at hr

end

/-! ### The statement -/

/-- Settles O18 (R308, R310, R312, R313, R315; log entry 10 for the challenge's random bytes): the conditions are what the
opcode's own checks ask, and a clear is at once or waits for the flush under way. -/
theorem recorderRequestsServed : Obligations.RecorderRequestsServed := by
  intro s h
  refine ⟨fun from_ seq n hf hs hn => ?_, fun c n hc ho h1 h2 => ?_, fun c hc ho => ?_, fun hb => ?_,
    fun token hl hz hk ht => ⟨fun hn => ?_, fun hn => ?_⟩, fun burst code refill h1 h2 hr => ?_, fun code => ?_⟩
  · refine servedBy_of_row rfl rfl (logCursorOpen_checks hf hs) rfl nofun ?_
    exact openCursor_of_free (by simpa using hn)
  · exact servedBy_of_row rfl rfl (logRead_checks h1 h2) rfl nofun (if_pos (cursor_taken hc ho))
  · exact servedBy_of_row rfl rfl rfl rfl nofun (if_pos (cursor_taken hc ho))
  · exact servedBy_of_row rfl rfl rfl rfl nofun (issueClearChallenge_of_free (by simpa using hb))
  · rw [servedBy, exec_logClear hl hz hk ht, if_neg (by simp [hn])]
  · rw [runsAs, exec_logClear hl hz hk ht, if_pos (Option.isSome_iff_ne_none.2 hn), takenOn_log]
  · refine servedBy_of_row rfl rfl (rateLimitSet_checks h1 h2) rfl nofun (setRate_of_room fun _ => ?_)
    simpa using hr
  · exact servedBy_of_row rfl rfl rfl rfl nofun (setRate_of_room nofun)

end Sys2Proof.Machine
end

section
/-! PROOFS. Requests on ports, points, maps and node messages (R343, R348, R356, R366). -/

namespace Sys2Proof.Machine

section
variable {s : State} {h : Hdr}

@[simp] theorem takenOn_pointEntry {k dir : Nat} : (takenOn s h).pointEntry k dir = s.pointEntry k dir := by
  rw [takenOn_host]; rfl
@[simp] theorem takenOn_ownedOutput {k : Nat} : ownedOutput (takenOn s h) k = ownedOutput s k := by
  rw [takenOn_host]; rfl
@[simp] theorem takenOn_ringHead {p : Nat} : (takenOn s h).ringHead p = s.ringHead p := by rw [takenOn_host]; rfl
@[simp] theorem takenOn_node {p a : Nat} : (takenOn s h).node p a = s.node p a := by rw [takenOn_host]; rfl
@[simp] theorem takenOn_portUse {p : Nat} : (takenOn s h).portUse p = s.portUse p := by rw [takenOn_host]; rfl
@[simp] theorem takenOn_lineUsable {p : Nat} : (takenOn s h).lineUsable p = s.lineUsable p := by rw [takenOn_host]; rfl

/-- R385: keys that all pass their checks are staged. -/
theorem stageEntries_of_checked {es : List (Nat × Nat × Nat)} {xs : List (Nat × Int)} (hc : s.params.commit = none)
    (hx : checkEntries s es 0 = .inr xs) :
    stageEntries s es = ({ s with params := { s.params with staged := { s.params.staged with
      vals := stageAll s.params.staged.vals xs } } }, stOk, 0xFF) := by
  simp only [stageEntries, hc, hx, Option.isSome_none, Bool.false_eq_true, if_false]

/-! ### POINT_WRITE (R356) -/

/-- The point is one of the block's. -/
theorem point_checks {k : U32} (hk : k.toNat < 2 ^ 20) :
    firstFail [(false, stBadParam), (k.toNat / 2 ^ 20 != 0, stRange)] = none := by
  rw [Nat.div_eq_of_lt hk]
  rfl

theorem pointWriteOutput_servedBy {k : U32} {v : U16} (hk : k.toNat < 2 ^ 20) (ho : ownedOutput s k.toNat = false)
    (ht : hasTurn s h 0x64 1 8 false) :
    servedBy (.pointWriteOutput h false k v) h 0x64 true (fun s =>
      let t := s.modPoint k.toNat (fun p => { p with output := v.toNat })
      (t, pointReply t k.toNat true)) s :=
  servedBy_of_row rfl rfl (point_checks hk) rfl nofun (if_neg (by simp [ho])) ht

/-- A point that is forced in COMMISSION mode. -/
theorem pointForce_servedBy {k : U32} {v : U16} (hk : k.toNat < 2 ^ 20) (hm : s.mode = .commission)
    (hp : (s.pointEntry k.toNat 1).isSome = true) (ht : hasTurn s h 0x64 1 8 false) :
    servedBy (.pointForce h false k v) h 0x64 false (fun s =>
      let t := s.modPoint k.toNat (fun p => { p with forced := some v.toNat })
      (t, pointReply t k.toNat false)) s := by
  refine servedBy_of_row rfl rfl (point_checks hk) rfl nofun ?_ ht
  simp [hm, Option.isSome_iff_ne_none.1 hp]

theorem pointForceRelease_servedBy {k : U32} (hk : k.toNat < 2 ^ 20) (hm : s.mode = .commission)
    (ht : hasTurn s h 0x64 1 8 false) :
    servedBy (.pointForceRelease h false k 0) h 0x64 false (fun s =>
      let t := s.modPoint k.toNat (fun p => { p with forced := none })
      (t, pointReply t k.toNat false)) s :=
  servedBy_of_row rfl rfl (point_checks hk) rfl nofun (if_neg (by simp [hm])) ht

/-! ### POINT_MAP_WRITE (R348) -/

theorem pointMapWrite_checks {profile side group : U8} {n : U16} {es : List Bytes} (hs : side.toNat ≤ 1)
    (hp : profile.toNat ≤ 8) (hn : n.toNat ≤ 64) (hg : group.toNat ≤ 3) (hu : es.any entryUndefined = false)
    (hb : es.any entryBeyond = false) :
    firstFail [(false || decide (side.toNat > 1) || decide (profile.toNat > 8) || es.any entryUndefined, stBadParam),
      (decide (n.toNat > 64) || decide (group.toNat > 3) || es.any entryBeyond, stRange)] = none := by
  simp [firstFail, hu, hb, Nat.not_lt.2 hs, Nat.not_lt.2 hp, Nat.not_lt.2 hn, Nat.not_lt.2 hg]

/-! ### NODE_MESSAGE (R366) -/

/-- A node that takes a message of the host: joined, no hoist drive or door power node (R366), on a line in use. -/
structure TakesMessage (s : State) (p a : Nat) : Prop where
  joined : (s.node p a).state = 0
  notHoistDrive : (s.node p a).profile ≠ 3
  notDoorPower : (s.node p a).profile ≠ 4
  idle : (s.node p a).txState ≠ 1
  nodes : s.portUse p = 1
  usable : s.lineUsable p = true

theorem nodeMessage_checks {n : U16} (h1 : 1 ≤ n.toNat) (h2 : n.toNat ≤ 4080) :
    firstFail [(false, stBadParam), (n == 0 || decide (n.toNat > 4080), stRange)] = none := by
  simp [firstFail, ne_zero_of_one_le_toNat h1, h2]

theorem nodeMessageSend_servedBy {node : U8} {n : U16} {data : Bytes} (hl : data.length = n.toNat)
    (h1 : 1 ≤ n.toNat) (h2 : n.toNat ≤ 4080) (hn : TakesMessage s (s.ringHead h.inst.toNat) node.toNat)
    (ht : hasTurn s h 0x66 64 (4 + n.toNat) false) :
    servedBy (.nodeMessageSend h false node n data) h 0x66 true (fun s =>
      (s.modNode (s.ringHead h.inst.toNat) node.toNat (fun x => { x with
        txState := 1, txMsg := data, txPos := 0, txSeg := 0, txSends := 0, txHost := some (h.chan, h.seq) }),
        msgReply stPending 1 0)) s := by
  refine servedBy_of_row rfl rfl (nodeMessage_checks h1 h2) (by simp [Instr.wellFormed, bytesLen, hl]) nofun ?_ ht
  obtain ⟨hj, hs, he, hi, hu, hx⟩ := hn
  simp [hj, hs, he, hi, hu, hx]

end

/-! ### The statement -/

/-- Settles O29 (R343, R348, R356, R366): the conditions are what the opcodes' own checks ask. -/
theorem linkRequestsServed : Obligations.LinkRequestsServed := by
  intro s h
  refine ⟨fun use cls rate ring car phase guard peer poll probe xs hc hx => ?_,
    fun k v hk ht => ⟨fun ho _ => pointWriteOutput_servedBy hk ho ht,
      fun hm hp => ⟨pointForce_servedBy hk hm hp ht, pointForceRelease_servedBy hk hm ht⟩⟩,
    fun node profile landing group side n es hl he hs hp hn hg hu hb hc => ?_,
    fun node n data hl h1 h2 hj hs he hi hu hx => nodeMessageSend_servedBy hl h1 h2 ⟨hj, hs, he, hi, hu, hx⟩⟩
  · refine servedBy_of_row rfl rfl rfl rfl nofun ?_
    rw [stageEntries_of_checked (by simpa using hc) hx]
    rfl
  · refine servedBy_of_row rfl rfl (pointMapWrite_checks hs hp hn hg hu hb) (by simp [Instr.wellFormed, hl, he])
      nofun ?_
    simp only [takenOn_params, hc]
    rfl

end Sys2Proof.Machine
end

section
/-! PROOFS. Image loads and activations, the challenge and key enrolment (R392, R394, R398, R399). -/

namespace Sys2Proof.Machine

section
variable {s : State} {h : Hdr}

@[simp] theorem takenOn_imgSlot {k : Nat} : (takenOn s h).imgSlot k = s.imgSlot k := by rw [takenOn_host]; rfl
@[simp] theorem takenOn_activeSlot {type : Nat} : (takenOn s h).activeSlot type = s.activeSlot type := by
  rw [takenOn_host]; rfl
@[simp] theorem takenOn_openSlot {type slot : Nat} : openSlot (takenOn s h) type slot = openSlot s type slot := by
  rw [takenOn_host]; rfl
@[simp] theorem takenOn_saf : (takenOn s h).saf = s.saf := by rw [takenOn_host]
@[simp] theorem takenOn_stagedSlot : (takenOn s h).stagedSlot = s.stagedSlot := by rw [takenOn_host]; rfl
@[simp] theorem policyOk_takenOn {b : Bytes} : policyOk (takenOn s h) b = policyOk s b := by rw [takenOn_host]; rfl

/-! ### Loads (R392) -/

theorem imageBegin_checks {type slot : U8} {total : U32} (h1 : 1 ≤ type.toNat) (h3 : type.toNat ≤ 3)
    (hs : slot.toNat ≤ 1 ∨ slot = 0xFF) (ht : total.toNat ≤ imageMax type.toNat) :
    firstFail [(false || type == 0 || decide (type.toNat > 3) || (decide (slot.toNat > 1) && slot != 0xFF), stBadParam),
      (decide (imageMax type.toNat < total.toNat), stRange)] = none := by
  have hn : ¬ (1 < slot.toNat ∧ slot ≠ 0xFF) := by
    rintro ⟨ha, hb⟩
    exact hs.elim (fun hc => by omega) hb
  simpa [firstFail, ne_zero_of_one_le_toNat h1, Nat.not_lt.2 h3, Nat.not_lt.2 ht] using hn

theorem beginImage_of_free {type slot total : Nat} (ha : s.activeSlot type ≠ some (openSlot s type slot))
    (hg : ¬ (type = 3 ∧ s.stagedSlot = some (openSlot s type slot))) (hs : s.img.session = none)
    (hv : s.img.verifying = none) :
    beginImage s type slot total =
      let n := openSlot s type slot
      let t := (s.latch' .nextSession none).modImgSlot (slotKey type n) (fun _ => { state := 1 })
      ({ t with img := { t.img with session := some {
          type := type, slot := n, total := total, received := 0, data := [] } } },
        [0#8] ++ le 1 n ++ [0#8, 0]) := by
  have hg' : (type == 3 && s.stagedSlot == some (openSlot s type slot)) = false := by
    rw [← Bool.not_eq_true, Bool.and_eq_true, beq_iff_eq, beq_iff_eq]
    exact hg
  simp only [beginImage, beq_eq_false_iff_ne.2 ha, hg', hs, hv]
  rfl

theorem imageChunk_checks {n : U16} (h1 : 1 ≤ n.toNat) (h2 : n.toNat ≤ 4064) :
    firstFail [(false, stBadParam), (n == 0 || decide (n.toNat > 4064), stRange)] = none := by
  simp [firstFail, ne_zero_of_one_le_toNat h1, h2]

/-- R392: a chunk at the offset the load has reached is added while the image has room for it. -/
theorem addChunk_of_next {offset : Nat} {data : Bytes} {k : Session} (hs : s.img.session = some k)
    (ho : offset = k.received) (hr : k.received + data.length ≤ k.total) :
    addChunk s offset data =
      ({ s with img := { s.img with session := some { k with
          received := k.received + data.length, data := k.data ++ data } } },
        [0#8, 0, 0, 0] ++ le 4 (k.received + data.length)) := by
  simp only [addChunk, hs, ho, bne_self_eq_false, Bool.false_eq_true, if_false, Nat.not_lt.2 hr]
  rfl

theorem endImage_of_session {k : Session} (hs : s.img.session = some k) :
    endImage s h =
      let t := s.modImgSlot (slotKey k.type k.slot) (fun x => { x with data := k.data, length := k.data.length })
      ({ t with img := { t.img with session := none, verifying := some (k.type, k.slot, h) } },
        endReply stPending 0 k.type k.slot 0 []) := by
  simp only [endImage, hs]

/-! ### Activation (R394) -/

/-- Table 17.4: what a policy image waits for in COMMISSION mode. -/
structure PolicyReady (s : State) (slot : Nat) : Prop where
  noHandover : s.pair.hand = 0
  noCommit : s.params.commit = none
  tadpole : (s.imgSlot (slotKey 2 slot)).state = 3
  valid : policyOk s ((s.imgSlot (slotKey 2 slot)).data.drop 160) = true
  commission : s.mode = .commission
  standing : cars8.all s.standstill = true
  untested : cars8.any (fun c => (s.hoist c).learn.state == 1 || (s.hoist c).bt.state == 1) = false

theorem PolicyReady.whenTaken {slot : Nat} (hp : PolicyReady s slot) : PolicyReady (takenOn s h) slot := by
  obtain ⟨hh, hc, ht, hv, hm, hs, hu⟩ := hp
  exact ⟨by simpa using hh, by simpa using hc, by simpa using ht, by simpa using hv, by simpa using hm,
    by simpa using hs, by simpa using hu⟩

theorem activate_policy {slot : Nat} (hp : PolicyReady s slot) :
    activate s 2 slot = ({ s with img := { s.img with policyNext := some slot } }, [0#8, 0, 0, 0]) := by
  obtain ⟨hh, hc, ht, hv, hm, hs, hu⟩ := hp
  simp only [activate, hh, hc, ht, hv, hm, hs, hu]
  rfl

/-! ### The challenge (R399) -/

theorem issueChallenge_of_free (hb : s.img.auth.blockedUntil ≤ s.opTime) :
    issueChallenge s =
      let k := (s.img.auth.issued + 1) % 2 ^ 32
      let b := fit 16 (Config.nonce s.free) ++ le 8 Config.unitNumber.toNat ++ le 4 s.opTime ++ le 4 k
      ({ s with free := s.free + 1
                img := { s.img with auth := { s.img.auth with
                  bytes := some b, issuedAt := s.frame, aged := 0, issued := k } } },
        [0#8, 0, 0, 0] ++ b) := by
  refine (if_neg (Nat.not_lt.2 hb)).trans ?_
  rfl

/-! ### Enrolment (R398) -/

/-- A key that replaces none needs no token. -/
theorem actKeyEnrol_of_new {id : U8} {key : Bytes} (hp : s.pubKey id.toNat = []) :
    actKeyEnrol h false id key (zeros 32) s =
      serve s h { op := 0x86, insts := 1, len := 16, lenOk := h.len == 100
                  checks := [(false, stBadParam), (id.toNat == 0 || decide (id.toNat > 3) || !keyValid id.toNat key, stRange),
                    (false, stAuthRequired)] } (fun s => armEnrol s h id.toNat key) := by
  have hz : zeroToken (zeros 32) = true := by decide
  simp only [actKeyEnrol, hp, hz]
  rfl

theorem armEnrol_of_free {id : Nat} {key : Bytes} (hs : s.saf.staged = none) (hw : s.saf.enrolWin.state ≠ 1) :
    armEnrol s h id key =
      let t := { s with
        img := { s.img with enrolKey := some (id, keptKey id key, h.chan, h.seq) }
        saf := { s.saf with enrolWin := { state := 1, armedAt := s.frame } } }
      (t, enrolReply t stPending) := by
  simp only [armEnrol, hs, beq_eq_false_iff_ne.2 hw]
  rfl

theorem keyEnrol_servedBy {id : U8} {key : Bytes} (hl : key.length = 64) (h1 : 1 ≤ id.toNat) (h3 : id.toNat ≤ 3)
    (hv : keyValid id.toNat key = true) (hp : (takenOn s h).pubKey id.toNat = []) (hs : s.saf.staged = none)
    (hw : s.saf.enrolWin.state ≠ 1) (ht : hasTurn s h 0x86 1 100 false) :
    servedBy (.keyEnrol h false id key (zeros 32)) h 0x86 false (fun s =>
      let t := { s with
        img := { s.img with enrolKey := some (id.toNat, keptKey id.toNat key, h.chan, h.seq) }
        saf := { s.saf with enrolWin := { state := 1, armedAt := s.frame } } }
      (t, enrolReply t stPending)) s := by
  have he : exec (.keyEnrol h false id key (zeros 32)) s =
      hostRow s (.keyEnrol h false id key (zeros 32)) h 0x86 16 (actKeyEnrol h false id key (zeros 32)) :=
    exec_host (i := .keyEnrol h false id key (zeros 32)) rfl (by simp [Instr.wellFormed, bytesLen, hl, zeros]) nofun
  refine servedBy_congr ?_ (servedBy_of_run he (actKeyEnrol_of_new hp) rfl rfl rfl rfl beq_iff_eq.2 ?_ ht)
  · exact armEnrol_of_free (by simpa using hs) (by simpa using hw)
  · simp [firstFail, Nat.one_le_iff_ne_zero.1 h1, h3, hv]

end

/-! ### The statement -/

/-- Settles O30 (R392, R394, R398, R399; log entry 10 for the challenge's random bytes): the conditions are what the
opcodes' own checks and Table 17.4 ask. -/
theorem imageRequestsServed : Obligations.ImageRequestsServed := by
  intro s h
  refine ⟨fun type slot total h1 h3 hs hx ha hg hn hv => ?_, fun offset n data k hl h1 h2 hs ho hr => ?_,
    fun k hs => ?_, fun slot hl hh hc ht hv hm hs hu => ?_, fun hb => ?_,
    fun id key hl h1 h3 hv hp hs hw => keyEnrol_servedBy hl h1 h3 hv hp hs hw⟩
  · exact servedBy_of_row rfl rfl (imageBegin_checks h1 h3 hs hx) rfl nofun
      (beginImage_of_free (by simpa using ha) (fun hx => hg ⟨BitVec.eq_of_toNat_eq hx.1, by simpa using hx.2⟩)
        (by simpa using hn) (by simpa using hv))
  · exact servedBy_of_row rfl rfl (imageChunk_checks h1 h2) (by simp [Instr.wellFormed, bytesLen, hl]) nofun
      (addChunk_of_next (by simpa using hs) ho hr)
  · exact servedBy_of_row rfl rfl rfl rfl nofun (endImage_of_session (by simpa using hs))
  · refine servedBy_of_row rfl rfl ?_ rfl nofun (activate_policy (PolicyReady.whenTaken ⟨hh, hc, ht, hv, hm, hs, hu⟩))
    simp [firstFail, hl]
  · exact servedBy_of_row rfl rfl rfl rfl nofun (issueChallenge_of_free (by simpa using hb))

end Sys2Proof.Machine
end

section
/-! PROOFS. A refused commit (R386) and the values that `PARAM_READ` returns (R388). -/

namespace Sys2Proof.Machine

section
variable {s : State} {h : Hdr}

/-! ### PARAM_COMMIT (R386) -/

/-- R386: the first failure of validation refuses the commit. -/
theorem startCommit_of_refused {key inst st : Nat} (hc : s.params.commit = none) (hh : s.pair.hand = 0)
    (hi : s.pair.incoming = false) (hy : s.pair.yielding = false)
    (hd : (changedKeys s.params == [] && changedMaps s.params == []) = false)
    (hf : firstRefusal (commitRefusals s) = some (key, inst, st)) :
    startCommit s h = answer (refuseCommit s key inst st).1 h 0x08 false (refuseCommit s key inst st).2 := by
  have hb : (s.params.commit.isSome || s.pair.hand != 0 || s.pair.incoming || s.pair.yielding) = false := by
    simp [hc, hh, hi, hy]
  simp only [startCommit, hb, hd, hf, Bool.false_eq_true, if_false]

/-- A record leaves the parameters, staged and committed, as they are. -/
theorem record_params {f : Finding} : (record s f).params = s.params := by
  have hk : Kept (partsMask [.journal]) false s (record s f) := record_kept .self rfl
  have hp : (record s f).params = { s.params with
    committed := (record s f).params.committed, learned := (record s f).params.learned } := hk.same .params rfl
  have hc : (record s f).params.committed = s.params.committed := hk.same .committed rfl
  have hl : (record s f).params.learned = s.params.learned := hk.same .learned rfl
  rw [hp, hc, hl]

/-- An answer changes the host unit alone, so a request changes the parameters where its effect does. -/
theorem params_of_servedBy {i : Instr} {op : Nat} {m : Bool} {e : State → State × Bytes} {t : State}
    (hv : servedBy i h op m e s) (he : (e (takenOn s h)).1.params = s.params) (ht : exec i s = .next t) :
    t.params = s.params := by
  cases hv.symm.trans ht
  rw [answer_host]
  exact he

/-! ### PARAM_READ (R388) -/

@[simp] theorem takenOn_com {key inst : Nat} : (takenOn s h).com key inst = s.com key inst := by rw [takenOn_host]; rfl
@[simp] theorem takenOn_stg {key inst : Nat} : (takenOn s h).stg key inst = s.stg key inst := by rw [takenOn_host]; rfl
@[simp] theorem takenOn_sf {key inst : Nat} : (takenOn s h).sf key inst = s.sf key inst := by rw [takenOn_host]; rfl
@[simp] theorem roValue_takenOn {key : Nat} : roValue (takenOn s h) key = roValue s key := by rw [takenOn_host]; rfl

/-- Table 16.7: the status is the reply's first byte and the value its last eight. -/
theorem paramReadReply_fields {r : KeySpec} {key inst which : Nat} :
    (paramReadReply s r key inst which).take 1 = [0#8] ∧
      (paramReadReply s r key inst which).drop 8 = leI 8 (paramValue s r key inst which) := ⟨rfl, rfl⟩

theorem paramRead_value {key : U16} {inst which : U8} {r : KeySpec} {v : Int} (hk : findKey key.toNat = some r)
    (hi : inst.toNat < r.insts) (ht : hasTurn s h 0x06 1 4 false) (hw : which.toNat ≤ 2)
    (hn : ¬(which = 1 ∧ safetyKey key.toNat = true))
    (hv : paramValue (takenOn s h) r key.toNat inst.toNat which.toNat = v) :
    ∃ t p, exec (.paramRead h false key inst which) s = .next t ∧ onlyHost s t ∧ replied t h 0x06 p ∧
      p.take 1 = [0#8] ∧ p.drop 8 = leI 8 v := by
  have hr := paramRead_readsBack (inst := inst) hk hw ht
  rw [paramReadPayload_of_lt_insts hi hn] at hr
  obtain ⟨t, he, ho, hp⟩ := hr
  exact ⟨t, _, he, ho, hp, hv ▸ paramReadReply_fields⟩

theorem paramReadPayload_of_safety {key : U16} {inst : U8} {r : KeySpec} (hs : safetyKey key.toNat = true) :
    paramReadPayload r key inst 1 = fun _ => refusal 16 stBadParam :=
  funext fun _ => if_pos (by simp [hs])

theorem paramValue_committed {r : KeySpec} {key inst : Nat} (hr : r.ro = false) (hs : safetyKey key = false) :
    paramValue s r key inst 0 = s.com key inst := by
  rw [safetyKey] at hs
  simp [paramValue, hr, hs]

theorem paramValue_confirmed {r : KeySpec} {key inst : Nat} (hr : r.ro = false) (hs : safetyKey key = true) :
    paramValue s r key inst 0 = s.sf key inst := by
  rw [safetyKey] at hs
  simp [paramValue, hr, hs]

theorem paramValue_present {r : KeySpec} {key inst : Nat} (hr : r.ro = true) :
    paramValue s r key inst 0 = roValue s key := by
  simp [paramValue, hr]

theorem paramValue_staged {r : KeySpec} {key inst : Nat} (hr : r.ro = false) :
    paramValue s r key inst 1 = s.stg key inst := by
  simp [paramValue, hr]

end

/-! ### The statements -/

/-- Settles O16 (R386). -/
theorem refusedCommitKeepsStaging : Obligations.RefusedCommitKeepsStaging := by
  intro s h key inst st hc hh hi hy hd hf ht
  have hv : startCommit (takenOn s h) h = _ := startCommit_of_refused (by simpa using hc) (by simpa using hh)
    (by simpa using hi) (by simpa using hy) (by simpa using hd) hf
  have hr := paramCommit_runsAs ht
  rw [runsAs, hv] at hr
  exact ⟨hr, fun t he => params_of_servedBy (e := fun s => refuseCommit s key inst st) hr
    (record_params.trans takenOn_params) he⟩

/-- Settles O35 (R388): one reply for each key and value asked for, with the value in its last eight bytes. -/
theorem paramReadValues : Obligations.ParamReadValues := by
  intro s h key inst r hk hi ht
  have value {which : U8} {v : Int} := paramRead_value (which := which) (v := v) hk hi ht
  refine ⟨fun hr hs => ?_, fun hr hs => ?_, fun hr => ?_, fun hr hs => ?_, fun hs => ?_, ?_⟩
  · exact value (by decide) (by simp) ((paramValue_committed hr hs).trans takenOn_com)
  · exact value (by decide) (by simp) ((paramValue_confirmed hr hs).trans takenOn_sf)
  · exact value (by decide) (by simp) ((paramValue_present hr).trans roValue_takenOn)
  · exact value (by decide) (by simp [hs]) ((paramValue_staged hr).trans takenOn_stg)
  · have hr : readsBack (.paramRead h false key inst 1) h 0x06 _ s := paramRead_readsBack hk (by decide) ht
    rwa [paramReadPayload_of_safety hs] at hr
  · exact value (by decide) (by simp) rfl

end Sys2Proof.Machine
end

section
/-! PROOFS. Reads of the device, its calls, cars, hoists, doors, loops and captures (R34, R51, R374, R383, R388, R405). -/

namespace Sys2Proof.Machine

section
variable {s : State} {h : Hdr}

/-- A request of fixed length that passes the checks of its own reads, where its row's effect leaves the state as it is. -/
theorem readsBack_of_effect {i : Instr} {r : Req} {op insts len len' : Nat} {isRead : Bool} {a : State → State × Bytes}
    {p : State → Bytes} (hi : hostOf i = some ⟨h, op, len', fun s => serve s h r a⟩)
    (hr : r = { r with op := op, insts := insts, isRead := isRead, lenOk := h.len == len, mirrored := false })
    (hc : firstFail r.checks = none) (hw : i.wellFormed = true) (hu : ∀ k o, i ≠ .unknownOpcodePacket k o)
    (hx : a (takenOn s h) = (takenOn s h, p (takenOn s h))) (ht : hasTurn s h op insts len isRead) :
    readsBack i h op p s :=
  readsBack_of_servedBy (servedBy_of_row (e := fun s => (s, p s)) hi hr hc hw hu hx ht) rfl nofun

/-! ### The device -/

theorem identityRead_readsBack {nonce : Bytes} (hl : nonce.length = 16) (ht : hasTurn s h 0x01 1 16 false) :
    readsBack (.identityRead h false nonce) h 0x01 (fun s => identityReply s nonce) s :=
  readsBack_of_row rfl rfl rfl (by simp [Instr.wellFormed, bytesLen, hl]) nofun ht

/-- The checks of `PROVING_REPORT`. -/
def reportReq (h : Hdr) (which : U8) : Req :=
  { op := 0x09, insts := 1, len := reportLen which.toNat, lenOk := h.len == 1
    checks := [(false || which.toNat > 2, stBadParam)] }

/-- The report of PROVING (R51). -/
theorem provingReport_readsBack_proving (ht : hasTurn s h 0x09 1 1 false) :
    readsBack (.provingReport h false 0) h 0x09 provingReply s :=
  readsBack_of_row (r := reportReq h 0) rfl rfl rfl rfl nofun ht

/-- The device's own health report (R51). -/
theorem provingReport_readsBack_health (ht : hasTurn s h 0x09 1 1 false) :
    readsBack (.provingReport h false 1) h 0x09 (fun s => [0#8, 0, 0, 0] ++ healthBytes s.proving.ownHealth) s :=
  readsBack_of_row (r := reportReq h 1) rfl rfl rfl rfl nofun ht

theorem zeroToken_zeros {n : Nat} : zeroToken (zeros n) = true := by simp [zeroToken, zeros]

theorem keyEnrolRead_readsBack {id : U8} (h1 : 1 ≤ id.toNat) (h3 : id.toNat ≤ 3) (ht : hasTurn s h 0x86 1 100 true) :
    readsBack (.keyEnrolRead h false id (zeros 64) (zeros 32)) h 0x86 (fun s => enrolReply s stOk) s := by
  refine readsBack_of_row rfl rfl ?_ (by simp [Instr.wellFormed, bytesLen, zeros]) nofun ht
  simp [firstFail, zeroToken_zeros, ne_zero_of_one_le_toNat h1, h3]

/-! ### Calls and cars -/

theorem callQuery_readsBack {id : U16} {c : Call} (hc : s.heldCall? id.toNat = some c) (hg : c.group = h.inst.toNat)
    (ht : hasTurn s h 0x12 4 4 false) : readsBack (.callQuery h false id) h 0x12 (fun s => queryReply s c) s :=
  readsBack_of_effect rfl rfl rfl rfl nofun (by simp [hc, hg]) ht

theorem itineraryRead_readsBack (ht : hasTurn s h 0x13 8 0 false) :
    readsBack (.itineraryRead h false) h 0x13
      (fun s => if s.configured h.inst.toNat = true then itineraryReply s h.inst.toNat else refusal 4 stBadParam) s :=
  readsBack_of_effect rfl rfl rfl rfl nofun (apply_ite (Prod.mk _) _ _ _).symm ht

theorem learnRunRead_readsBack {sw : List U8} (hl : sw.length = 8) (hs : ∀ x ∈ sw, x = 0 ∨ x = 0xFF)
    (ht : hasTurn s h 0x24 8 12 true) :
    readsBack (.learnRunRead h false 0 0 sw) h 0x24 (fun s => learnReply s h.inst.toNat stOk) s := by
  refine readsBack_of_row rfl rfl ?_ (by simp [Instr.wellFormed, hl]) nofun ht
  have hn : (sw.map (·.toNat)).any (fun x => x != 0 && x != 0xFF) = false := by
    simp only [List.any_map, List.any_eq_false]
    intro x hx
    rcases hs x hx with rfl | rfl <;> decide
  simp only [learnReadChecks, hn]
  rfl

theorem captureRead_readsBack {ch : U8} {first : U32} {n : U16} (hc : ch.toNat ≤ 3) (h1 : 1 ≤ n.toNat)
    (h2 : n.toNat ≤ 1016) (ht : hasTurn s h 0x36 1 12 false) :
    readsBack (.captureRead h false ch first n) h 0x36 (fun s => captureData s ch.toNat first.toNat n.toNat) s := by
  refine readsBack_of_row rfl rfl ?_ rfl nofun ht
  simp [firstFail, ne_zero_of_one_le_toNat h1, hc, h2]

end

/-! ### The statements -/

/-- Settles O11 (R34, R51, R374, R383, R388, R405): no check of their own refuses these reads, and each answers with its
layout. -/
theorem deviceReadsAnswered : Obligations.DeviceReadsAnswered := by
  intro s h
  exact ⟨readsBack_of_row rfl rfl rfl rfl nofun, fun _ => identityRead_readsBack,
    readsBack_of_row rfl rfl rfl rfl nofun, readsBack_of_effect rfl rfl rfl rfl nofun rfl,
    fun key inst which r hk hi hw hn ht => paramReadPayload_of_lt_insts hi hn ▸ paramRead_readsBack hk hw ht,
    readsBack_of_row rfl rfl rfl rfl nofun, provingReport_readsBack_proving, provingReport_readsBack_health,
    readsBack_of_row rfl rfl rfl rfl nofun, fun _ => readsBack_of_row rfl rfl rfl rfl nofun,
    readsBack_of_row rfl rfl rfl rfl nofun, fun _ => keyEnrolRead_readsBack⟩

/-- Settles O12 (chapters 04 to 08): no check of their own refuses these reads, and each answers with its layout. -/
theorem motionReadsAnswered : Obligations.MotionReadsAnswered := by
  intro s h
  exact ⟨fun _ _ => callQuery_readsBack, itineraryRead_readsBack, readsBack_of_row rfl rfl rfl rfl nofun,
    readsBack_of_row rfl rfl rfl rfl nofun, fun _ => learnRunRead_readsBack, readsBack_of_row rfl rfl rfl rfl nofun,
    readsBack_of_row rfl rfl rfl rfl nofun, readsBack_of_row rfl rfl rfl rfl nofun,
    readsBack_of_row rfl rfl rfl rfl nofun, readsBack_of_row rfl rfl rfl rfl nofun,
    readsBack_of_row rfl rfl rfl rfl nofun, readsBack_of_row rfl rfl rfl rfl nofun, fun _ _ _ => captureRead_readsBack⟩

end Sys2Proof.Machine
end

section
/-! PROOFS. Cycles and replies, discovery, rings, the host channel, lost nodes and stuck points (R321, R322, R329, R330,
R333, R334, R336, R352, R354, R372). -/

namespace Sys2Proof.Machine

section
variable {s : State} {port : Fin 64} {p a : Nat}

/-! ### Cycles (R322) -/

variable {bad : Bool} {heard : List (BitVec 20 × U16)}

/-- What a port does in a cycle that starts, by its use. -/
def cycleOf (s : State) (port : Fin 64) (bad : Bool) (heard : List (BitVec 20 × U16)) (use : Nat) : State :=
  match use with
  | 1 =>
    if s.lineUsable (s.ringHead port) && ((port : Nat) == s.ringHead port || !s.portUsable (s.ringHead port)) then
      nodeCycle s (s.ringHead port) port bad heard
    else s
  | 2 => if s.portUsable port then ownMismatch (hostCycle s port) port bad else s
  | 3 => if s.driving && s.portUsable port then ownMismatch (pairCycle s port) port bad else s
  | _ => s

theorem exec_portCycleStart : exec (.portCycleStart port bad heard) s =
    .next (if s.hears && s.cycleDue port then cycleOf s port bad heard (s.portUse port) else s) := by
  have he : exec (.portCycleStart port bad heard) s = execPortCycleStart port bad heard s := rfl
  rw [he, execPortCycleStart]
  cases s.hears && s.cycleDue port <;> rfl

theorem exec_portCycleStart_of_due (hh : s.hears = true) (hd : s.cycleDue port = true) :
    exec (.portCycleStart port bad heard) s = .next (cycleOf s port bad heard (s.portUse port)) := by
  simp only [exec_portCycleStart, hh, hd, Bool.and_self, if_true]

/-- A line whose usable end `port` is: the ring's primary, or the other where the primary is lost. -/
theorem cycleOf_nodes (hl : s.lineUsable (s.ringHead port) = true)
    (hp : (port : Nat) = s.ringHead port ∨ s.portUsable (s.ringHead port) = false) :
    cycleOf s port bad heard 1 = nodeCycle s (s.ringHead port) port bad heard :=
  if_pos (by simpa [hl] using hp)

theorem cycleOf_host (hu : s.portUsable port = true) :
    cycleOf s port bad heard 2 = ownMismatch (hostCycle s port) port bad := if_pos hu

theorem cycleOf_pair (hd : s.driving = true) (hu : s.portUsable port = true) :
    cycleOf s port bad heard 3 = ownMismatch (pairCycle s port) port bad := if_pos (by simp [hd, hu])

theorem exec_portCycleStart_of_idle (hi : s.hears = false ∨ s.cycleDue port = false ∨ s.portUse port = 0) :
    exec (.portCycleStart port bad heard) s = .next s := by
  rw [exec_portCycleStart]
  rcases hi with hi | hi | hi
  · rw [hi]
    rfl
  · rw [hi, Bool.and_false]
    rfl
  · rw [hi]
    exact congrArg _ (ite_self s)

/-! ### Replies (R321, R334) -/

/-- Port `p` heads a line of nodes on which the device hears. -/
structure NodeLine (s : State) (port : Fin 64) (p : Nat) : Prop where
  hears : s.hears = true
  head : s.ringHead port = p
  nodes : s.portUse p = 1
  usable : s.lineUsable p = true

theorem NodeLine.guard (hl : NodeLine s port p) : (s.hears && s.portUse p == 1 && s.lineUsable p) = true := by
  simp [hl.hears, hl.nodes, hl.usable]

/-- A joined node of the map whose reply of this cycle is awaited. -/
structure Awaited (s : State) (p a : Nat) : Prop where
  mapped : (s.lport p).map.contains a = true
  joined : (s.node p a).state = 0
  first : (s.node p a).lastGood ≠ (s.lport p).counted
  present : (s.node p a).missed = false

theorem exec_nodeReply_of_unknown {f : NodeFrame} (hl : NodeLine s f.port p) (hk : f.known = false) :
    exec (.nodeReply f) s = .next (s.modPort p (fun q => { q with framesUnknown := satN 16 (q.framesUnknown + 1) })) := by
  have he : exec (.nodeReply f) s = .next (nodeReply s f) := rfl
  simp only [he, nodeReply, hl.head, hl.guard, hk, Bool.not_true, Bool.not_false, Bool.false_eq_true, if_false, if_true]

theorem exec_nodeReply_of_unmapped {f : NodeFrame} (hl : NodeLine s f.port p) (hk : f.known = true)
    (hm : (s.lport p).map.contains f.addr.toNat = false) : exec (.nodeReply f) s = .next s := by
  have he : exec (.nodeReply f) s = .next (nodeReply s f) := rfl
  simp only [he, nodeReply, hl.head, hl.guard, hk, hm, Bool.not_true, Bool.not_false, Bool.true_or, Bool.false_eq_true,
    if_false, if_true]

/-- R334: an awaited reply counts as good or as bad. -/
theorem exec_nodeReply_of_awaited {f : NodeFrame} (hl : NodeLine s f.port p) (hk : f.known = true)
    (ha : Awaited s p f.addr.toNat) :
    exec (.nodeReply f) s = .next (if f.good && (f.primary || f.secondary) && lengthOk (s.node p f.addr.toNat) f then
      goodReply s f p f.addr.toNat else badReply s p f.addr.toNat) := by
  have he : exec (.nodeReply f) s = .next (nodeReply s f) := rfl
  simp only [he, nodeReply, hl.head, hl.guard, hk, ha.mapped, ha.joined, beq_eq_false_iff_ne.2 ha.first, ha.present,
    bne_self_eq_false, Bool.not_true, Bool.or_self, Bool.false_eq_true, if_false]

/-! ### Discovery (R333, R334) -/

/-- The reply to the poll under way ends it. -/
theorem exec_discoveryReply_of_polled {d : Discovery} (hl : NodeLine s d.port p)
    (hp : (s.lport p).polling = some d.addr.toNat) (hm : (s.lport p).map.contains d.addr.toNat = false) :
    exec (.discoveryReply d) s = .next (
      if d.good then goodDiscovery (s.modPort p (fun q => { q with polling := none })) p d
      else badDiscovery (s.modPort p (fun q => { q with polling := none })) p d.addr.toNat) := by
  have he : exec (.discoveryReply d) s = .next (discoveryReply s d) := rfl
  simp only [he, discoveryReply, hl.head, hl.guard, hp, hm, BEq.rfl, Bool.not_true, Bool.not_false, Bool.and_self,
    Bool.false_eq_true, if_false]

theorem exec_discoveryReply_of_unpolled {d : Discovery}
    (hp : (s.lport (s.ringHead d.port)).polling ≠ some d.addr.toNat) : exec (.discoveryReply d) s = .next s := by
  have he : exec (.discoveryReply d) s = .next (discoveryReply s d) := rfl
  simp only [he, discoveryReply, beq_eq_false_iff_ne.2 hp, Bool.and_false, Bool.false_and, Bool.not_false, if_true]

theorem badDiscovery_modPort {f : Port → Port} :
    badDiscovery (s.modPort p f) p a =
      let u := (s.modPort p f).modNode p a (fun n => { n with discBad := min 2 (n.discBad + 1) })
      if (s.node p a).discBad = 1 then record u { code := 0x8123, sev := 1, inst := p, payload := le 1 a } else u := by
  simp only [badDiscovery, beq_iff_eq]
  rfl

/-! ### Rings (R329, R330) -/

theorem exec_ringHeaderCheck {hd : Bool} : exec (.ringHeaderCheck port hd) s =
    .next (if s.hears && s.portUse port == 1 && (s.ringState (s.ringHead port) == 1 || s.ringState (s.ringHead port) == 2
      || s.ringState (s.ringHead port) == 4) then ringCheck s (s.ringHead port) hd else s) := rfl

theorem exec_ringProbe : exec (.ringProbe port) s =
    .next (if s.hears && s.portUse port == 1 && s.ringState (s.ringHead port) == 2 then
      s.modPort (s.ringHead port) (fun q => { q with probeDue := true }) else s) := rfl

/-! ### The host channel (R336, R372) -/

/-- A frame of type 0x20 brings the channel up. -/
def channelUp (s : State) : State := { s with host := { s.host with linkUp := true } }

theorem exec_hostChannelFrame {bytes : Bytes} (hw : s.working = true) (hu : s.portUse port = 2) :
    exec (.hostChannelFrame port bytes) s = .next (
      if bytes.length < 12 || rd bytes 0 1 != 0xE7 then channelUp s
      else if rd bytes 2 2 != bytes.length then refuseAtOnce (channelUp s) (hdrOf .link bytes) (rd bytes 4 1) stBadLength
      else takePacket (channelUp s) .link bytes) := by
  have he : exec (.hostChannelFrame port bytes) s = execHostChannelFrame port bytes s := rfl
  simp only [he, execHostChannelFrame, hw, hu, BEq.rfl, Bool.and_self, if_true, channelUp]

theorem exec_hostChannelDown : exec (.hostChannelDown port) s =
    .next (if s.hears && s.portUse port == 2 && s.host.linkUp then
      record { s with host := { s.host with linkUp := false } } { code := 0x8140, sev := 1, inst := (port : Nat) }
      else s) := rfl

/-! ### Lost nodes and stuck points (R352, R354) -/

theorem exec_nodeLost_of_missed {addr : U8} (hh : s.hears = true) (hr : s.ringHead port = p) (hu : s.portUse p = 1)
    (hj : (s.node p addr.toNat).state = 0) (hm : (s.lport p).map.contains addr.toNat = true)
    (hx : (s.node p addr.toNat).missed = true) (h3 : 3 ≤ nodeMisses (s.lport p) (s.node p addr.toNat)) :
    exec (.nodeLost port addr) s = .next (loseNode s p addr.toNat) := by
  have he : exec (.nodeLost port addr) s = execNodeLost port addr s := rfl
  subst hr
  simp only [he, execNodeLost, hh, hu, hj, hm, hx, Bool.true_or, if_true, Nat.add_zero, ge_iff_le, h3, BEq.rfl,
    Bool.and_self, decide_true]

theorem exec_pointStuck_of_active {k : BitVec 20} {e : MapEntry} (he : s.pointEntry k.toNat 1 = some e)
    (hh : s.hears = true) (hm : s.maxActiveOf (k.toNat / 16384) e ≠ 0) (ha : (s.point k.toNat).accepted = true)
    (hv : (s.point k.toNat).acceptedVal ≠ restOf e) (hs : (s.point k.toNat).stuck = false)
    (hb : bitAt e.pflags 1 = false) :
    exec (.pointStuck k) s = .next (record (s.modPoint k.toNat (fun x => { x with stuck := true }))
      { code := 0x8162, sev := 1, inst := k.toNat / 16384, payload := le 4 k.toNat }) := by
  have hx : exec (.pointStuck k) s = execPointStuck k s := rfl
  simp only [hx, execPointStuck, he, hh, ha, hs, hb, bne_iff_ne.2 hm, bne_iff_ne.2 hv, Bool.not_false, Bool.true_or,
    Bool.and_self, if_true]

theorem exec_pointStuck_of_unmapped {k : BitVec 20} (hn : s.pointEntry k.toNat 1 = none) :
    exec (.pointStuck k) s = .next s := by
  have hx : exec (.pointStuck k) s = execPointStuck k s := rfl
  simp only [hx, execPointStuck, hn]

end

/-! ### The statement -/

/-- Settles O58 (R321, R322, R329, R330, R333, R334, R336, R352, R354, R372; log entries 67, 73 and 76): each event acts
under its own conditions and is without effect under others. -/
theorem linkEvents : Obligations.LinkEvents := by
  intro s
  refine ⟨fun port bad heard hh hd hu hp hl => ?_, fun port bad heard hh hd hu hp hl hn => ?_,
    fun port bad heard hh hd hu hp => ?_, fun port bad heard hh hd hu hv hp => ?_,
    fun port bad heard => exec_portCycleStart_of_idle,
    fun f p hh hr hu hl => ⟨exec_nodeReply_of_unknown ⟨hh, hr, hu, hl⟩, fun hk hm hj hg hx ha hb hc => ?_,
      exec_nodeReply_of_unmapped ⟨hh, hr, hu, hl⟩, fun hk hm hj hg hx ha => ?_⟩,
    fun d p hh hr hu hl hp hm => ⟨fun hg => ?_, fun hg => ?_⟩, fun d => exec_discoveryReply_of_unpolled,
    fun port heard hh hu hr => ?_, fun port heard hu => ?_, fun port hh hu hr => ?_,
    fun port bytes hw hu => ⟨fun hb => ?_, fun hl hs hn => ?_, fun hl hs hn => ?_⟩, fun port hh hu hl => ?_,
    fun port hl => ?_, fun port addr p => exec_nodeLost_of_missed, fun k e => exec_pointStuck_of_active,
    fun k => exec_pointStuck_of_unmapped⟩
  · rw [exec_portCycleStart_of_due hh hd, hu, cycleOf_nodes (hp.symm ▸ hl) (.inl hp.symm), hp]
  · rw [exec_portCycleStart_of_due hh hd, hu, cycleOf_nodes hl (.inr hn)]
  · rw [exec_portCycleStart_of_due hh hd, hu, cycleOf_host hp]
  · rw [exec_portCycleStart_of_due hh hd, hu, cycleOf_pair hv hp]
  · rw [exec_nodeReply_of_awaited ⟨hh, hr, hu, hl⟩ hk ⟨hm, hj, hg, hx⟩, if_pos (by simpa [ha, hc] using hb)]
  · rw [exec_nodeReply_of_awaited ⟨hh, hr, hu, hl⟩ hk ⟨hm, hj, hg, hx⟩, if_neg (by simp [ha])]
  · rw [exec_discoveryReply_of_polled ⟨hh, hr, hu, hl⟩ hp hm, if_pos hg]
    rfl
  · rw [exec_discoveryReply_of_polled ⟨hh, hr, hu, hl⟩ hp hm, if_neg (by simp [hg]), badDiscovery_modPort]
  · rw [exec_ringHeaderCheck, if_pos (by simp [hh, hu, hr])]
  · rw [exec_ringHeaderCheck, if_neg (by simp [hu])]
  · rw [exec_ringProbe, if_pos (by simp [hh, hu, hr])]
  · rw [exec_hostChannelFrame hw hu, if_pos (by simpa using hb)]
    rfl
  · rw [exec_hostChannelFrame hw hu, if_neg (by simp [hl, hs]), if_neg (by simp [hn])]
    rfl
  · rw [exec_hostChannelFrame hw hu, if_neg (by simp [hl, hs]), if_pos (by simpa using hn)]
    rfl
  · rw [exec_hostChannelDown, if_pos (by simp [hh, hu, hl])]
  · rw [exec_hostChannelDown, if_neg (by simp [hl])]

end Sys2Proof.Machine
end
